-- ==== Sys2Proof/Word.lean ====
section
/-! DEFINITION. The byte that crosses a link, and nothing else: counts, times and rates of the KM-320 are
plain numbers in the units the manual states beside them. -/

namespace Sys2Proof

/-- One byte of a frame, an image or a payload (Link Protocol, 8.1). -/
abbrev Byte := BitVec 8

/-- The byte that holds the number `n`, modulo 256. -/
def byte (n : Nat) : Byte := BitVec.ofNat 8 n

end Sys2Proof
end

