-- ==== Sys2Proof/Machine/Bytes.lean ====
section
/-! DEFINITION. Byte order and the CRC-16 of frames and plan images. Multi-byte fields are big-endian
(About This Manual, Frame fields). -/

namespace Sys2Proof.Machine

/-- A two-byte field, high byte first. -/
def be16 (n : Nat) : List Byte := [byte (n / 256), byte n]

/-- A four-byte field, high byte first. -/
def be32 (n : Nat) : List Byte := be16 (n / 65536) ++ be16 n

/-- The byte at an offset of a payload or image, 0 beyond its end. -/
def byteAt (l : List Byte) (off : Nat) : Nat := (l.getD off 0).toNat

/-- The two-byte field at an offset, high byte first. -/
def word16At (l : List Byte) (off : Nat) : Nat := byteAt l off * 256 + byteAt l (off + 1)

/-- One bit of the CRC: generator x^16 + x^12 + x^5 + 1 (R143). -/
def crcBit (crc : BitVec 16) (b : Bool) : BitVec 16 :=
  if crc.msb != b then (crc <<< 1) ^^^ 0x1021#16 else crc <<< 1

/-- One byte of the CRC, most significant bit first (R143). -/
def crcByte (crc : BitVec 16) (b : Byte) : BitVec 16 :=
  [7, 6, 5, 4, 3, 2, 1, 0].foldl (fun c k => crcBit c (b.getLsbD k)) crc

/-- The CRC-16 of a list of bytes: initial value all ones, no final inversion (R143). -/
def crc16 (l : List Byte) : BitVec 16 := l.foldl crcByte 0xFFFF#16

/-- The two CRC bytes of a frame or image, high byte first. -/
def crcBytes (l : List Byte) : List Byte := be16 (crc16 l).toNat

end Sys2Proof.Machine
end

