-- ==== Sys2Proof/Syntax.lean ====
section
/-! DEFINITION. The commands of the KM-320: one constructor for each row of spec/opcode_table.json. -/

namespace Sys2Proof

/-- The two serial links: Link L (local cabinet controller) and Link C (corridor communications unit). -/
inductive LinkId where
  | L
  | C
deriving DecidableEq, Repr

/-- The two watches of a lamp drive (R113): OUT compares while the drive is commanded on, LIT while it is off. -/
inductive WatchKind where
  | out
  | lit
deriving DecidableEq, Repr

/-- The commands. A request row carries the link its frame came on, the frame's tag and its whole payload, as the
frame held them: the checks of a request's length and fields are part of its meaning. An event row carries what it
happens to: `d` is detector input D(d+1), `lane` is lane (lane+1), `drive` is drive (drive+1).

A request row stands for the moment a link's chip select is released after a valid frame (R144). -/
inductive Instr where
  /-- Power-on (R41, R141 and the other reset rules). -/
  | powerOn
  /-- The reset line is asserted (R141). -/
  | resetLine
  /-- A link's chip select is asserted (R145). -/
  | chipSelectAsserted (link : LinkId)
  /-- A transaction that is no valid frame ends; `bytes` are the bytes clocked in (R144). -/
  | badFrame (link : LinkId) (bytes : List Byte)
  /-- A valid frame whose kind is not in the request summary (R146). -/
  | unknownKind (link : LinkId) (kind tag : Byte) (payload : List Byte)
  /-- Request 0x01 (R145). -/
  | nop (link : LinkId) (tag : Byte) (payload : List Byte)
  /-- Request 0x02 (R147). -/
  | keepalive (link : LinkId) (tag : Byte) (payload : List Byte)
  /-- Request 0x03 (R151). -/
  | configureLink (link : LinkId) (tag : Byte) (payload : List Byte)
  /-- Request 0x04 (R159). -/
  | readStatus (link : LinkId) (tag : Byte) (payload : List Byte)
  /-- Request 0x05 (R156). -/
  | readEvents (link : LinkId) (tag : Byte) (payload : List Byte)
  /-- Request 0x06 (R38). -/
  | readRecord (link : LinkId) (tag : Byte) (payload : List Byte)
  /-- Request 0x07 (R160). -/
  | readCapabilities (link : LinkId) (tag : Byte) (payload : List Byte)
  /-- Request 0x08 (R157). -/
  | flushEvents (link : LinkId) (tag : Byte) (payload : List Byte)
  /-- Request 0x09 (R39). -/
  | flushRecords (link : LinkId) (tag : Byte) (payload : List Byte)
  /-- Request 0x10 (R133). -/
  | openPlan (link : LinkId) (tag : Byte) (payload : List Byte)
  /-- Request 0x11 (R134). -/
  | planData (link : LinkId) (tag : Byte) (payload : List Byte)
  /-- Request 0x12 (R136). -/
  | commitPlan (link : LinkId) (tag : Byte) (payload : List Byte)
  /-- Request 0x13 (R137). -/
  | abortPlan (link : LinkId) (tag : Byte) (payload : List Byte)
  /-- Request 0x14 (R138). -/
  | selectPlan (link : LinkId) (tag : Byte) (payload : List Byte)
  /-- Request 0x20 (R90). -/
  | requestMetering (link : LinkId) (tag : Byte) (payload : List Byte)
  /-- Request 0x21 (R53, R54). -/
  | rateOrder (link : LinkId) (tag : Byte) (payload : List Byte)
  /-- Request 0x22 (R55). -/
  | cancelOrder (link : LinkId) (tag : Byte) (payload : List Byte)
  /-- Request 0x23 (R99). -/
  | hold (link : LinkId) (tag : Byte) (payload : List Byte)
  /-- Request 0x24 (R100). -/
  | resume (link : LinkId) (tag : Byte) (payload : List Byte)
  /-- Request 0x25 (R119). -/
  | clearFaultLane (link : LinkId) (tag : Byte) (payload : List Byte)
  /-- Request 0x30, Link C only (R26). -/
  | intervalMark (link : LinkId) (tag : Byte) (payload : List Byte)
  /-- Request 0x40, Link L only (R126). -/
  | writeLimits (link : LinkId) (tag : Byte) (payload : List Byte)
  /-- Request 0x41, Link L only (R128). -/
  | lockLimits (link : LinkId) (tag : Byte) (payload : List Byte)
  /-- Request 0x42, Link L only (R2, R4). -/
  | writeDetectorMap (link : LinkId) (tag : Byte) (payload : List Byte)
  /-- Request 0x43, Link L only (R102). -/
  | enterManual (link : LinkId) (tag : Byte) (payload : List Byte)
  /-- Request 0x44, Link L only (R103). -/
  | setAspect (link : LinkId) (tag : Byte) (payload : List Byte)
  /-- Request 0x45, Link L only (R104). -/
  | setBeacon (link : LinkId) (tag : Byte) (payload : List Byte)
  /-- Request 0x46, Link L only (R105). -/
  | exitManual (link : LinkId) (tag : Byte) (payload : List Byte)
  /-- Request 0x47, Link L only (R107). -/
  | clearFaultMeter (link : LinkId) (tag : Byte) (payload : List Byte)
  /-- Request 0x48, Link L only (R153). -/
  | softReset (link : LinkId) (tag : Byte) (payload : List Byte)
  /-- The raw level of detector pin `d` becomes `level`, on = vehicle present (R5). -/
  | detectorRawChange (d : Fin 16) (level : Bool)
  /-- The filter timer of input `d` runs out (R5). -/
  | filterTimerExpiry (d : Fin 16)
  /-- The stuck timer of input `d` reaches stuck_time (R9). -/
  | stuckTimerExpiry (d : Fin 16)
  /-- With mark_sync OFF, elapsed reaches interval_len (R24). -/
  | intervalTimedExpiry
  /-- With mark_sync ON, elapsed reaches interval_len + mark_tol (R25). -/
  | freeRunExpiry
  /-- The completed record of the closed interval is placed (R32). -/
  | recordPlaced
  /-- A counting on-run reaches spill_time (R50). -/
  | spillOn
  /-- Every counting off-run has reached spill_clear (R51). -/
  | spillOff
  /-- The expiry timer of a link's rate order runs out (R56). -/
  | orderExpired (link : LinkId)
  /-- The hold timer runs out (R101). -/
  | holdExpired
  /-- A release green's phase timer runs out (R71). -/
  | greenTimerExpiry (lane : Fin 3)
  /-- An amber's phase timer runs out (R71). -/
  | amberTimerExpiry (lane : Fin 3)
  /-- A lane's minimum red runs out (R71). -/
  | redTimerExpiry (lane : Fin 3)
  /-- The headway timer reaches H (R76). -/
  | headwayExpiry
  /-- A lane's grace timer runs out (R83). -/
  | graceExpiry (lane : Fin 3)
  /-- A lane's green age reaches site green_min with an order held for it (R72). -/
  | greenMinReached (lane : Fin 3)
  /-- The startup rest timer runs out (R95). -/
  | startupRestExpiry
  /-- The shutdown rest timer runs out (R97). -/
  | shutdownRestExpiry
  /-- The sense input of a drive becomes `lit` (R113). -/
  | lampSenseChange (drive : Fin 10) (lit : Bool)
  /-- A drive's blanking timer runs out (R112). -/
  | blankingExpiry (drive : Fin 10)
  /-- A SUSPECT watch's deglitch timer reaches lamp_deglitch (R113). -/
  | deglitchExpiry (drive : Fin 10) (watch : WatchKind)
  /-- A LATCHED watch's proof timer reaches lamp_deglitch (R114). -/
  | proofExpiry (drive : Fin 10) (watch : WatchKind)
  /-- The staging claim timer runs out (R135). -/
  | stagingTimeout
  /-- A link's supervision window reaches t_hi (R149). -/
  | lateViolation (link : LinkId)
deriving DecidableEq, Repr

end Sys2Proof
end

