-- ==== Sys2Proof/Machine/Frame.lean ====
section
/-! DEFINITION. Request frames: their bytes, the checks of R144, and the request summary (8.2). -/

namespace Sys2Proof.Machine

/-- The longest request payload (8.1). -/
def maxPayload : Nat := 250

/-- The longest transaction of a valid frame, fill bytes included (R144). -/
def maxTransaction : Nat := 300

/-- The bytes of a request frame (8.1). -/
def requestFrame (kind tag : Byte) (payload : List Byte) : List Byte :=
  let body := kind :: tag :: byte payload.length :: payload
  body ++ crcBytes body

/-- The kind, tag and payload of the bytes clocked in during a transaction, or none for a bad frame (R144). -/
def parseFrame (bytes : List Byte) : Option (Byte × Byte × List Byte) :=
  match bytes with
  | kind :: tag :: len :: rest =>
    let n := len.toNat
    let agrees := decide (5 + n ≤ bytes.length) && rest.drop (n + 2) == List.replicate (rest.length - (n + 2)) 0
      && decide (bytes.length ≤ maxTransaction)
    if agrees && decide (n ≤ maxPayload) && (rest.drop n).take 2 == crcBytes (kind :: tag :: len :: rest.take n)
    then some (kind, tag, rest.take n)
    else none
  | _ => none

/-- The request a kind stands for, with the link its frame came on: the request summary (8.2). -/
def requestOf (kind : Byte) (link : LinkId) (tag : Byte) (payload : List Byte) : Instr :=
  match kind.toNat with
  | 0x01 => .nop link tag payload
  | 0x02 => .keepalive link tag payload
  | 0x03 => .configureLink link tag payload
  | 0x04 => .readStatus link tag payload
  | 0x05 => .readEvents link tag payload
  | 0x06 => .readRecord link tag payload
  | 0x07 => .readCapabilities link tag payload
  | 0x08 => .flushEvents link tag payload
  | 0x09 => .flushRecords link tag payload
  | 0x10 => .openPlan link tag payload
  | 0x11 => .planData link tag payload
  | 0x12 => .commitPlan link tag payload
  | 0x13 => .abortPlan link tag payload
  | 0x14 => .selectPlan link tag payload
  | 0x20 => .requestMetering link tag payload
  | 0x21 => .rateOrder link tag payload
  | 0x22 => .cancelOrder link tag payload
  | 0x23 => .hold link tag payload
  | 0x24 => .resume link tag payload
  | 0x25 => .clearFaultLane link tag payload
  | 0x30 => .intervalMark link tag payload
  | 0x40 => .writeLimits link tag payload
  | 0x41 => .lockLimits link tag payload
  | 0x42 => .writeDetectorMap link tag payload
  | 0x43 => .enterManual link tag payload
  | 0x44 => .setAspect link tag payload
  | 0x45 => .setBeacon link tag payload
  | 0x46 => .exitManual link tag payload
  | 0x47 => .clearFaultMeter link tag payload
  | 0x48 => .softReset link tag payload
  | _ => .unknownKind link kind tag payload

/-- The kinds of the request summary (8.2). -/
def summaryKinds : List Byte :=
  [0x01, 0x02, 0x03, 0x04, 0x05, 0x06, 0x07, 0x08, 0x09, 0x10, 0x11, 0x12, 0x13, 0x14, 0x20, 0x21, 0x22, 0x23, 0x24,
    0x25, 0x30, 0x40, 0x41, 0x42, 0x43, 0x44, 0x45, 0x46, 0x47, 0x48]

/-- The link, kind, tag and payload of a command that a valid frame carries; none for the other commands. -/
def requestParts : Instr → Option (LinkId × Byte × Byte × List Byte)
  | .unknownKind link kind tag payload => some (link, kind, tag, payload)
  | .nop link tag payload => some (link, 0x01, tag, payload)
  | .keepalive link tag payload => some (link, 0x02, tag, payload)
  | .configureLink link tag payload => some (link, 0x03, tag, payload)
  | .readStatus link tag payload => some (link, 0x04, tag, payload)
  | .readEvents link tag payload => some (link, 0x05, tag, payload)
  | .readRecord link tag payload => some (link, 0x06, tag, payload)
  | .readCapabilities link tag payload => some (link, 0x07, tag, payload)
  | .flushEvents link tag payload => some (link, 0x08, tag, payload)
  | .flushRecords link tag payload => some (link, 0x09, tag, payload)
  | .openPlan link tag payload => some (link, 0x10, tag, payload)
  | .planData link tag payload => some (link, 0x11, tag, payload)
  | .commitPlan link tag payload => some (link, 0x12, tag, payload)
  | .abortPlan link tag payload => some (link, 0x13, tag, payload)
  | .selectPlan link tag payload => some (link, 0x14, tag, payload)
  | .requestMetering link tag payload => some (link, 0x20, tag, payload)
  | .rateOrder link tag payload => some (link, 0x21, tag, payload)
  | .cancelOrder link tag payload => some (link, 0x22, tag, payload)
  | .hold link tag payload => some (link, 0x23, tag, payload)
  | .resume link tag payload => some (link, 0x24, tag, payload)
  | .clearFaultLane link tag payload => some (link, 0x25, tag, payload)
  | .intervalMark link tag payload => some (link, 0x30, tag, payload)
  | .writeLimits link tag payload => some (link, 0x40, tag, payload)
  | .lockLimits link tag payload => some (link, 0x41, tag, payload)
  | .writeDetectorMap link tag payload => some (link, 0x42, tag, payload)
  | .enterManual link tag payload => some (link, 0x43, tag, payload)
  | .setAspect link tag payload => some (link, 0x44, tag, payload)
  | .setBeacon link tag payload => some (link, 0x45, tag, payload)
  | .exitManual link tag payload => some (link, 0x46, tag, payload)
  | .clearFaultMeter link tag payload => some (link, 0x47, tag, payload)
  | .softReset link tag payload => some (link, 0x48, tag, payload)
  | .powerOn | .resetLine | .chipSelectAsserted _ | .badFrame _ _ => none
  | .detectorRawChange _ _ | .filterTimerExpiry _ | .stuckTimerExpiry _ => none
  | .intervalTimedExpiry | .freeRunExpiry | .recordPlaced | .spillOn | .spillOff => none
  | .orderExpired _ | .holdExpired => none
  | .greenTimerExpiry _ | .amberTimerExpiry _ | .redTimerExpiry _ | .headwayExpiry | .graceExpiry _ => none
  | .greenMinReached _ | .startupRestExpiry | .shutdownRestExpiry => none
  | .lampSenseChange _ _ | .blankingExpiry _ | .deglitchExpiry _ _ | .proofExpiry _ _ => none
  | .stagingTimeout | .lateViolation _ => none

/-- Which links a request may come on (8.2). -/
inductive Permitted where
  | either | onlyL | onlyC
deriving DecidableEq, Repr

/-- A request marked for one link alone is not permitted on the other (R146). -/
def Permitted.allows : Permitted → LinkId → Bool
  | .either, _ => true
  | .onlyL, .L => true
  | .onlyL, .C => false
  | .onlyC, .L => false
  | .onlyC, .C => true

end Sys2Proof.Machine
end

