-- ==== Sys2Proof/Decode.lean ====
section
/-! DEFINITION. Decoding. The rows of spec/opcode_table.json give no bits, so no word spells a command; what the
hardware itself decodes are the bytes of a transaction, and that decoding is written here too. -/

namespace Sys2Proof

/-- The command a word spells by the table's bits: none, because no row of the table gives bits. -/
def decodeTableWord (_nbits _w : Nat) : Option Instr := none

/-- The command that the bytes clocked in on a link stand for when its chip select is released (R144, R146). -/
def decodeTransaction (link : LinkId) (bytes : List Byte) : Instr :=
  match Machine.parseFrame bytes with
  | some (kind, tag, payload) => Machine.requestOf kind link tag payload
  | none => .badFrame link bytes

/-- The request frame of a command that a valid frame carries, with `fill` bytes of 0 clocked in after it (R143);
none for a command that comes from no frame. -/
def encodeTransaction (fill : Nat) (i : Instr) : Option (List Byte) :=
  (Machine.requestParts i).map fun (_, kind, tag, payload) =>
    Machine.requestFrame kind tag payload ++ List.replicate fill 0

end Sys2Proof
end

