-- ==== Sys2Proof/Config.lean ====
section
/-! DEFINITION. What the manual leaves open: the free values, constants with no body, so that no proof
can see what they are. -/

namespace Sys2Proof

/-- Which of several expiries that fall due at one moment is taken first. The manual gives the outcome of either
order (About This Manual, Timing) and never the order itself, so the choice is free: `expiryChoice n` is the
`n`-th such choice, read modulo the number of expiries that are due. DESIGN CHOICE, safe (log entry 1). -/
opaque Config.expiryChoice : Nat → Nat

/-- What a reset leaves where the manual says that it is undefined: the stored feedback value and r_prev (R67, R68).
`undefinedRate n` is the `n`-th such value. DESIGN CHOICE, safe (log entry 2). -/
opaque Config.undefinedRate : Nat → BitVec 16

end Sys2Proof
end

