-- ==== Sys2Proof/Machine/State.lean ====
section
/-! DEFINITION. The state of the KM-320, block by block as the manual divides it (About This Manual, Block
overview), the reasons a step can stop, and the machine right after power-on. -/

namespace Sys2Proof.Machine

/-- Why a step faults: never. The manual stops no command of this part, so the type has no constructor. -/
inductive Fault where
deriving DecidableEq, Repr

/-- Why a step is refused. -/
inductive Refusal where
  /-- Raised by `exec` alone, for a command that has no meaning yet (none is left). Safe: no next state is given. -/
  | notModelled (mnemonic : String)
deriving DecidableEq, Repr

/-- One value for each of the two links. -/
structure PerLink (α : Type) where
  L : α
  C : α
deriving DecidableEq, Repr

/-- The value of a link. -/
def PerLink.get {α : Type} (p : PerLink α) : LinkId → α
  | .L => p.L
  | .C => p.C

/-- The pair with one link's value replaced. -/
def PerLink.set {α : Type} (p : PerLink α) (l : LinkId) (x : α) : PerLink α :=
  match l with
  | .L => { p with L := x }
  | .C => { p with C := x }

/-! ### Detector front end (R1 to R22), with the counter's accumulators and the rate computer's spill run -/

/-- The role of an input (R1). -/
inductive Role where
  | unused | downstream | upstream | demand | passage | queue | spillback
deriving DecidableEq, Repr

/-- What a fault of an input is worth (1.1, fault_mode). -/
inductive FaultMode where
  | ignore | warn | exclude
deriving DecidableEq, Repr

/-- One entry of the detector map (1.1). `lane` is absent for roles other than DEMAND and PASSAGE. -/
structure MapEntry where
  role         : Role
  lane         : Option (Fin 3)
  onFilter     : Nat   -- cs
  offFilter    : Nat   -- cs
  stuckTime    : Nat   -- s
  chatterLimit : Nat
  faultMode    : FaultMode
deriving DecidableEq, Repr

/-- A counting spill run (R49): on or off, and the time in cs since it began. -/
structure SpillRun where
  on   : Bool
  time : Nat
deriving DecidableEq, Repr

/-- Everything the part keeps for one detector input. -/
structure Input where
  entry        : MapEntry
  raw          : Bool            -- the pin
  cond         : Bool            -- conditioned state (R5)
  filter       : Option Nat      -- cs left on a running filter timer (R5)
  stuck        : Nat             -- stuck timer, cs (R9)
  chatter      : Nat             -- rising edges of this interval, to 256 (R6)
  faultStuck   : Bool            -- stuck-on fault present (R9)
  faultChatter : Bool            -- chatter fault present (R11)
  faultOff     : Bool            -- failed-off fault present (R14)
  seen         : Bool            -- fault-seen mark (R17)
  volume       : Nat             -- the interval counter's, to 65535 (R30)
  onTime       : Nat             -- the interval counter's, cs (R30)
  run          : Option SpillRun -- the rate computer's; none while the input does not count (R49)
deriving DecidableEq, Repr

/-- What the DFE keeps for one lane. -/
structure DfeLane where
  failedOff   : Nat    -- failed-off count, 0 to 3 (R13)
  substituted : Bool   -- demand-substituted mark of this interval (R19)
deriving DecidableEq, Repr

/-! ### Meter modes (R89 to R110) -/

/-- The seven meter modes. -/
inductive Mode where
  | dark | startup | metering | hold | shutdown | manual | faultDark
deriving DecidableEq, Repr

/-- The sequence phase; `idle` is none. -/
inductive Phase where
  | idle | rest | clearing | stopping | finishing | resting
deriving DecidableEq, Repr

/-- The activation request of a link (R90). -/
inductive Activation where
  | none | on | off | auto
deriving DecidableEq, Repr

/-- The resolved request (R91). -/
inductive Resolved where
  | on | off | auto
deriving DecidableEq, Repr

/-- The hold record (R99): its owner and the cs left on its timer. -/
structure HoldRecord where
  owner : LinkId
  timer : Nat
deriving DecidableEq, Repr

/-- A pending aspect of MANUAL (R103). -/
inductive Aspect where
  | off | red | green
deriving DecidableEq, Repr

/-- The mode controller (5.). -/
structure ModeController where
  mode     : Mode
  phase    : Phase
  seqTimer : Nat                        -- cs left in a green rest; 0 when stopped
  beacon   : Bool                       -- beacon command
  requests : PerLink Activation
  resolved : Resolved
  onRun    : Nat                        -- 0 to 10 (R93)
  offRun   : Nat                        -- 0 to 10 (R93)
  hold     : Option HoldRecord
  aspects  : Vector (Option Aspect) 3
deriving DecidableEq, Repr

/-! ### Release scheduler (R69 to R88) -/

/-- The seven lane states (R69). -/
inductive LaneState where
  | off | restGreen | green | amber | red | ready | faulted
deriving DecidableEq, Repr

/-- An order held until the green age reaches site green_min (R72). -/
inductive HeldOrder where
  | clear | stop
deriving DecidableEq, Repr

/-- The counting window of a lane (R83); `counted` says that a release has been counted in it. -/
inductive Window where
  | closed
  | opened (counted : Bool)
  | inGrace (counted : Bool) (left : Nat)   -- cs left of the grace
deriving DecidableEq, Repr

/-- One lane machine. -/
structure Lane where
  state      : LaneState
  timer      : Option Nat    -- cs left in a timed GREEN, AMBER or RED; none in an untimed state
  duration   : Nat           -- cs the running phase took at its onset (R70)
  age        : Nat           -- green age, cs (R70)
  window     : Window
  held       : Option HeldOrder
  restAwaits : Bool          -- a rest order taken in GREEN or AMBER waits for the lane's red (R72)
  toOff      : Bool          -- a stop order makes the running amber end in OFF (R72)
  afterRest  : Bool          -- the running amber follows a REST_GREEN (R84)
  sinceRest  : Option Nat    -- cs since such an amber ended, while not above 100 (R84)
  releases   : Nat           -- 0 to 255 (R85)
  extras     : Nat           -- 0 to 255 (R85)
  violations : Nat           -- 0 to 255 (R85)
deriving DecidableEq, Repr

/-- The release scheduler (4.). -/
structure Scheduler where
  lanes          : Vector Lane 3
  ring           : List (Fin 3)   -- head first (R73)
  elapsed        : Nat            -- headway timer, cs; running, frozen or stopped by the mode (R75)
  headway        : Nat            -- H last handed over, cs
  releasePending : Bool
deriving DecidableEq, Repr

/-! ### Rate computer (R43 to R68) -/

/-- Where the stored feedback value came from; `clear` is its state after a reset (R67). -/
inductive Basis where
  | clear | feedback | fixed
deriving DecidableEq, Repr

/-- The source tags (R63). -/
inductive Tag where
  | feedback | fixed | orderFloor | capPlan | capL | capC | queueFloor | spill | ceiling | absMin
deriving DecidableEq, Repr

/-- A link's rate order (R54): optional cap and floor in veh/h, and the cs left on an optional expiry timer. -/
structure RateOrder where
  cap   : Option Nat
  floor : Option Nat
  timer : Option Nat
deriving DecidableEq, Repr

/-- The applied rate, source tag and headway in force (R62). -/
structure RateOut where
  rate    : Nat
  tag     : Tag
  headway : Nat
deriving DecidableEq, Repr

/-- The rate computer (3.). `inForce` is none while it is disengaged (R43). -/
structure RateComputer where
  rFb          : Nat
  basis        : Basis
  rPrev        : Nat
  fallbackMark : Bool
  floorActive  : Bool
  spillActive  : Bool
  orders       : PerLink (Option RateOrder)
  inForce      : Option RateOut
deriving DecidableEq, Repr

/-! ### Lamp driver and prover (R111 to R125) -/

/-- A watch of a drive with the time its timer has run and the lamp_deglitch it was started with (R113, R114):
a SUSPECT watch has a deglitch timer, a LATCHED one a proof timer while its drive shows good. -/
inductive WatchState where
  | clear
  | suspect (elapsed limit : Nat)
  | latched (proof : Option (Nat × Nat))
deriving DecidableEq, Repr

/-- One lamp drive. -/
structure Drive where
  commanded : Bool
  sensed    : Bool           -- the sense pin
  blank     : Option Nat     -- cs left on a running blanking timer (R112)
  out       : WatchState
  lit       : WatchState
deriving DecidableEq, Repr

/-! ### Plan store and site limits (R126 to R142) -/

/-- The state of a slot (R131). -/
inductive SlotState where
  | empty | valid | invalid
deriving DecidableEq, Repr

/-- A plan slot: its state and its 48-byte image. -/
structure Slot where
  status : SlotState
  image  : List Byte
deriving DecidableEq, Repr

/-- The staging claim (R133): holder, target slot and the cs left on the claim timer. -/
structure Claim where
  holder : LinkId
  target : Fin 8
  timer  : Nat
deriving DecidableEq, Repr

/-- The plan store (7.). `plan` is the plan in force, a copy of a slot's image. -/
structure PlanStore where
  slots       : Vector Slot 8
  plan        : Option (List Byte)
  active      : Option (Fin 8)
  pendingSlot : Option (Fin 8)
  buffer      : List Byte
  claim       : Option Claim
deriving DecidableEq, Repr

/-- red_scope (R115). -/
inductive RedScope where
  | lane | all
deriving DecidableEq, Repr

/-- amber_mode (R115). -/
inductive AmberMode where
  | warn | fault
deriving DecidableEq, Repr

/-- absent_fallback (R91). -/
inductive Fallback where
  | continue | shutdown
deriving DecidableEq, Repr

/-- The fourteen fields of the site limits table (7.1). -/
structure SiteLimits where
  greenMin       : Nat        -- ds
  amberMin       : Nat        -- ds
  redMin         : Nat        -- ds
  staggerMin     : Nat        -- ds
  rAbsMin        : Nat        -- veh/h
  holdMax        : Nat        -- s
  lampBlank      : Nat        -- cs
  lampDeglitch   : Nat        -- cs
  redScope       : RedScope
  amberMode      : AmberMode
  absentFallback : Fallback
  intervalLen    : Nat        -- s
  markSync       : Bool
  markTol        : Nat        -- s
deriving DecidableEq, Repr

/-! ### Interval counter and record queues (R23 to R42) -/

/-- Close causes (2.). -/
inductive Cause where
  | timed | mark | freeRun
deriving DecidableEq, Repr

/-- Interval health of an input (R17). -/
inductive Health where
  | ok | warn | excluded
deriving DecidableEq, Repr

/-- A detector entry of a record (R33). -/
structure DetEntry where
  input     : Fin 16
  role      : Role
  volume    : Nat
  occupancy : Nat
  health    : Health
deriving DecidableEq, Repr

/-- A lane entry of a record (R34). -/
structure LaneEntry where
  state       : LaneState
  releases    : Nat
  extras      : Nat
  violations  : Nat
  substituted : Bool
deriving DecidableEq, Repr

/-- One interval record (2.5). -/
structure IntervalRecord where
  number      : Nat
  cause       : Cause
  duration    : Nat
  next        : Nat
  mode        : Mode
  slot        : Option (Fin 8)
  om          : Option Nat
  rate        : Option RateOut
  floorActive : Bool
  spillActive : Bool
  lanes       : List LaneEntry
  dets        : List DetEntry
deriving DecidableEq, Repr

/-- A completed record that waits to be placed, with the automatic start or stop its close decided (R32, R93). -/
structure Waiting where
  record    : IntervalRecord
  autoStart : Bool
  autoStop  : Bool
deriving DecidableEq, Repr

/-- The interval counter; the accumulators stand with their inputs. -/
structure Counter where
  number  : Nat              -- 0 to 65535
  elapsed : Nat              -- cs
  waiting : Option Waiting
deriving DecidableEq, Repr

/-! ### Link interfaces (R143 to R154) -/

/-- Link states (R148). -/
inductive LinkState where
  | silent | present | absent
deriving DecidableEq, Repr

/-- Status codes (8.2). -/
inductive Status where
  | accepted | badFrame | unknownKind | notPermitted | wrongMode | wrongState | busy | range | locked | notOpen
  | notOwner | noReply
deriving DecidableEq, Repr

/-- A reply, without its length and CRC bytes, which the rest determines (8.1). -/
structure Reply where
  kind    : Byte
  tag     : Byte
  status  : Status
  payload : List Byte
deriving DecidableEq, Repr

/-- The transaction of a link: none, one with its chip select asserted and the reply it shifts out, or one that a
reset has cut short and that still has its chip select asserted (R144, R145). -/
inductive Transaction where
  | idle
  | active (reply : Reply)
  | cutShort
deriving DecidableEq, Repr

/-- One link interface (8.). The supervision window runs while the link is PRESENT and t_hi is not 0 (R149). -/
structure LinkInterface where
  state         : LinkState
  tLo           : Nat         -- ds
  tHi           : Nat         -- ds
  count         : Nat         -- 1 or 3
  keepaliveOnly : Bool        -- supervising frames
  depth         : Nat         -- record queue depth
  threshold     : Nat         -- event flag threshold
  attnOnRecord  : Bool
  window        : Nat         -- elapsed, cs
  violations    : Nat         -- 0 to 3
  lastReply     : Reply
  transaction   : Transaction
  attention     : Bool        -- the line, asserted or released (R152)
deriving DecidableEq, Repr

/-! ### Event queues (R155 to R161) -/

/-- The event kinds (9.1). -/
inductive EventKind where
  | reset | modeChange | intervalClosed | markEarly | markMissed | detFault | detRecovered | lampWarn | laneFault
  | meterFault | faultCleared | linkAbsent | linkPresent | supervisionViolation | orderExpired | orderWithdrawn
  | holdExpired | holdEndedSpill | holdWithdrawn | queueFloorOn | queueFloorOff | spillOn | spillOff | rateFallback
  | planApplied | planInvalid | stagingTimeout | overflow
deriving DecidableEq, Repr

/-- One event entry; `detail` is the 16-bit value, its first byte the high one (9.1). -/
structure Event where
  kind    : EventKind
  subject : Nat
  detail  : Nat
  number  : Nat
  elapsed : Nat
deriving DecidableEq, Repr

/-- One event queue: entries oldest first, overflow mark and discard count. -/
structure EventQueue where
  entries  : List Event
  mark     : Bool
  discards : Nat
deriving DecidableEq, Repr

/-! ### The machine -/

/-- The state of the KM-320. The last two fields are the model's own: the commands that wait, first in, first out,
and how many free values have been taken (log entries 1 and 2). -/
structure State where
  inputs   : Vector Input 16
  dfeLanes : Vector DfeLane 3
  counter  : Counter
  records  : PerLink (List IntervalRecord)
  rate     : RateComputer
  sched    : Scheduler
  meter    : ModeController
  drives   : Vector Drive 10
  plans    : PlanStore
  limits   : SiteLimits
  locked   : Bool
  links    : PerLink LinkInterface
  events   : PerLink EventQueue
  pending  : List Instr
  choices  : Nat
deriving DecidableEq, Repr

/-! ### Reset values -/

/-- The map entry after power-on and the reset line (R21). -/
def MapEntry.reset : MapEntry :=
  { role := .unused, lane := none, onFilter := 0, offFilter := 0, stuckTime := 0, chatterLimit := 0, faultMode := .ignore }

/-- An input after power-on with its pin off (R21, R41, R67). -/
def Input.reset : Input :=
  { entry := .reset, raw := false, cond := false, filter := none, stuck := 0, chatter := 0, faultStuck := false,
    faultChatter := false, faultOff := false, seen := false, volume := 0, onTime := 0, run := none }

/-- A lane after power-on (R87). R87 gives no duration of a running phase; it is 0 (DESIGN CHOICE, log entry 40). -/
def Lane.reset : Lane :=
  { state := .off, timer := none, duration := 0, age := 0, window := .closed, held := none, restAwaits := false,
    toOff := false, afterRest := false, sinceRest := none, releases := 0, extras := 0, violations := 0 }

/-- The mode controller after any reset (R109, R110). -/
def ModeController.reset : ModeController :=
  { mode := .dark, phase := .idle, seqTimer := 0, beacon := false, requests := ⟨.none, .none⟩, resolved := .off,
    onRun := 0, offRun := 0, hold := none, aspects := Vector.replicate 3 none }

/-- The rate computer right after power-on (R67). R67 calls the stored feedback value and r_prev undefined: they hold
0 here, DESIGN CHOICE, unsafe (log entry 2). -/
def RateComputer.reset : RateComputer :=
  { rFb := 0, basis := .clear, rPrev := 0, fallbackMark := false, floorActive := false, spillActive := false,
    orders := ⟨none, none⟩, inForce := none }

/-- The default limits (7.1). -/
def SiteLimits.default : SiteLimits :=
  { greenMin := 15, amberMin := 10, redMin := 15, staggerMin := 12, rAbsMin := 240, holdMax := 300, lampBlank := 10,
    lampDeglitch := 20, redScope := .all, amberMode := .warn, absentFallback := .shutdown, intervalLen := 30,
    markSync := false, markTol := 2 }

/-- A drive after power-on with its sense input unlit: commanded off, blanked for the default lamp_blank (R124). -/
def Drive.reset : Drive :=
  { commanded := false, sensed := false, blank := some SiteLimits.default.lampBlank, out := .clear, lit := .clear }

/-- The default plan image (R130); its last two bytes are the check word of bytes 0 to 41. -/
def defaultImage : List Byte :=
  [0, 1, 0, 0] ++ be16 200 ++ be16 0 ++ be16 600 ++ be16 1800 ++ be16 900 ++ be16 20 ++ be16 10 ++ be16 20 ++
    be16 10 ++ be16 10 ++ List.replicate 22 0 ++ [0x40, 0x0B]

/-- The plan store after power-on (R141). -/
def PlanStore.reset : PlanStore :=
  { slots := Vector.replicate 8 ⟨.empty, defaultImage⟩, plan := none, active := none, pendingSlot := none,
    buffer := defaultImage, claim := none }

/-- NO_REPLY (R145). -/
def Reply.noReply : Reply := { kind := 0, tag := 0, status := .noReply, payload := [] }

/-- A link interface after power-on and the reset line (R154). -/
def LinkInterface.reset : LinkInterface :=
  { state := .silent, tLo := 0, tHi := 0, count := 3, keepaliveOnly := false, depth := 4, threshold := 1,
    attnOnRecord := true, window := 0, violations := 0, lastReply := .noReply, transaction := .idle, attention := true }

/-- An event queue after a reset: the RESET entry alone (R161). Causes: 1 POWER, 2 LINE, 3 SOFT. -/
def EventQueue.afterReset (cause number : Nat) : EventQueue :=
  { entries := [{ kind := .reset, subject := 0, detail := cause, number := number, elapsed := 0 }], mark := false,
    discards := 0 }

/-- The machine right after power-on, with every detector pin off, every sense input unlit and no chip select
asserted (the pins' levels are the outside world's: DESIGN CHOICE, unsafe, log entry 3). -/
def State.reset : State :=
  { inputs := Vector.replicate 16 .reset
    dfeLanes := Vector.replicate 3 ⟨0, false⟩
    counter := { number := 0, elapsed := 0, waiting := none }
    records := ⟨[], []⟩
    rate := .reset
    sched := { lanes := Vector.replicate 3 .reset, ring := [], elapsed := 0, headway := 0, releasePending := false }
    meter := .reset
    drives := Vector.replicate 10 .reset
    plans := .reset
    limits := .default
    locked := false
    links := ⟨.reset, .reset⟩
    events := ⟨.afterReset 1 0, .afterReset 1 0⟩
    pending := []
    choices := 0 }

end Sys2Proof.Machine
end

