-- ==== Sys2Proof/Machine/Ops.lean ====
section
/-! DEFINITION. The named operations over the state: reading and updating one input, lane, drive or link, posting
events, and ending a command. -/

namespace Sys2Proof.Machine

/-- Apply a function to every element of a fixed family. -/
def mapAll {α : Type} {n : Nat} (f : α → α) (v : Vector α n) : Vector α n := Vector.ofFn fun i => f v[i]

/-- The three lanes in ascending order. -/
def allLanes : List (Fin 3) := [0, 1, 2]

/-- The sixteen inputs in ascending order. -/
def allInputs : List (Fin 16) := [0, 1, 2, 3, 4, 5, 6, 7, 8, 9, 10, 11, 12, 13, 14, 15]

/-- The ten drives in ascending order. -/
def allDrives : List (Fin 10) := [0, 1, 2, 3, 4, 5, 6, 7, 8, 9]

/-- The eight slots in ascending order. -/
def allSlots : List (Fin 8) := [0, 1, 2, 3, 4, 5, 6, 7]

/-! ### One element of a block -/

/-- What the part keeps for an input. -/
def State.input (s : State) (d : Fin 16) : Input := s.inputs[d]

/-- The state with one input replaced. -/
def State.setInput (s : State) (d : Fin 16) (x : Input) : State := { s with inputs := s.inputs.set d x }

/-- A lane machine. -/
def State.lane (s : State) (i : Fin 3) : Lane := s.sched.lanes[i]

/-- The state with one lane machine replaced; no drive is touched. -/
def State.setLane (s : State) (i : Fin 3) (x : Lane) : State :=
  { s with sched := { s.sched with lanes := s.sched.lanes.set i x } }

/-- A lamp drive. -/
def State.drive (s : State) (k : Fin 10) : Drive := s.drives[k]

/-- The state with one drive replaced. -/
def State.setDrive (s : State) (k : Fin 10) (x : Drive) : State := { s with drives := s.drives.set k x }

/-- What the DFE keeps for a lane. -/
def State.dfeLane (s : State) (i : Fin 3) : DfeLane := s.dfeLanes[i]

/-- The state with one lane's DFE part replaced. -/
def State.setDfeLane (s : State) (i : Fin 3) (x : DfeLane) : State := { s with dfeLanes := s.dfeLanes.set i x }

/-- A link interface. -/
def State.link (s : State) (l : LinkId) : LinkInterface := s.links.get l

/-- The state with one link interface replaced. -/
def State.setLink (s : State) (l : LinkId) (x : LinkInterface) : State := { s with links := s.links.set l x }

/-- The pending aspect of a lane (R103). -/
def State.aspect (s : State) (i : Fin 3) : Option Aspect := s.meter.aspects[i]

/-- The state with one lane's pending aspect replaced. -/
def State.setAspectOf (s : State) (i : Fin 3) (a : Option Aspect) : State :=
  { s with meter := { s.meter with aspects := s.meter.aspects.set i a } }

/-- The meter mode. -/
def State.mode (s : State) : Mode := s.meter.mode

/-! ### Codes that cross a link -/

/-- Link numbers: 1 Link L, 2 Link C (9.1). -/
def linkNumber : LinkId → Nat
  | .L => 1
  | .C => 2

/-- The other link. -/
def otherLink : LinkId → LinkId
  | .L => .C
  | .C => .L

/-- Meter mode codes (5.). -/
def Mode.code : Mode → Nat
  | .dark => 0 | .startup => 1 | .metering => 2 | .hold => 3 | .shutdown => 4 | .manual => 5 | .faultDark => 6

/-- Event kind codes (9.1). -/
def EventKind.code : EventKind → Nat
  | .reset => 1 | .modeChange => 2 | .intervalClosed => 3 | .markEarly => 4 | .markMissed => 5 | .detFault => 6
  | .detRecovered => 7 | .lampWarn => 8 | .laneFault => 9 | .meterFault => 10 | .faultCleared => 11
  | .linkAbsent => 12 | .linkPresent => 13 | .supervisionViolation => 14 | .orderExpired => 15
  | .orderWithdrawn => 16 | .holdExpired => 17 | .holdEndedSpill => 18 | .holdWithdrawn => 19 | .queueFloorOn => 20
  | .queueFloorOff => 21 | .spillOn => 22 | .spillOff => 23 | .rateFallback => 24 | .planApplied => 25
  | .planInvalid => 26 | .stagingTimeout => 27 | .overflow => 28

/-- Status codes (8.2). -/
def Status.code : Status → Nat
  | .accepted => 0 | .badFrame => 1 | .unknownKind => 2 | .notPermitted => 3 | .wrongMode => 4 | .wrongState => 5
  | .busy => 6 | .range => 7 | .locked => 8 | .notOpen => 9 | .notOwner => 10 | .noReply => 11

/-- A detail of two bytes, first byte high (9.1). -/
def twoBytes (hi lo : Nat) : Nat := hi * 256 + lo

/-! ### Events (R155) -/

/-- The depth of an event queue. -/
def eventDepth : Nat := 32

/-- One queue takes or discards its copy of an entry (R155). -/
def EventQueue.offer (q : EventQueue) (e : Event) : EventQueue :=
  if q.entries.length < eventDepth ∧ q.mark = false then { q with entries := q.entries ++ [e] }
  else { q with mark := true, discards := min (q.discards + 1) 65535 }

/-- Offer an entry to both queues. -/
def State.postEntry (s : State) (e : Event) : State :=
  { s with events := { L := s.events.L.offer e, C := s.events.C.offer e } }

/-- Post an event stamped with the interval counter's reading at this moment (R36, R155). -/
def State.post (s : State) (kind : EventKind) (subject detail : Nat) : State :=
  s.postEntry { kind := kind, subject := subject, detail := detail, number := s.counter.number, elapsed := s.counter.elapsed }

/-! ### The attention lines and the end of a command (R152) -/

/-- Whether a link's attention line is to be asserted (R152). -/
def attentionWanted (s : State) (l : LinkId) : Bool :=
  decide ((s.link l).threshold ≤ (s.events.get l).entries.length) ||
    ((s.link l).attnOnRecord && !(s.records.get l).isEmpty)

/-- Both lines judged from the queues and configurations as they stand (R152). -/
def State.judgeLines (s : State) : State :=
  { s with links :=
      { L := { s.links.L with attention := attentionWanted s .L }
        C := { s.links.C with attention := attentionWanted s .C } } }

/-- The end of every command: both attention lines follow the queues, and the machine goes on. -/
def finish (s : State) : Host.Outcome State Fault Refusal := .next s.judgeLines

/-! ### Replies -/

/-- What the block that owns a request makes of it: the state after it, the status and the reply payload. -/
structure Answer where
  state   : State
  status  : Status
  payload : List Byte
deriving DecidableEq, Repr

/-- A request carried out. -/
def accept (s : State) (payload : List Byte) : Answer := { state := s, status := .accepted, payload := payload }

/-- A request refused with an empty payload. -/
def refuse (s : State) (status : Status) : Answer := { state := s, status := status, payload := [] }

/-- A request refused with RANGE and a field index (8.2). -/
def refuseRange (s : State) (index : Nat) : Answer := { state := s, status := .range, payload := [byte index] }

end Sys2Proof.Machine
end

