-- ==== Sys2Proof/Machine/Demand.lean ====
section
/-! DEFINITION. What follows from the map and the faults of the inputs: which faults are detected, current exclusion,
demand and its substitution (R8, R16, R18, R78). -/

namespace Sys2Proof.Machine

/-- The fault kinds (1.3). -/
inductive FaultKind where
  | stuck | chatter | failedOff
deriving DecidableEq, Repr

/-- Fault kind codes (R15). -/
def FaultKind.code : FaultKind → Nat
  | .stuck => 1 | .chatter => 2 | .failedOff => 3

/-- Whether a fault of a kind is present on an input. -/
def Input.hasFault (x : Input) : FaultKind → Bool
  | .stuck => x.faultStuck
  | .chatter => x.faultChatter
  | .failedOff => x.faultOff

/-- An input with a fault of a kind present or not. -/
def Input.setFault (x : Input) (k : FaultKind) (v : Bool) : Input :=
  match k with
  | .stuck => { x with faultStuck := v }
  | .chatter => { x with faultChatter := v }
  | .failedOff => { x with faultOff := v }

/-- Whether any fault is present on an input. -/
def Input.anyFault (x : Input) : Bool := x.faultStuck || x.faultChatter || x.faultOff

/-- Whether fault detection runs on an input at all (R8). -/
def Input.detects (x : Input) : Bool := !(x.entry.role == .unused) && !(x.entry.faultMode == .ignore)

/-- Whether stuck detection runs (R8). -/
def Input.detectsStuck (x : Input) : Bool := x.detects && !(x.entry.stuckTime == 0)

/-- Whether chatter detection runs (R8). -/
def Input.detectsChatter (x : Input) : Bool := x.detects && !(x.entry.chatterLimit == 0)

/-- Whether an input is currently excluded (R16). -/
def Input.excluded (x : Input) : Bool := x.entry.faultMode == .exclude && x.anyFault

/-- Whether an input counts for spill (R49). -/
def Input.counts (x : Input) : Bool := x.entry.role == .spillback && !x.excluded

/-- Whether an input is the DEMAND input of a lane. -/
def Input.isDemandOf (x : Input) (i : Fin 3) : Bool := x.entry.role == .demand && x.entry.lane == some i

/-- The DEMAND input of a lane (R1). -/
def demandInput (s : State) (i : Fin 3) : Option (Fin 16) := allInputs.find? fun d => (s.input d).isDemandOf i

/-- Whether the faults of a DEMAND input put its lane's substitution in force (R18). -/
def Input.substitutes (x : Input) : Bool :=
  !(x.entry.faultMode == .ignore) &&
    (x.faultOff || x.faultStuck || (x.faultChatter && x.entry.faultMode == .exclude))

/-- Whether a lane's demand substitution is in force (R18). -/
def substitutionInForce (s : State) (i : Fin 3) : Bool :=
  match demandInput s i with
  | some d => (s.input d).substitutes
  | none => false

/-- Whether a lane has demand, as the DFE hands it over (R7, R78). -/
def hasDemand (s : State) (i : Fin 3) : Bool :=
  match demandInput s i with
  | some d => (s.input d).cond || (s.input d).substitutes
  | none => true

end Sys2Proof.Machine
end

