-- ==== Sys2Proof/Machine/Flags.lean ====
section
/-! DEFINITION. The codes and presence bits of records, replies and the status snapshot. -/

namespace Sys2Proof.Machine

/-- A number from bits, bit 0 first. -/
def bitsToNat : List Bool → Nat
  | [] => 0
  | b :: bs => (if b then 1 else 0) + 2 * bitsToNat bs

/-- 1 for set, 0 for clear. -/
def flagCode (b : Bool) : Nat := if b then 1 else 0

/-- Detector roles (1.1). -/
def Role.code : Role → Nat
  | .unused => 0 | .downstream => 1 | .upstream => 2 | .demand => 3 | .passage => 4 | .queue => 5 | .spillback => 6

/-- fault_mode (1.1). -/
def FaultMode.code : FaultMode → Nat
  | .ignore => 0 | .warn => 1 | .exclude => 2

/-- Interval health (2.8). -/
def Health.code : Health → Nat
  | .ok => 0 | .warn => 1 | .excluded => 2

/-- Lane states (2.8). -/
def LaneState.code : LaneState → Nat
  | .off => 0 | .restGreen => 1 | .green => 2 | .amber => 3 | .red => 4 | .ready => 5 | .faulted => 6

/-- Source tags (2.8). -/
def Tag.code : Tag → Nat
  | .feedback => 1 | .fixed => 2 | .orderFloor => 3 | .capPlan => 4 | .capL => 5 | .capC => 6 | .queueFloor => 7
  | .spill => 8 | .ceiling => 9 | .absMin => 10

/-- Close causes (2.). -/
def Cause.code : Cause → Nat
  | .timed => 1 | .mark => 2 | .freeRun => 3

/-- Sequence phases (9.3). -/
def Phase.code : Phase → Nat
  | .idle => 0 | .rest => 1 | .clearing => 2 | .stopping => 3 | .finishing => 4 | .resting => 5

/-- Activation requests (R90). -/
def Activation.code : Activation → Nat
  | .none => 0 | .on => 1 | .off => 2 | .auto => 3

/-- Resolved requests (R90). -/
def Resolved.code : Resolved → Nat
  | .on => 1 | .off => 2 | .auto => 3

/-- Link states (9.3). -/
def LinkState.code : LinkState → Nat
  | .silent => 0 | .present => 1 | .absent => 2

/-- Slot states (R128, R133). -/
def SlotState.code : SlotState → Nat
  | .empty => 0 | .valid => 1 | .invalid => 2

/-- Pending aspects in the snapshot (9.3). -/
def aspectCode : Option Aspect → Nat
  | none => 0
  | some .off => 1
  | some .red => 2
  | some .green => 3

/-- A slot number, 1 to 8, or 0 for none. -/
def slotCode : Option (Fin 8) → Nat
  | none => 0
  | some k => k.val + 1

/-- Whether a watch is LATCHED (R123). -/
def WatchState.isLatched : WatchState → Bool
  | .latched _ => true
  | .clear => false
  | .suspect _ _ => false

/-- Whether a watch is SUSPECT or LATCHED (R122). -/
def WatchState.isHeld : WatchState → Bool
  | .latched _ => true
  | .suspect _ _ => true
  | .clear => false

/-- The lane entry of a record in its five bytes (2.8). -/
def LaneEntry.bytes (e : LaneEntry) : List Byte :=
  [byte e.state.code, byte e.releases, byte e.extras, byte e.violations, byte (flagCode e.substituted)]

/-- The detector entry of a record in its seven bytes (2.8). -/
def DetEntry.bytes (e : DetEntry) : List Byte :=
  [byte (e.input.val + 1), byte e.role.code] ++ be16 e.volume ++ be16 e.occupancy ++ [byte e.health.code]

/-- The flags byte of a record (2.8). -/
def IntervalRecord.flags (r : IntervalRecord) : Nat :=
  bitsToNat [r.om.isSome, r.rate.isSome, r.floorActive, r.spillActive]

/-- Applied rate, source tag and headway in their five bytes; zeros when absent (2.8, 9.3). -/
def rateBytes : Option RateOut → List Byte
  | some r => be16 r.rate ++ [byte r.tag.code] ++ be16 r.headway
  | none => [0, 0, 0, 0, 0]

/-- A record as READ_RECORD returns it (2.8). -/
def IntervalRecord.bytes (r : IntervalRecord) : List Byte :=
  be16 r.number ++ [byte r.cause.code] ++ be16 r.duration ++ be16 r.next ++
    [byte r.mode.code, byte (slotCode r.slot), byte r.flags, byte r.dets.length] ++
    (r.lanes.map LaneEntry.bytes).flatten ++ be16 (r.om.getD 0) ++ rateBytes r.rate ++
    (r.dets.map DetEntry.bytes).flatten

/-- An event entry in its eight bytes (9.1). -/
def Event.bytes (e : Event) : List Byte :=
  [byte e.kind.code, byte e.subject] ++ be16 e.detail ++ be16 e.number ++ be16 e.elapsed

/-- A reply frame (8.1). -/
def Reply.bytes (r : Reply) : List Byte :=
  let body := [r.kind, r.tag, byte r.status.code, byte r.payload.length] ++ r.payload
  body ++ crcBytes body

/-- The `n`-th byte a link shifts out in the transaction under way: the reply as it stood when the chip select was
asserted, then 0 (R143, R145). For the rest of a transaction that a reset has cut short it is 0; no rule says what is
shifted out there (DESIGN CHOICE, log entry 6). -/
def LinkInterface.dataOut (l : LinkInterface) (n : Nat) : Byte :=
  match l.transaction with
  | .active r => r.bytes.getD n 0
  | .idle => 0
  | .cutShort => 0

end Sys2Proof.Machine
end

