-- ==== Sys2Proof/Machine/Operands.lean ====
section
/-! DEFINITION. The operands of the requests: the fields of their payloads, in the encodings and ranges the manual
gives them. -/

namespace Sys2Proof.Machine

/-- One check of a field: whether it passes, and the field index of a failure. -/
abbrev FieldCheck := Bool × Nat

/-- The field index of the first check that fails. -/
def firstFailure (checks : List FieldCheck) : Option Nat := (checks.find? fun c => !c.1).map (·.2)

/-- A field in a range that includes both ends. -/
def inRange (lo hi n : Nat) : Bool := decide (lo ≤ n) && decide (n ≤ hi)

/-! ### CONFIGURE LINK (R151) -/

/-- The checks of the seven fields in offset order, then t_lo below t_hi. -/
def configChecks (p : List Byte) : List FieldCheck :=
  [(inRange 0 600 (word16At p 0), 0), (inRange 0 600 (word16At p 2), 2),
   (byteAt p 4 == 1 || byteAt p 4 == 3, 4), (inRange 0 1 (byteAt p 5), 5), (inRange 2 8 (byteAt p 6), 6),
   (inRange 1 32 (byteAt p 7), 7), (inRange 0 1 (byteAt p 8), 8),
   (word16At p 2 == 0 || decide (word16At p 0 < word16At p 2), 0)]

/-! ### WRITE LIMITS (R126) -/

/-- The checks of the fourteen fields in offset order. -/
def limitsChecks (p : List Byte) : List FieldCheck :=
  [(inRange 10 40 (byteAt p 0), 0), (inRange 5 30 (byteAt p 1), 1), (inRange 10 60 (byteAt p 2), 2),
   (inRange 8 50 (byteAt p 3), 3), (inRange 120 600 (word16At p 4), 4), (inRange 10 900 (word16At p 6), 6),
   (inRange 0 25 (byteAt p 8), 8), (inRange 5 50 (byteAt p 9), 9), (inRange 0 1 (byteAt p 10), 10),
   (inRange 0 1 (byteAt p 11), 11), (inRange 0 1 (byteAt p 12), 12), (inRange 10 120 (byteAt p 13), 13),
   (inRange 0 1 (byteAt p 14), 14), (inRange 0 5 (byteAt p 15), 15)]

/-- The site limits a payload holds (7.1). -/
def limitsOf (p : List Byte) : SiteLimits :=
  { greenMin := byteAt p 0
    amberMin := byteAt p 1
    redMin := byteAt p 2
    staggerMin := byteAt p 3
    rAbsMin := word16At p 4
    holdMax := word16At p 6
    lampBlank := byteAt p 8
    lampDeglitch := byteAt p 9
    redScope := if byteAt p 10 = 0 then .lane else .all
    amberMode := if byteAt p 11 = 0 then .warn else .fault
    absentFallback := if byteAt p 12 = 0 then .continue else .shutdown
    intervalLen := byteAt p 13
    markSync := byteAt p 14 == 1
    markTol := byteAt p 15 }

/-! ### WRITE DETECTOR MAP (R2, R3) -/

/-- The role a code stands for (1.1). -/
def roleOf (n : Nat) : Role :=
  match n with
  | 1 => .downstream
  | 2 => .upstream
  | 3 => .demand
  | 4 => .passage
  | 5 => .queue
  | 6 => .spillback
  | _ => .unused

/-- The fault_mode a code stands for (1.1). -/
def faultModeOf (n : Nat) : FaultMode :=
  match n with
  | 1 => .warn
  | 2 => .exclude
  | _ => .ignore

/-- Whether a role code has a lane. -/
def roleHasLane (n : Nat) : Bool := n == 3 || n == 4

/-- The checks of one entry's fields in byte order (R2, check 4). -/
def entryChecks (p : List Byte) (d : Fin 16) : List FieldCheck :=
  let o := d.val * 8
  [(inRange 0 6 (byteAt p o), o),
   (if roleHasLane (byteAt p o) then inRange 1 3 (byteAt p (o + 1)) else byteAt p (o + 1) == 0, o + 1),
   (inRange 0 10 (byteAt p (o + 2)), o + 2), (inRange 0 10 (byteAt p (o + 3)), o + 3),
   (inRange 0 3600 (word16At p (o + 4)), o + 4), (inRange 0 255 (byteAt p (o + 6)), o + 6),
   (inRange 0 2 (byteAt p (o + 7)), o + 7)]

/-- The map entry of an input that a payload holds (1.1). -/
def entryOf (p : List Byte) (d : Fin 16) : MapEntry :=
  let o := d.val * 8
  { role := roleOf (byteAt p o)
    lane := if roleHasLane (byteAt p o) then
        match byteAt p (o + 1) with
        | 1 => some 0
        | 2 => some 1
        | 3 => some 2
        | _ => none
      else none
    onFilter := byteAt p (o + 2)
    offFilter := byteAt p (o + 3)
    stuckTime := word16At p (o + 4)
    chatterLimit := byteAt p (o + 6)
    faultMode := faultModeOf (byteAt p (o + 7)) }

/-- How many inputs up to and including `d` have a role, and for DEMAND and PASSAGE the same lane, as `d` has (R3). -/
def tallyAt (p : List Byte) (d : Fin 16) : Nat :=
  (allInputs.filter fun e => decide (e.val ≤ d.val) && (entryOf p e).role == (entryOf p d).role
    && (entryOf p e).lane == (entryOf p d).lane).length

/-- The structural check of one entry: its tally does not pass its limit (R3). -/
def structureCheck (p : List Byte) (d : Fin 16) : FieldCheck :=
  (match (entryOf p d).role with
    | .demand => decide (tallyAt p d ≤ 1)
    | .passage => decide (tallyAt p d ≤ 1)
    | .queue => decide (tallyAt p d ≤ 2)
    | .spillback => decide (tallyAt p d ≤ 2)
    | .unused => true
    | .downstream => true
    | .upstream => true, d.val * 8)

/-- Checks 4 and 5 of R2, in order. -/
def mapChecks (p : List Byte) : List FieldCheck :=
  (allInputs.map (entryChecks p)).flatten ++ allInputs.map (structureCheck p)

/-! ### RATE ORDER (R53) -/

/-- A presence flag of byte 0. -/
def orderFlag (p : List Byte) (k : Nat) : Bool := (p.getD 0 0).getLsbD k

/-- A cap or floor clamped to 120 to 3600 veh/h (R53). -/
def clampRate (n : Nat) : Nat := max 120 (min n 3600)

/-- The cap a payload holds, clamped. -/
def orderCap (p : List Byte) : Option Nat := if orderFlag p 0 then some (clampRate (word16At p 1)) else none

/-- The floor a payload holds, clamped. -/
def orderFloor (p : List Byte) : Option Nat := if orderFlag p 1 then some (clampRate (word16At p 3)) else none

/-- The order a payload leaves its link with, none where it holds neither cap nor floor (R54). -/
def orderOf (p : List Byte) : Option RateOrder :=
  if (orderCap p).isSome || (orderFloor p).isSome then
    some { cap := orderCap p, floor := orderFloor p,
           timer := if orderFlag p 2 then some (word16At p 5 * 100) else none }
  else none

/-- Checks 2 and 3 of R53. -/
def orderChecks (p : List Byte) : List FieldCheck :=
  [(decide (byteAt p 0 < 8), 0), (!orderFlag p 2 || inRange 1 3600 (word16At p 5), 5)]

/-! ### Numbers of slots, lanes and wishes -/

/-- The slot a byte names, 1 to 8. -/
def slotOf (n : Nat) : Option (Fin 8) := if h : 1 ≤ n ∧ n ≤ 8 then some ⟨n - 1, by omega⟩ else none

/-- The lane a byte names, 1 to 3. -/
def laneOf (n : Nat) : Option (Fin 3) := if h : 1 ≤ n ∧ n ≤ 3 then some ⟨n - 1, by omega⟩ else none

/-- The activation request a byte names (R90). -/
def activationOf (n : Nat) : Option Activation :=
  match n with
  | 0 => some .none
  | 1 => some .on
  | 2 => some .off
  | 3 => some .auto
  | _ => none

/-- The aspect a byte names (R103). -/
def aspectOf (n : Nat) : Option Aspect :=
  match n with
  | 0 => some .off
  | 1 => some .red
  | 2 => some .green
  | _ => none

end Sys2Proof.Machine
end

