-- ==== Sys2Proof/Machine/Plan.lean ====
section
/-! DEFINITION. The plan image: its fields (7.3) and the checks of R132. -/

namespace Sys2Proof.Machine

/-- The size of an image. -/
def imageSize : Nat := 48

/-! ### Fields -/

def planQueueGroup (img : List Byte) : Bool := (img.getD 0 0).getLsbD 0
def planSpillGroup (img : List Byte) : Bool := (img.getD 0 0).getLsbD 1
def planActivationGroup (img : List Byte) : Bool := (img.getD 0 0).getLsbD 2

/-- The lane set as its byte. -/
def planLaneSet (img : List Byte) : Nat := byteAt img 1

/-- Whether a lane is enabled in a plan. -/
def planEnables (img : List Byte) (i : Fin 3) : Bool := (img.getD 1 0).getLsbD i.val

def planIdentifier (img : List Byte) : Nat := word16At img 2
def planTarget (img : List Byte) : Nat := word16At img 4          -- O_t, per mille
def planGain (img : List Byte) : Nat := word16At img 6            -- g
def planRMin (img : List Byte) : Nat := word16At img 8
def planRMax (img : List Byte) : Nat := word16At img 10
def planRFixed (img : List Byte) : Nat := word16At img 12
def planGRel (img : List Byte) : Nat := word16At img 14           -- ds
def planAmber (img : List Byte) : Nat := word16At img 16          -- ds
def planRedMin (img : List Byte) : Nat := word16At img 18         -- ds
def planStartupGreen (img : List Byte) : Nat := word16At img 20   -- s
def planShutdownGreen (img : List Byte) : Nat := word16At img 22  -- s
def planQOn (img : List Byte) : Nat := word16At img 24
def planQOff (img : List Byte) : Nat := word16At img 26
def planQFloor (img : List Byte) : Nat := word16At img 28
def planSpillTime (img : List Byte) : Nat := word16At img 30      -- s
def planSpillClear (img : List Byte) : Nat := word16At img 32     -- s
def planOnThr (img : List Byte) : Nat := word16At img 34
def planOnCount (img : List Byte) : Nat := word16At img 36
def planOffThr (img : List Byte) : Nat := word16At img 38
def planOffCount (img : List Byte) : Nat := word16At img 40

/-- The commit sequence of an image. -/
def planSequence (img : List Byte) : Nat := byteAt img 43

/-! ### Checks (R132) -/

/-- The lower bounds of g_rel, amber and plan red_min, in ds. -/
structure TimingBounds where
  green : Nat
  amber : Nat
  red   : Nat
deriving DecidableEq, Repr

/-- The bounds in force: the site's while the limits are locked, else the lowest the limits table allows (R132). -/
def timingBounds (locked : Bool) (lim : SiteLimits) : TimingBounds :=
  if locked then { green := lim.greenMin, amber := lim.amberMin, red := lim.redMin }
  else { green := 10, amber := 5, red := 10 }

/-- The checks of an image in the order of R132. -/
def imageChecks (b : TimingBounds) (img : List Byte) : List FieldCheck :=
  [((img.drop 46).take 2 == crcBytes (img.take 42), 46),
   (decide (byteAt img 0 < 8), 0),
   (decide (planLaneSet img ≠ 0) && decide (planLaneSet img < 8), 1),
   (inRange 50 400 (planTarget img), 4), (inRange 0 255 (planGain img), 6), (inRange 120 3600 (planRMin img), 8),
   (inRange (planRMin img) 3600 (planRMax img), 10),
   (inRange (planRMin img) (planRMax img) (planRFixed img), 12),
   (inRange b.green 60 (planGRel img), 14), (inRange b.amber 40 (planAmber img), 16),
   (inRange b.red 200 (planRedMin img), 18), (inRange 5 120 (planStartupGreen img), 20),
   (inRange 5 120 (planShutdownGreen img), 22)] ++
  (if planQueueGroup img then
    [(inRange 0 1000 (planQOn img), 24), (inRange 0 (planQOn img) (planQOff img), 26),
     (inRange 120 3600 (planQFloor img), 28)] else []) ++
  (if planSpillGroup img then
    [(inRange 5 600 (planSpillTime img), 30), (inRange 5 600 (planSpillClear img), 32)] else []) ++
  (if planActivationGroup img then
    [(inRange 0 1000 (planOnThr img), 34), (inRange 1 10 (planOnCount img), 36),
     (decide (planOffThr img < planOnThr img), 38), (inRange 1 10 (planOffCount img), 40)] else [])

/-- The field index of the first check an image fails, none for an image that passes (R132). -/
def imageFailure (b : TimingBounds) (img : List Byte) : Option Nat := firstFailure (imageChecks b img)

/-! ### The plan in force -/

/-- Whether a lane is enabled in the plan in force. -/
def enabled (s : State) (i : Fin 3) : Bool :=
  match s.plans.plan with
  | some img => planEnables img i
  | none => false

/-- Whether a lane is FAULTED. -/
def isFaulted (s : State) (i : Fin 3) : Bool := (s.lane i).state == .faulted

/-- Whether a lane is enabled in the plan in force and not FAULTED. -/
def working (s : State) (i : Fin 3) : Bool := enabled s i && !isFaulted s i

/-- The lanes that work, in ascending order. -/
def workingLanes (s : State) : List (Fin 3) := allLanes.filter fun i => working s i

/-- A slot of the store. -/
def State.slot (s : State) (k : Fin 8) : Slot := s.plans.slots[k]

end Sys2Proof.Machine
end

