-- ==== Sys2Proof/Machine/Lamps.lean ====
section
/-! DEFINITION. The lamp driver and the watches of its prover (R111 to R114), without the consequences of a latch. -/

namespace Sys2Proof.Machine

/-- The three colours of a lane's drives, in drive order. -/
inductive Colour where
  | red | amber | green
deriving DecidableEq, Repr

/-- Colour codes of lamp events; the beacon is 4 (R115). -/
def Colour.code : Colour → Nat
  | .red => 1 | .amber => 2 | .green => 3

/-- The drive of a lane and colour: drives 1, 2, 3 are lane 1's red, amber and green, and so on (6.). -/
def driveOf (i : Fin 3) (c : Colour) : Fin 10 :=
  match c with
  | .red => ⟨3 * i.val, by omega⟩
  | .amber => ⟨3 * i.val + 1, by omega⟩
  | .green => ⟨3 * i.val + 2, by omega⟩

/-- The beacon's drive. -/
def beaconDrive : Fin 10 := 9

/-- What a drive belongs to: a lane and colour, or none for the beacon. -/
def driveLane (k : Fin 10) : Option (Fin 3 × Colour) :=
  match k with
  | 0 => some (0, .red) | 1 => some (0, .amber) | 2 => some (0, .green)
  | 3 => some (1, .red) | 4 => some (1, .amber) | 5 => some (1, .green)
  | 6 => some (2, .red) | 7 => some (2, .amber) | 8 => some (2, .green)
  | 9 => none

/-- Which drive a lane state commands on (R69). -/
def commands (st : LaneState) (c : Colour) : Bool :=
  match st, c with
  | .restGreen, .green => true
  | .green, .green => true
  | .amber, .amber => true
  | .red, .red => true
  | .ready, .red => true
  | _, _ => false

/-! ### Watches -/

/-- One watch judged at a moment: `comparing` says that it compares, `disagree` that it finds disagreement. A watch
that does not compare drops a SUSPECT state and its timers and keeps LATCHED; one that compares becomes SUSPECT on
disagreement, returns to CLEAR on agreement, and runs a proof timer while LATCHED and good (R112, R113, R114). -/
def WatchState.judge (comparing disagree : Bool) (deglitch : Nat) : WatchState → WatchState
  | .clear => if comparing && disagree then .suspect 0 deglitch else .clear
  | .suspect e lim => if comparing && disagree then .suspect e lim else .clear
  | .latched proof => if comparing && !disagree then .latched (some (proof.getD (0, deglitch))) else .latched none

/-- Both watches of a drive judged: OUT compares while the drive is commanded on and not blanked, LIT while it is
commanded off and not blanked (R113). -/
def Drive.judge (deglitch : Nat) (d : Drive) : Drive :=
  { d with
    out := d.out.judge (d.blank.isNone && d.commanded) (!d.sensed) deglitch
    lit := d.lit.judge (d.blank.isNone && !d.commanded) d.sensed deglitch }

/-- A blanking timer started at lamp_blank cs; none runs for lamp_blank 0 (R112). -/
def startBlank (lampBlank : Nat) : Option Nat := if lampBlank = 0 then none else some lampBlank

/-- Hand a drive its commanded state. A hand-over that changes nothing starts nothing (R111, R112). -/
def Drive.command (lim : SiteLimits) (on : Bool) (d : Drive) : Drive :=
  if d.commanded = on then d
  else ({ d with commanded := on, blank := startBlank lim.lampBlank }).judge lim.lampDeglitch

/-- A drive proved again from the start: both watches CLEAR and blanking started (R121, R125). -/
def Drive.reprove (lim : SiteLimits) (d : Drive) : Drive :=
  ({ d with blank := startBlank lim.lampBlank, out := .clear, lit := .clear }).judge lim.lampDeglitch

/-- A drive whose watches return to CLEAR and which compares at once unless blanked (R119, R120). -/
def Drive.clearWatches (lim : SiteLimits) (d : Drive) : Drive :=
  ({ d with out := .clear, lit := .clear }).judge lim.lampDeglitch

/-- One watch of a drive. -/
def Drive.watch (d : Drive) : WatchKind → WatchState
  | .out => d.out
  | .lit => d.lit

/-- A drive with one watch replaced. -/
def Drive.setWatch (d : Drive) (w : WatchKind) (x : WatchState) : Drive :=
  match w with
  | .out => { d with out := x }
  | .lit => { d with lit := x }

/-! ### Hand-overs -/

/-- What the driver outputs for a state handed to it: in FAULT_DARK every drive stays off (R111). -/
def driverOutput (s : State) (on : Bool) : Bool := on && !(s.mode == .faultDark)

/-- Hand one drive a commanded state. -/
def handDrive (k : Fin 10) (on : Bool) (s : State) : State :=
  s.setDrive k ((s.drive k).command s.limits (driverOutput s on))

/-- Hand over a lane's three commanded drive states for a lane state (R69, R111). -/
def handLane (i : Fin 3) (st : LaneState) (s : State) : State :=
  handDrive (driveOf i .green) (commands st .green)
    (handDrive (driveOf i .amber) (commands st .amber)
      (handDrive (driveOf i .red) (commands st .red) s))

/-- Set the beacon command and hand it to its drive (R111). -/
def commandBeacon (on : Bool) (s : State) : State :=
  handDrive beaconDrive on { s with meter := { s.meter with beacon := on } }

/-- Switch all ten drives off together (R111, R118). -/
def drivesOff (s : State) : State := { s with drives := mapAll (Drive.command s.limits false) s.drives }

/-- Prove every drive again from the start (R121, R125). -/
def reproveAll (s : State) : State := { s with drives := mapAll (Drive.reprove s.limits) s.drives }

/-- The watches of a lane's three drives return to CLEAR (R119). -/
def clearLaneWatches (i : Fin 3) (s : State) : State :=
  [Colour.red, .amber, .green].foldl
    (fun s c => s.setDrive (driveOf i c) ((s.drive (driveOf i c)).clearWatches s.limits)) s

/-- Whether the prover holds a conflict mismatch (R122). -/
def conflictHeld (s : State) : Bool := allLanes.any fun i => (s.drive (driveOf i .green)).lit.isHeld

end Sys2Proof.Machine
end

