-- ==== Sys2Proof/Machine/Lanes.lean ====
section
/-! DEFINITION. The release scheduler: lane states and their durations (R69 to R72), the ring (R73, R74), the headway
timer and releases (R75 to R80), and the counting window (R83). -/

namespace Sys2Proof.Machine

/-! ### Durations (R70), in cs -/

/-- A field of the plan in force in ds, as cs; 0 with no plan in force. -/
def planTime (s : State) (field : List Byte → Nat) : Nat :=
  match s.plans.plan with
  | some img => field img * 10
  | none => 0

/-- The length of a release green. -/
def greenTime (s : State) : Nat := planTime s planGRel

/-- The length of an amber that begins now. -/
def amberTime (s : State) : Nat := if s.mode = .manual then s.limits.amberMin * 10 else planTime s planAmber

/-- The length of a minimum red that begins now. -/
def redTime (s : State) : Nat := if s.mode = .manual then s.limits.redMin * 10 else planTime s planRedMin

/-! ### Lane states -/

/-- The time since an amber that followed a REST_GREEN, restarted when such an amber ends (R84). -/
def Lane.restMark (x : Lane) : Option Nat :=
  if x.state = .amber ∧ x.afterRest = true then some 0 else x.sinceRest

/-- OFF. -/
def Lane.toOFF (x : Lane) : Lane :=
  { x with state := .off, timer := none, window := .closed, held := none, restAwaits := false, toOff := false,
           afterRest := false, sinceRest := x.restMark }

/-- REST_GREEN; its green age starts from 0 and the window closes (R70, R83). -/
def Lane.toRestGreen (x : Lane) : Lane :=
  { x with state := .restGreen, timer := none, age := 0, window := .closed, held := none, restAwaits := false,
           toOff := false, afterRest := false }

/-- GREEN: a release green with its duration, or a hand green with none. The window opens (R70, R83). -/
def Lane.toGreen (time : Option Nat) (x : Lane) : Lane :=
  { x with state := .green, timer := time, duration := time.getD 0, age := 0, window := .opened false, held := none,
           restAwaits := false, toOff := false, afterRest := false, sinceRest := none }

/-- AMBER, towards RED or, under a stop order, OFF. -/
def Lane.toAmber (time : Nat) (off : Bool) (x : Lane) : Lane :=
  { x with state := .amber, timer := some time, duration := time, held := none, toOff := off,
           afterRest := x.state == .restGreen }

/-- RED. The grace of an open window starts (R83). -/
def Lane.toRed (time : Nat) (x : Lane) : Lane :=
  { x with state := .red, timer := some time, duration := time, held := none, toOff := false, afterRest := false,
           sinceRest := x.restMark,
           window := match x.window with
             | .opened c => .inGrace c 100
             | .inGrace c left => .inGrace c left
             | .closed => .closed }

/-- READY. The duration of the red and the green age keep their last value (log entry 25). -/
def Lane.toReady (x : Lane) : Lane := { x with state := .ready, timer := none }

/-- FAULTED: phase timer and held order discarded, window closed (R81). -/
def Lane.toFaulted (x : Lane) : Lane :=
  { x with state := .faulted, timer := none, window := .closed, held := none, restAwaits := false, toOff := false,
           afterRest := false, sinceRest := x.restMark }

/-- Put a lane into a new state and hand its three drive states over at the same moment (R69). -/
def enterLane (i : Fin 3) (x : Lane) (s : State) : State := handLane i x.state (s.setLane i x)

/-! ### Lane orders (R72) -/

/-- Whether a lane shows a green. -/
def Lane.showsGreen (x : Lane) : Bool := x.state == .green || x.state == .restGreen

/-- Whether a lane's green age is below site green_min. -/
def belowGreenMin (s : State) (i : Fin 3) : Bool := decide ((s.lane i).age < s.limits.greenMin * 10)

/-- The rest order. -/
def orderRest (i : Fin 3) (s : State) : State :=
  match (s.lane i).state with
  | .off | .red | .ready => enterLane i (s.lane i).toRestGreen s
  | .green | .amber => s.setLane i { s.lane i with held := none, restAwaits := true }
  | .restGreen => s.setLane i { s.lane i with held := none }
  | .faulted => s

/-- The clear order. -/
def orderClear (i : Fin 3) (s : State) : State :=
  match (s.lane i).state with
  | .restGreen | .green =>
    if belowGreenMin s i then s.setLane i { s.lane i with held := some .clear }
    else enterLane i ((s.lane i).toAmber (amberTime s) false) s
  | .off => enterLane i ((s.lane i).toRed (redTime s)) s
  | .amber | .red | .ready | .faulted => s

/-- The stop order. -/
def orderStop (i : Fin 3) (s : State) : State :=
  match (s.lane i).state with
  | .restGreen | .green =>
    if belowGreenMin s i then s.setLane i { s.lane i with held := some .stop }
    else enterLane i ((s.lane i).toAmber (amberTime s) true) s
  | .amber => s.setLane i { s.lane i with toOff := true }
  | .red | .ready | .off => enterLane i (s.lane i).toOFF s
  | .faulted => s

/-- The go order: a hand green with no timed end. -/
def orderGo (i : Fin 3) (s : State) : State :=
  match (s.lane i).state with
  | .ready => enterLane i ((s.lane i).toGreen none) s
  | .faulted => s
  | .off | .restGreen | .green | .amber | .red => s.setLane i { s.lane i with held := none }

/-- The cut order. -/
def orderCut (i : Fin 3) (s : State) : State :=
  match (s.lane i).state with
  | .faulted => s
  | .off | .restGreen | .green | .amber | .red | .ready => enterLane i (s.lane i).toOFF s

/-- Withdraw a rest order that awaits the lane's red (R98, R102). -/
def withdrawRest (i : Fin 3) (s : State) : State := s.setLane i { s.lane i with restAwaits := false }

/-- Give the same order to several lanes, in the list's order. -/
def orderEach (order : Fin 3 → State → State) (lanes : List (Fin 3)) (s : State) : State :=
  lanes.foldl (fun s i => order i s) s

/-- Carry out a held order whose time has come (R72). -/
def carryOutHeld (i : Fin 3) (s : State) : State :=
  match (s.lane i).held with
  | some .clear => orderClear i s
  | some .stop => orderStop i s
  | none => s

/-! ### Timed phases (R71) -/

/-- The end of a green: AMBER. A stop order held at that moment makes the amber end in OFF. -/
def endGreen (i : Fin 3) (s : State) : State :=
  enterLane i ((s.lane i).toAmber (amberTime s) ((s.lane i).held == some .stop)) s

/-- The end of an amber: OFF under a stop order, else RED; a rest order that awaited the red is then taken. -/
def endAmber (i : Fin 3) (s : State) : State :=
  if (s.lane i).toOff then enterLane i (s.lane i).toOFF s
  else
    let s := enterLane i ((s.lane i).toRed (redTime s)) s
    if (s.lane i).restAwaits then orderRest i s else s

/-- The end of a minimum red: READY. -/
def endRed (i : Fin 3) (s : State) : State := enterLane i (s.lane i).toReady s

/-! ### Ring, headway timer and releases -/

/-- The state with the scheduler's ring, timer and flag as given. -/
def State.setRelease (s : State) (ring : List (Fin 3)) (elapsed : Nat) (due : Bool) : State :=
  { s with sched := { s.sched with ring := ring, elapsed := elapsed, releasePending := due } }

/-- Form the ring anew at an entry to METERING: the working lanes in ascending number, no pending release, the
headway timer from 0 (R73). -/
def formRing (s : State) : State := s.setRelease (workingLanes s) 0 false

/-- On leaving METERING or HOLD: the ring is emptied, the timer stops and the pending release is cleared (R73). -/
def emptyRing (s : State) : State := s.setRelease [] s.sched.elapsed false

/-- Whether a lane can take a release: READY with demand (R76). -/
def eligible (s : State) (i : Fin 3) : Bool := (s.lane i).state == .ready && hasDemand s i

/-- The first lane of the ring that can take a release (R76). -/
def nextLane (s : State) : Option (Fin 3) := s.sched.ring.find? fun i => eligible s i

/-- A release green for a lane: it moves to the tail of the ring and the headway timer restarts (R74, R76). -/
def grant (i : Fin 3) (s : State) : State :=
  let s := enterLane i ((s.lane i).toGreen (some (greenTime s))) s
  s.setRelease (s.sched.ring.erase i ++ [i]) 0 false

/-- A release is due: granted, or pending if no lane can take it (R76). -/
def releaseDue (s : State) : State :=
  match nextLane s with
  | some i => grant i s
  | none => s.setRelease s.sched.ring s.sched.elapsed true

/-- A pending release is taken at the first moment a lane of the ring can take it, in METERING (R77). -/
def takePending (s : State) : State :=
  if s.mode = .metering ∧ s.sched.releasePending = true then
    match nextLane s with
    | some i => grant i s
    | none => s
  else s

/-- The scheduler's H replaced. -/
def State.setHeadway (s : State) (h : Nat) : State := { s with sched := { s.sched with headway := h } }

/-- A new H handed over: stored, and in METERING judged against the timer (R79, R80). -/
def handHeadway (h : Nat) (s : State) : State :=
  let s := s.setHeadway h
  if s.mode = .metering ∧ s.sched.releasePending = false ∧ h ≤ s.sched.elapsed then releaseDue s else s

/-- The return from HOLD to METERING: a pending release is taken if a lane can take it, and an elapsed time at or
beyond H makes a release due (R80). -/
def resumeReleases (s : State) : State :=
  if s.sched.releasePending then takePending s
  else if s.sched.headway ≤ s.sched.elapsed then releaseDue s
  else s

end Sys2Proof.Machine
end

