-- ==== Sys2Proof/Machine/Rate.lean ====
section
/-! DEFINITION. The rate computer: station occupancy, feedback, the combine, the headway and recombination
(R31, R43 to R46, R58 to R65). -/

namespace Sys2Proof.Machine

/-- Whether the rate computer is engaged (R43). -/
def engaged (s : State) : Bool := s.mode == .metering || s.mode == .hold

/-- A quotient of naturals rounded half up. -/
def roundHalfUp (a b : Nat) : Nat := (2 * a + b) / (2 * b)

/-- The occupancy of an input over a closed interval, per mille (R31). -/
def occupancy (onTime duration : Nat) : Nat := min (roundHalfUp (onTime * 1000) duration) 1000

/-- A quotient of naturals rounded up. -/
def ceilDiv (a b : Nat) : Nat := (a + (b - 1)) / b

/-! ### The combine stages (R58 to R63) -/

/-- A rate on its way through the combine, with the tag of the last stage that changed it. -/
structure Combined where
  value : Nat
  tag   : Tag
deriving DecidableEq, Repr

/-- A stage: its tag is taken only if it changes the value (R63). -/
def Combined.stage (c : Combined) (value : Nat) (tag : Tag) : Combined :=
  if value = c.value then c else { value := value, tag := tag }

/-- The cap or floor of a link's order, if it holds one. -/
def orderField (o : Option RateOrder) (f : RateOrder → Option Nat) : Option Nat := o.bind f

/-- F: the greatest of plan r_min and the floors held (R58). -/
def floorBound (r : RateComputer) (plan : List Byte) : Nat :=
  max (planRMin plan) (max ((orderField r.orders.L RateOrder.floor).getD 0) ((orderField r.orders.C RateOrder.floor).getD 0))

/-- C: the least of plan r_max and the caps held (R58). -/
def capBound (r : RateComputer) (plan : List Byte) : Nat :=
  let c := planRMax plan
  let c := min c ((orderField r.orders.L RateOrder.cap).getD c)
  min c ((orderField r.orders.C RateOrder.cap).getD c)

/-- The first of plan, Link L, Link C whose bound is C (R58). -/
def capTag (r : RateComputer) (plan : List Byte) : Tag :=
  if planRMax plan = capBound r plan then .capPlan
  else if orderField r.orders.L RateOrder.cap = some (capBound r plan) then .capL
  else .capC

/-- D, the device ceiling, for `n` working lanes (R60). -/
def deviceCeiling (lim : SiteLimits) (plan : List Byte) (n : Nat) : Nat :=
  min 3000 (min (36000 / lim.staggerMin) (n * 36000 / (planGRel plan + planAmber plan + planRedMin plan)))

/-- The tag of an unchanged value: the feedback basis (R63). -/
def basisTag : Basis → Tag
  | .feedback => .feedback
  | .fixed => .fixed
  | .clear => .fixed

/-- The stages from the stored feedback value to the applied rate and its tag (R58 to R61, R63). -/
def combineStages (r : RateComputer) (lim : SiteLimits) (plan : List Byte) (n : Nat) : Combined :=
  let d := deviceCeiling lim plan n
  let c : Combined := { value := r.rFb, tag := basisTag r.basis }
  let c := c.stage (max c.value (floorBound r plan)) .orderFloor
  let c := c.stage (min c.value (capBound r plan)) (capTag r plan)
  let c := if r.floorActive then c.stage (max c.value (planQFloor plan)) .queueFloor else c
  let c := if r.spillActive then c.stage d .spill else c
  let c := c.stage (min c.value d) .ceiling
  c.stage (max c.value (min lim.rAbsMin d)) .absMin

/-- What a combine run puts in force: r_eff, the tag and H (R61 to R63). -/
def combineOut (r : RateComputer) (lim : SiteLimits) (plan : List Byte) (n : Nat) : RateOut :=
  let c := combineStages r lim plan n
  { rate := c.value, tag := c.tag, headway := ceilDiv 360000 c.value }

/-- The state with a combine run's results in force (R62). -/
def State.putRate (s : State) (o : RateOut) : State :=
  { s with rate := { s.rate with inForce := some o, rPrev := o.rate } }

/-- A combine run: its results are put in force, and H is handed to the scheduler if it differs from the headway last
in force or the run is an entry computation (R62). Nothing runs without a plan in force. -/
def runCombine (entry : Bool) (s : State) : State :=
  match s.plans.plan with
  | none => s
  | some plan =>
    let o := combineOut s.rate s.limits plan (workingLanes s).length
    let before := s.rate.inForce.map RateOut.headway
    let s := s.putRate o
    if entry || !(before == some o.headway) then handHeadway o.headway s else s

/-- A recombination: it runs while engaged (R65). -/
def recombine (s : State) : State := if engaged s then runCombine false s else s

/-- The recombination of a lane fault: none runs where no lane is left (R65). -/
def recombineFault (s : State) : State := if (workingLanes s).isEmpty then s else recombine s

/-- The rate computer disengages: no rate, tag or headway is in force (R43). -/
def disengage (s : State) : State := { s with rate := { s.rate with inForce := none } }

/-! ### Entry computations (R43) -/

/-- The entry from STARTUP. -/
def entryFromStartup (s : State) : State :=
  match s.plans.plan with
  | none => s
  | some plan =>
    runCombine true { s with rate := { s.rate with rFb := planRFixed plan, basis := .fixed, fallbackMark := false } }

/-- The entry from SHUTDOWN: kept values, the stored feedback value clamped to the plan in force. -/
def entryFromShutdown (s : State) : State :=
  match s.plans.plan with
  | none => s
  | some plan =>
    runCombine true { s with rate := { s.rate with rFb := max (planRMin plan) (min s.rate.rFb (planRMax plan)) } }

/-! ### Feedback at a close (R44 to R46) -/

/-- The station occupancy from the occupancies that qualify, rounded half up; absent if none does (R44). -/
def stationOccupancy (occupancies : List Nat) : Option Nat :=
  if occupancies.isEmpty then none else some (roundHalfUp occupancies.sum occupancies.length)

/-- The error step, g (O_t − O_m) / 8, truncated toward zero (R45). -/
def errorStep (plan : List Byte) (om : Nat) : Int :=
  Int.tdiv ((planGain plan : Int) * ((planTarget plan : Int) - (om : Int))) 8

/-- r_prev plus the error step, clamped to r_min and r_max (R45). -/
def feedbackValue (plan : List Byte) (rPrev om : Nat) : Nat :=
  (max (planRMin plan : Int) (min ((rPrev : Int) + errorStep plan om) (planRMax plan : Int))).toNat

/-- The stored feedback value of a close taken while engaged (R45, R46). -/
def feedbackAtClose (om : Option Nat) (s : State) : State :=
  match s.plans.plan, om with
  | none, _ => s
  | some plan, some m =>
    { s with rate := { s.rate with rFb := feedbackValue plan s.rate.rPrev m, basis := .feedback, fallbackMark := false } }
  | some plan, none =>
    let s' := { s with rate := { s.rate with rFb := planRFixed plan, basis := .fixed, fallbackMark := true } }
    if s.rate.fallbackMark then s' else s'.post .rateFallback 0 (planRFixed plan)

end Sys2Proof.Machine
end

