-- ==== Sys2Proof/Machine/Modes.lean ====
section
/-! DEFINITION. The mode controller: mode changes, the startup and shutdown sequences, HOLD, MANUAL, FAULT_DARK, and
the resolved request (R89 to R107, R121). -/

namespace Sys2Proof.Machine

/-- Causes of a mode change (R89). -/
inductive ModeCause where
  | start | autoStart | stop | autoStop | sequence | hold | resumed | holdEnded | manualEntered | manualExited
  | manualWithdrawn | meterFault | faultCleared
deriving DecidableEq, Repr

/-- Cause codes (R89). -/
def ModeCause.code : ModeCause → Nat
  | .start => 1 | .autoStart => 2 | .stop => 3 | .autoStop => 4 | .sequence => 5 | .hold => 6 | .resumed => 7
  | .holdEnded => 8 | .manualEntered => 9 | .manualExited => 10 | .manualWithdrawn => 11 | .meterFault => 12
  | .faultCleared => 13

/-- The mode replaced, without its event. -/
def State.putMode (s : State) (m : Mode) : State := { s with meter := { s.meter with mode := m } }

/-- A change of meter mode with its MODE_CHANGE (R89). -/
def changeMode (m : Mode) (cause : ModeCause) (s : State) : State :=
  (s.putMode m).post .modeChange 0 (twoBytes m.code cause.code)

/-- Sequence phase and timer. -/
def State.putPhase (s : State) (p : Phase) (timer : Nat) : State :=
  { s with meter := { s.meter with phase := p, seqTimer := timer } }

/-- The hold record. -/
def State.putHold (s : State) (h : Option HoldRecord) : State := { s with meter := { s.meter with hold := h } }

/-- Every pending aspect discarded. -/
def clearAspects (s : State) : State := { s with meter := { s.meter with aspects := Vector.replicate 3 none } }

/-- On leaving METERING or HOLD the scheduler empties the ring and the rate computer disengages (R43, R73). -/
def leaveReleases (s : State) : State := disengage (emptyRing s)

/-! ### Entry to DARK (R105, R107, R121) -/

/-- FAULTED lanes become OFF (R82). -/
def restoreDark (i : Fin 3) (s : State) : State :=
  if isFaulted s i then enterLane i (s.lane i).toOFF s else s

/-- The meter enters DARK: phase, hold and aspects end, the beacon is off, lane faults and watches are cleared and
every drive is proved again (R89, R104, R121). -/
def enterDark (cause : ModeCause) (s : State) : State :=
  let s := changeMode .dark cause s
  let s := leaveReleases (clearAspects ((s.putPhase .idle 0).putHold none))
  let s := orderEach restoreDark allLanes (commandBeacon false s)
  reproveAll s

/-! ### Startup (R94, R95) -/

/-- The start conditions: limits locked, active slot VALID, a working lane in the lane set (R94). -/
def startConditions (s : State) : Bool :=
  s.locked && (match s.plans.active with
    | some k => (s.slot k).status == .valid
    | none => false) && !(workingLanes s).isEmpty

/-- A plan time in seconds, as cs; 0 with no plan in force. -/
def planSeconds (s : State) (field : List Byte → Nat) : Nat :=
  match s.plans.plan with
  | some img => field img * 100
  | none => 0

/-- DARK to STARTUP: beacon on, the working lanes rest, the rest timer starts (R94). -/
def startMeter (cause : ModeCause) (s : State) : State :=
  let s := commandBeacon true (changeMode .startup cause s)
  let s := orderEach orderRest (workingLanes s) s
  s.putPhase .rest (planSeconds s planStartupGreen)

/-- A start wanted in DARK (R92, R94). -/
def tryStart (cause : ModeCause) (s : State) : State :=
  if s.mode = .dark ∧ startConditions s = true then startMeter cause s else s

/-- STARTUP to METERING at the end of the clearance (R43, R73, R95). -/
def enterMetering (s : State) : State :=
  entryFromStartup (formRing ((changeMode .metering .sequence s).putPhase .idle 0))

/-- Whether the clearance has ended: every working lane of the lane set is past its amber (R95). -/
def cleared (s : State) : Bool :=
  s.mode == .startup && s.meter.phase == .clearing && !(workingLanes s).isEmpty &&
    (workingLanes s).all fun i => (s.lane i).state == .red || (s.lane i).state == .ready

/-- The end of the clearance, if it has come. -/
def checkCleared (s : State) : State := if cleared s then enterMetering s else s

/-! ### The wishes (R91, R92) -/

/-- What a standing request makes wanted. -/
inductive Wanted where
  | start | stop | neither
deriving DecidableEq, Repr

/-- Whether the plan in force has an activation group. -/
def hasActivation (s : State) : Bool :=
  match s.plans.plan with
  | some img => planActivationGroup img
  | none => false

/-- The standing wish of the resolved request (R92). -/
def wanted (s : State) : Wanted :=
  match s.meter.resolved with
  | .on => .start
  | .off => .stop
  | .auto => if hasActivation s then .neither else .stop

/-- A standing start judged in DARK (R92). -/
def judgeStart (s : State) : State := if wanted s = .start then tryStart .start s else s

/-- An entry to DARK and the judging of a standing start that follows it (R96, R105, R107). -/
def enterDarkJudged (cause : ModeCause) (s : State) : State := judgeStart (enterDark cause s)

/-! ### Interrupted startup (R96) -/

/-- Whether every lane is OFF or FAULTED. -/
def allDark (s : State) : Bool := allLanes.all fun i => (s.lane i).state == .off || (s.lane i).state == .faulted

/-- STOPPING ends in DARK when every lane is OFF or FAULTED. -/
def checkStopped (s : State) : State :=
  if s.mode = .startup ∧ s.meter.phase = .stopping ∧ allDark s = true then enterDarkJudged .stop s else s

/-- The lanes that are neither OFF nor FAULTED. -/
def litLanes (s : State) : List (Fin 3) :=
  allLanes.filter fun i => !((s.lane i).state == .off || (s.lane i).state == .faulted)

/-- A stop wanted in STARTUP. -/
def interruptStartup (s : State) : State :=
  let s := (commandBeacon false s).putPhase .stopping 0
  checkStopped (orderEach orderStop (litLanes s) s)

/-! ### Shutdown (R97, R98) -/

/-- Whether every working lane of the lane set is in REST_GREEN. -/
def allResting (s : State) : Bool := (workingLanes s).all fun i => (s.lane i).state == .restGreen

/-- FINISHING becomes RESTING when every working lane rests; the rest timer starts (R97). -/
def checkResting (s : State) : State :=
  if s.mode = .shutdown ∧ s.meter.phase = .finishing ∧ allResting s = true then
    s.putPhase .resting (planSeconds s planShutdownGreen)
  else s

/-- METERING or HOLD to SHUTDOWN (R97). -/
def shutdown (cause : ModeCause) (s : State) : State :=
  let s := commandBeacon false (changeMode .shutdown cause s)
  let s := (leaveReleases (s.putHold none)).putPhase .finishing 0
  checkResting (orderEach orderRest (workingLanes s) s)

/-- What the return to METERING does to a lane (R98). -/
def returnLane (i : Fin 3) (s : State) : State :=
  match (s.lane i).state with
  | .restGreen => orderClear i s
  | .green | .amber => withdrawRest i s
  | .off | .red | .ready | .faulted => s

/-- SHUTDOWN to METERING on a start (R98). -/
def returnToMetering (s : State) : State :=
  let s := (commandBeacon true (changeMode .metering .start s)).putPhase .idle 0
  entryFromShutdown (formRing (orderEach returnLane allLanes s))

/-- Act on a stop: of what its cause names in METERING and HOLD, of an interrupted startup in STARTUP (R92). -/
def actOnStop (cause : ModeCause) (s : State) : State :=
  match s.mode with
  | .startup => if s.meter.phase = .stopping then s else interruptStartup s
  | .metering | .hold => shutdown cause s
  | .dark | .shutdown | .manual | .faultDark => s

/-- Act on a standing start (R92). -/
def actOnStart (s : State) : State :=
  match s.mode with
  | .dark => tryStart .start s
  | .shutdown => returnToMetering s
  | .startup | .metering | .hold | .manual | .faultDark => s

/-- Judge the standing wish (R92). -/
def judgeWish (s : State) : State :=
  match wanted s with
  | .start => actOnStart s
  | .stop => actOnStop .stop s
  | .neither => s

/-- The sequence checks after a change of lane states (R95, R96, R97). -/
def advanceSequence (s : State) : State := checkResting (checkStopped (checkCleared s))

/-! ### The resolved request (R91) -/

/-- Whether a link is PRESENT. -/
def present (s : State) (l : LinkId) : Bool := (s.link l).state == .present

/-- The resolved request an activation request stands for, none for NONE. -/
def resolvedBy : Activation → Option Resolved
  | .none => none
  | .on => some .on
  | .off => some .off
  | .auto => some .auto

/-- The wish of a link: its activation request while it is PRESENT. -/
def linkWish (s : State) (l : LinkId) : Option Resolved :=
  if present s l then resolvedBy (s.meter.requests.get l) else none

/-- The resolved request formed anew (R91). -/
def resolution (s : State) : Resolved :=
  match linkWish s .L, linkWish s .C with
  | some r, _ => r
  | none, some r => r
  | none, none =>
    if present s .L || present s .C then .off
    else match s.limits.absentFallback with
      | .shutdown => .off
      | .continue => s.meter.resolved

/-- Form the resolved request; a change returns both run counts to 0 (R91). -/
def formResolved (s : State) : State :=
  if resolution s = s.meter.resolved then s
  else { s with meter := { s.meter with resolved := resolution s, onRun := 0, offRun := 0 } }

/-- Form the resolved request and judge the wish it makes (R91, R92). -/
def resolve (s : State) : State := judgeWish (formResolved s)

/-- A link's activation request. -/
def putRequest (l : LinkId) (a : Activation) (s : State) : State :=
  { s with meter := { s.meter with requests := s.meter.requests.set l a } }

/-! ### Hold (R99 to R101) -/

/-- METERING to HOLD (R99). -/
def enterHold (owner : LinkId) (s : State) : State :=
  (changeMode .hold .hold s).putHold (some { owner := owner, timer := s.limits.holdMax * 100 })

/-- HOLD to METERING; the headway timer runs on (R80, R100). -/
def leaveHold (cause : ModeCause) (s : State) : State :=
  resumeReleases ((changeMode .metering cause s).putHold none)

/-- End a hold in force with an event of its own, posted before the MODE_CHANGE (R101). -/
def endHold (kind : EventKind) (detail : Nat) (s : State) : State :=
  match s.meter.hold with
  | some h => if s.mode = .hold then leaveHold .holdEnded (s.post kind (linkNumber h.owner) detail) else s
  | none => s

/-! ### Manual control (R102 to R105) -/

/-- The orders of the pending-aspect table (R103). -/
inductive AspectOrder where
  | clear | go | stop | met | nothing
deriving DecidableEq, Repr

/-- The pending-aspect table (R103). A FAULTED lane takes no order. -/
def aspectOrder : Aspect → LaneState → AspectOrder
  | _, .faulted => .nothing
  | .red, .green => .clear | .red, .restGreen => .clear | .red, .amber => .nothing
  | .red, .red => .met | .red, .ready => .met | .red, .off => .clear
  | .green, .green => .met | .green, .restGreen => .clear | .green, .amber => .nothing
  | .green, .red => .nothing | .green, .ready => .go | .green, .off => .clear
  | .off, .green => .stop | .off, .restGreen => .stop | .off, .amber => .stop
  | .off, .red => .stop | .off, .ready => .stop | .off, .off => .met

/-- The stop order of a hand OFF: given in AMBER it does not change where the running amber ends (R103; DEDUCED, log
entry 15). -/
def handStop (i : Fin 3) (s : State) : State := if (s.lane i).state = .amber then s else orderStop i s

/-- Work a lane once toward its pending aspect (R103). -/
def workOnce (i : Fin 3) (s : State) : State :=
  match s.aspect i with
  | none => s
  | some a =>
    match aspectOrder a (s.lane i).state with
    | .clear => orderClear i s
    | .go => orderGo i s
    | .stop => handStop i s
    | .met => s.setAspectOf i none
    | .nothing => s

/-- Work a lane toward its pending aspect until no order changes its state: at most an order that changes the state
and then the table's word for the new state (R103). -/
def workLane (i : Fin 3) (s : State) : State :=
  let s' := workOnce i s
  if (s'.lane i).state = (s.lane i).state then s' else workOnce i s'

/-- The mode controller's word on a lane whose state has changed by itself: in MANUAL its pending aspect, elsewhere the
sequence under way (R95 to R97, R103). -/
def afterLaneChange (i : Fin 3) (s : State) : State :=
  if s.mode = .manual then workLane i s else advanceSequence s

/-- What ENTER MANUAL does to a lane: its rest order is withdrawn and RED becomes its pending aspect (R102). -/
def takeManual (i : Fin 3) (s : State) : State :=
  if isFaulted s i then s else workLane i ((withdrawRest i s).setAspectOf i (some .red))

/-- ENTER MANUAL (R102). -/
def enterManual (s : State) : State :=
  let s := changeMode .manual .manualEntered s
  let s := leaveReleases ((s.putPhase .idle 0).putHold none)
  orderEach takeManual allLanes s

/-- The end of MANUAL: aspects discarded, lanes cut, beacon off, DARK (R105). -/
def endManual (cause : ModeCause) (s : State) : State :=
  let s := orderEach orderCut allLanes (clearAspects s)
  enterDarkJudged cause (commandBeacon false s)

/-! ### Meter fault (R106, R118) -/

/-- Causes of a meter fault (R115). -/
inductive MeterFaultCause where
  | conflict | redOut | noLane
deriving DecidableEq, Repr

/-- Meter fault cause codes (R115). -/
def MeterFaultCause.code : MeterFaultCause → Nat
  | .conflict => 1 | .redOut => 2 | .noLane => 3

/-- The entry to FAULT_DARK: every drive off at once, lanes cut, every sequence, hold and aspect ended (R106). -/
def enterFaultDark (s : State) : State :=
  let s := drivesOff (changeMode .faultDark .meterFault s)
  let s := leaveReleases (clearAspects ((s.putPhase .idle 0).putHold none))
  orderEach orderCut allLanes (commandBeacon false s)

/-- A meter fault with the lane it names (R118). -/
def meterFault (i : Fin 3) (cause : MeterFaultCause) (s : State) : State :=
  let s := s.post .meterFault (i.val + 1) (twoBytes cause.code 0)
  if s.mode = .faultDark then s else enterFaultDark s

end Sys2Proof.Machine
end

