-- ==== Sys2Proof/Machine/Detectors.lean ====
section
/-! DEFINITION. The detector front end and the spill state: faults, conditioned edges, passages, exclusion, the map
(R4 to R19, R49 to R52, R84, R85, R13, R14). -/

namespace Sys2Proof.Machine

/-! ### Spill (R50 to R52) -/

/-- The lowest input whose counting on-run meets spill_time under a plan with a spill group (R50). -/
def spillInput (s : State) : Option (Fin 16) :=
  match s.plans.plan with
  | none => none
  | some plan =>
    if planSpillGroup plan then
      allInputs.find? fun d =>
        match (s.input d).run with
        | some r => r.on && decide (planSpillTime plan * 100 ≤ r.time)
        | none => false
    else none

/-- The counting runs. -/
def countingRuns (s : State) : List SpillRun := allInputs.filterMap fun d => (s.input d).run

/-- The SPILL_OFF detail of the case that ends an active spill now, if one does (R51). -/
def spillOffCase (s : State) : Option Nat :=
  match s.plans.plan with
  | none => some 2
  | some plan =>
    if planSpillGroup plan = false then some 2
    else if (countingRuns s).isEmpty then some 3
    else if (countingRuns s).all fun r => !r.on && decide (planSpillClear plan * 100 ≤ r.time) then some 1
    else none

/-- The spill state replaced. -/
def State.putSpill (s : State) (v : Bool) : State := { s with rate := { s.rate with spillActive := v } }

/-- Spill becomes active: SPILL_ON, a recombination unless the change falls inside a close's own computation, and the
end of a hold in force (R50, R52, R101). That the hold of a close ends here, and not after the close, is a DESIGN CHOICE
(log entry 37). -/
def spillRises (recombining : Bool) (d : Fin 16) (s : State) : State :=
  let s := (s.putSpill true).post .spillOn (d.val + 1) 0
  let s := if recombining then recombine s else s
  endHold .holdEndedSpill (d.val + 1) s

/-- Spill becomes inactive: SPILL_OFF and a recombination unless inside a close (R51, R52). -/
def spillFalls (recombining : Bool) (detail : Nat) (s : State) : State :=
  let s := (s.putSpill false).post .spillOff 0 detail
  if recombining then recombine s else s

/-- Judge whether spill becomes active. -/
def judgeSpillOn (recombining : Bool) (s : State) : State :=
  if s.rate.spillActive then s
  else match spillInput s with
    | some d => spillRises recombining d s
    | none => s

/-- Judge whether spill becomes inactive. -/
def judgeSpillOff (recombining : Bool) (s : State) : State :=
  if s.rate.spillActive then
    match spillOffCase s with
    | some detail => spillFalls recombining detail s
    | none => s
  else s

/-- Judge both ways, as at a change of the plan in force (R50, R51). -/
def judgeSpill (recombining : Bool) (s : State) : State :=
  if s.rate.spillActive then judgeSpillOff recombining s else judgeSpillOn recombining s

/-! ### Spill runs (R49) -/

/-- The run of an input brought into line with whether it counts: ended, begun from 0 in the conditioned state, or
kept (R49). -/
def Input.alignRun (x : Input) : Input :=
  { x with run := if x.counts then some (x.run.getD { on := x.cond, time := 0 }) else none }

/-- The run of an input restarted from 0 in the conditioned state, if it counts (R49). -/
def Input.restartRun (x : Input) : Input :=
  { x with run := if x.counts then some { on := x.cond, time := 0 } else none }

/-! ### Faults (R8 to R15) -/

/-- The demand-substituted mark of the lane an input serves is set if its substitution is in force (R19). -/
def markSubstituted (i : Fin 3) (s : State) : State :=
  if substitutionInForce s i then s.setDfeLane i { s.dfeLane i with substituted := true } else s

/-- The marks of all lanes set where a substitution is in force. -/
def markSubstitutions (s : State) : State := orderEach markSubstituted allLanes s

/-- Raise a fault that is not present: DET_FAULT, the fault-seen mark, and what exclusion and substitution make of it
(R9, R11, R14, R15, R16, R17, R19). A SPILL_OFF that the exclusion brings about follows the DET_FAULT; no rule gives
their order (DESIGN CHOICE, log entry 32). -/
def raiseFault (d : Fin 16) (k : FaultKind) (s : State) : State :=
  let x := s.input d
  let s := s.setInput d ({ x.setFault k true with seen := true }).alignRun
  let s := s.post .detFault (d.val + 1) (twoBytes k.code x.entry.faultMode.code)
  let s := markSubstitutions s
  if x.counts && !(s.input d).counts then judgeSpillOff true s else s

/-- End a present fault with its DET_RECOVERED; cause 1 INPUT, 2 MAP_WRITTEN (R10, R12, R14, R15). -/
def endFault (d : Fin 16) (k : FaultKind) (cause : Nat) (s : State) : State :=
  if (s.input d).hasFault k then
    (s.setInput d ((s.input d).setFault k false).alignRun).post .detRecovered (d.val + 1) (twoBytes k.code cause)
  else s

/-! ### Passages (R13, R14, R84, R85) -/

/-- The class of a passage edge (R84). -/
inductive PassageClass where
  | release | extra | violation | uncounted
deriving DecidableEq, Repr

/-- The class of an edge in an open window. -/
def windowClass (counted : Bool) : PassageClass := if counted then .extra else .release

/-- Class a passage edge by the lane's state and window (R84). -/
def classify (x : Lane) : PassageClass :=
  match x.state, x.window with
  | .green, .opened c => windowClass c
  | .amber, .opened c => windowClass c
  | .red, .inGrace c _ => windowClass c
  | .ready, .inGrace c _ => windowClass c
  | .red, _ => if x.sinceRest.isSome then .uncounted else .violation
  | .ready, _ => if x.sinceRest.isSome then .uncounted else .violation
  | _, _ => .uncounted

/-- A window in which a release has been counted. -/
def Window.counted : Window → Window
  | .opened _ => .opened true
  | .inGrace _ left => .inGrace true left
  | .closed => .closed

/-- A count that stops at 255. -/
def count255 (n : Nat) : Nat := min (n + 1) 255

/-- The counts of a lane after a passage of a class (R84, R85). -/
def Lane.pass (x : Lane) : PassageClass → Lane
  | .release => { x with releases := count255 x.releases, window := x.window.counted }
  | .extra => { x with extras := count255 x.extras }
  | .violation => { x with violations := count255 x.violations }
  | .uncounted => x

/-- A passage notice for a lane (R13, R14). -/
def passageNotice (i : Fin 3) (s : State) : State :=
  match demandInput s i with
  | none => s
  | some d =>
    if (s.input d).cond then s
    else
      let n := (s.dfeLane i).failedOff
      let s' := s.setDfeLane i { s.dfeLane i with failedOff := min (n + 1) 3 }
      if n = 2 ∧ (s.input d).detects = true ∧ (s.input d).faultOff = false then raiseFault d .failedOff s' else s'

/-- A rising edge of a lane's PASSAGE input, at the scheduler (R84, R85). -/
def passage (i : Fin 3) (s : State) : State :=
  match classify (s.lane i) with
  | .uncounted => s
  | .release => passageNotice i (s.setLane i ((s.lane i).pass .release))
  | .extra => passageNotice i (s.setLane i ((s.lane i).pass .extra))
  | .violation => passageNotice i (s.setLane i ((s.lane i).pass .violation))

/-! ### Conditioned edges (R5, R6) -/

/-- The input after a rising edge: volume, chatter count, stuck timer and spill run (R6, R9, R30, R49). -/
def Input.rise (x : Input) : Input :=
  { x with cond := true, filter := none, stuck := 0, volume := min (x.volume + 1) 65535,
           chatter := min (x.chatter + 1) 256 }

/-- The input after a falling edge (R9, R49). -/
def Input.fall (x : Input) : Input := { x with cond := false, filter := none, stuck := 0 }

/-- The lane an input serves in a role. -/
def Input.servesAs (x : Input) (r : Role) : Option (Fin 3) := if x.entry.role = r then x.entry.lane else none

/-- A conditioned rising edge: the failed-off fault of a DEMAND input ends and its count returns to 0, a chatter fault
is raised by the edge that passes the limit, a PASSAGE edge goes to the scheduler, and a pending release is taken if
the edge made a lane eligible (R6, R7, R11, R13, R14, R77). -/
def risingEdge (d : Fin 16) (s : State) : State :=
  let x := s.input d
  let s := s.setInput d x.rise.restartRun
  let s := match x.servesAs .demand with
    | some i => endFault d .failedOff 1 (s.setDfeLane i { s.dfeLane i with failedOff := 0 })
    | none => s
  let s := if x.detectsChatter && !x.faultChatter && x.chatter == x.entry.chatterLimit then raiseFault d .chatter s else s
  let s := match x.servesAs .passage with
    | some i => passage i s
    | none => s
  takePending s

/-- A conditioned falling edge: a stuck-on fault ends (R10). -/
def fallingEdge (d : Fin 16) (s : State) : State :=
  endFault d .stuck 1 (s.setInput d (s.input d).fall.restartRun)

/-- The conditioned state takes a level (R5). -/
def edge (d : Fin 16) (level : Bool) (s : State) : State := if level then risingEdge d s else fallingEdge d s

/-- The filter time of a change to a level (R5). -/
def MapEntry.filterTime (e : MapEntry) (level : Bool) : Nat := if level then e.onFilter else e.offFilter

/-- The raw level of a pin changes (R5). -/
def rawChange (d : Fin 16) (level : Bool) (s : State) : State :=
  let x := s.input d
  if x.raw = level then s
  else
    let s := s.setInput d { x with raw := level, filter := none }
    if level = x.cond then s
    else if x.entry.filterTime level = 0 then edge d level s
    else s.setInput d { x with raw := level, filter := some (x.entry.filterTime level) }

/-- A filter timer that has run out (R5). -/
def filterExpiry (d : Fin 16) (s : State) : State :=
  if (s.input d).filter = some 0 then edge d (s.input d).raw s else s

/-- Whether a stuck-on fault is to be raised (R9). -/
def stuckDue (x : Input) : Bool :=
  x.detectsStuck && x.cond && !x.faultStuck && decide (x.entry.stuckTime * 100 ≤ x.stuck)

/-- A stuck timer that has reached stuck_time (R9). -/
def stuckExpiry (d : Fin 16) (s : State) : State :=
  if stuckDue (s.input d) then takePending (raiseFault d .stuck s) else s

/-! ### The map (R4) -/

/-- Every fault of an input ends with cause MAP_WRITTEN, in the order stuck-on, chatter, failed-off. -/
def endFaultsByMap (d : Fin 16) (s : State) : State :=
  endFault d .failedOff 2 (endFault d .chatter 2 (endFault d .stuck 2 s))

/-- An input under its new entry: a running filter timer restarts with the new filter time, the stuck timer from zero,
a spill run is kept while the input still counts (R4, R49). -/
def Input.remap (e : MapEntry) (x : Input) : Input :=
  ({ x with entry := e, stuck := 0, filter := x.filter.map fun _ => e.filterTime x.raw }).alignRun

/-- An accepted WRITE DETECTOR MAP (R4). A SPILL_OFF that the new map brings about follows the DET_RECOVERED entries; no
rule gives their order (DESIGN CHOICE, log entry 32). -/
def writeMap (p : List Byte) (s : State) : State :=
  let s := allInputs.foldl (fun s d => endFaultsByMap d s) s
  let s := allInputs.foldl (fun s d => s.setInput d ((s.input d).remap (entryOf p d))) s
  let s := orderEach (fun i s => s.setDfeLane i { s.dfeLane i with failedOff := 0 }) allLanes s
  takePending (judgeSpillOff true s)

end Sys2Proof.Machine
end

