-- ==== Sys2Proof/Machine/Prover.lean ====
section
/-! DEFINITION. The consequences of a latched mismatch and the clearing of lane faults (R81, R82, R115 to R120). -/

namespace Sys2Proof.Machine

/-- The detail of an event that carries a mismatch: colour, then watch (R115). -/
def watchCode : WatchKind → Nat
  | .out => 1
  | .lit => 2

/-- The colour code of the beacon (R115). -/
def beaconCode : Nat := 4

/-! ### Lane faults (R81, R116, R117) -/

/-- The scheduler takes a lane out of service (R81). -/
def faultLane (i : Fin 3) (s : State) : State :=
  let s := enterLane i (s.lane i).toFaulted s
  (s.setAspectOf i none).setRelease (s.sched.ring.erase i) s.sched.elapsed s.sched.releasePending

/-- Whether the meter is in a mode in which its lane set is in service (R117). -/
def inService (s : State) : Bool :=
  s.mode == .startup || s.mode == .metering || s.mode == .hold || s.mode == .shutdown

/-- A lane fault: LANE_FAULT; a lane not already FAULTED leaves service, the rate recombines, and either no lane of the
lane set is left, which is a meter fault, or the sequence under way goes on with the others (R116, R117). -/
def laneFault (i : Fin 3) (c : Colour) (w : WatchKind) (s : State) : State :=
  let s := s.post .laneFault (i.val + 1) (twoBytes c.code (watchCode w))
  if isFaulted s i then s
  else
    let s := recombineFault (faultLane i s)
    if inService s && (workingLanes s).isEmpty then meterFault i .noLane s else judgeWish (advanceSequence s)

/-- LAMP_WARN (R115). -/
def lampWarn (subject colour : Nat) (w : WatchKind) (s : State) : State :=
  s.post .lampWarn subject (twoBytes colour (watchCode w))

/-- The consequence of a mismatch that latches (R115). -/
def consequence (k : Fin 10) (w : WatchKind) (s : State) : State :=
  match driveLane k with
  | none => lampWarn 0 beaconCode w s
  | some (i, .green) =>
    match w with
    | .lit => meterFault i .conflict s
    | .out => laneFault i .green .out s
  | some (i, .red) =>
    match w with
    | .lit => laneFault i .red .lit s
    | .out =>
      match s.limits.redScope with
      | .lane => laneFault i .red .out s
      | .all => meterFault i .redOut s
  | some (i, .amber) =>
    match w with
    | .lit => laneFault i .amber .lit s
    | .out =>
      match s.limits.amberMode with
      | .warn => lampWarn (i.val + 1) Colour.amber.code .out s
      | .fault => laneFault i .amber .out s

/-- Whether a watch is SUSPECT with its deglitch time run (R113). -/
def deglitchDue (d : Drive) (w : WatchKind) : Bool :=
  match d.watch w with
  | .suspect e lim => decide (lim ≤ e)
  | .clear => false
  | .latched _ => false

/-- A deglitch expiry: the watch latches, starts no proof while the disagreement lasts, and its mismatch takes its
consequence (R113). -/
def latch (k : Fin 10) (w : WatchKind) (s : State) : State :=
  if deglitchDue (s.drive k) w then consequence k w (s.setDrive k ((s.drive k).setWatch w (.latched none))) else s

/-- Whether a watch is LATCHED with its proof time run (R114). -/
def proofDue (d : Drive) (w : WatchKind) : Bool :=
  match d.watch w with
  | .latched (some (e, lim)) => decide (lim ≤ e)
  | .latched none => false
  | .clear => false
  | .suspect _ _ => false

/-- A proof expiry: the watch returns to CLEAR without an event (R114). -/
def prove (k : Fin 10) (w : WatchKind) (s : State) : State :=
  if proofDue (s.drive k) w then s.setDrive k ((s.drive k).setWatch w .clear) else s

/-- A sense input changes (R113, R114). -/
def senseChange (k : Fin 10) (v : Bool) (s : State) : State :=
  s.setDrive k (({ s.drive k with sensed := v }).judge s.limits.lampDeglitch)

/-- A blanking timer that has run out: comparison begins with the sensed state (R112). -/
def endBlanking (k : Fin 10) (s : State) : State :=
  if (s.drive k).blank = some 0 then s.setDrive k (({ s.drive k with blank := none }).judge s.limits.lampDeglitch)
  else s

/-! ### Restore (R82, R119) -/

/-- The scheduler restores a lane in METERING, HOLD or MANUAL (R82). -/
def restoreLane (i : Fin 3) (s : State) : State :=
  if s.mode = .manual then enterLane i ((s.lane i).toRed (redTime s)) s
  else if enabled s i then
    let s := enterLane i ((s.lane i).toRed (redTime s)) s
    s.setRelease (s.sched.ring ++ [i]) s.sched.elapsed s.sched.releasePending
  else enterLane i (s.lane i).toOFF s

/-- An accepted CLEAR FAULT (lane) (R119). -/
def clearLaneFault (i : Fin 3) (s : State) : State :=
  let s := (clearLaneWatches i s).post .faultCleared (i.val + 1) 1
  recombine (restoreLane i s)

end Sys2Proof.Machine
end

