-- ==== Sys2Proof/Machine/Interval.lean ====
section
/-! DEFINITION. The interval close and the interval record (R17, R23 to R36, R47, R64, R85, R93, R139), and placing
the record (R32, R37). -/

namespace Sys2Proof.Machine

/-! ### Applying a plan (R48, R138 to R140) -/

/-- A slot's image becomes the plan in force, with PLAN_APPLIED (R138, R139). -/
def applySlot (k : Fin 8) (s : State) : State :=
  let img := (s.slot k).image
  let s := { s with plans := { s.plans with plan := some img, active := some k, pendingSlot := none } }
  s.post .planApplied (k.val + 1) (planIdentifier img)

/-- The queue-floor state replaced. -/
def State.putFloor (s : State) (v : Bool) : State := { s with rate := { s.rate with floorActive := v } }

/-- The queue floor set to a judged state; a change posts its event (R47). -/
def setFloor (v : Bool) (detail : Nat) (s : State) : State :=
  if s.rate.floorActive = v then s
  else (s.putFloor v).post (if v then .queueFloorOn else .queueFloorOff) 0 detail

/-- A change of the plan in force between closes: without a queue group an active floor becomes inactive, and spill is
judged (R48, R50, R51). Where both change, QUEUE_FLOOR_OFF is posted before the event of spill; no rule gives their order
(DESIGN CHOICE, log entry 32). -/
def planChanged (s : State) : State :=
  let s := match s.plans.plan with
    | some img => if planQueueGroup img then s else setFloor false 65535 s
    | none => setFloor false 65535 s
  judgeSpill true s

/-- The plan store at a close: a pending slot is applied in DARK or with the lane set of the plan in force, and spill
is judged against it; the close's own computation takes the change (R139, R50, R64). A spill that this makes active in
HOLD ends the hold here, before the rate computer acts on the close (DESIGN CHOICE, log entry 37). -/
def planAtClose (s : State) : State :=
  match s.plans.pendingSlot with
  | none => s
  | some k =>
    let same := match s.plans.plan with
      | some img => planLaneSet img == planLaneSet (s.slot k).image
      | none => false
    if s.mode == .dark || same then judgeSpill false (applySlot k s) else s

/-! ### The DFE at a close (R12, R17, R19) -/

/-- The health of an input for the closing interval (R17); an input of role UNUSED is OK in every interval (R8). -/
def Input.health (x : Input) : Health :=
  if x.seen && !(x.entry.role == .unused) then
    match x.entry.faultMode with
    | .ignore => .ok
    | .warn => .warn
    | .exclude => .excluded
  else .ok

/-- An input starts the new interval: chatter count and accumulators from 0, the fault-seen mark as its faults stand
(R17, R30). -/
def Input.newInterval (x : Input) : Input :=
  { x with chatter := 0, seen := x.anyFault, volume := 0, onTime := 0 }

/-- One input at a close: a chatter fault whose count did not pass the limit ends (R12, R17). -/
def closeInput (d : Fin 16) (s : State) : State :=
  let x := s.input d
  let s := if x.faultChatter && decide (x.chatter ≤ x.entry.chatterLimit) then endFault d .chatter 1 s else s
  s.setInput d (s.input d).newInterval

/-- The demand-substituted mark of a lane for the new interval (R19). -/
def closeDfeLane (i : Fin 3) (s : State) : State :=
  s.setDfeLane i { s.dfeLane i with substituted := substitutionInForce s i }

/-- The DFE acts on the close, input by input in ascending number, so that the DET_RECOVERED of several chatter faults
that end at one close are posted in that order; R12 and R17 give the steps of one input and no order of the inputs
(DESIGN CHOICE, log entry 32). -/
def dfeAtClose (s : State) : State :=
  orderEach closeDfeLane allLanes (allInputs.foldl (fun s d => closeInput d s) s)

/-! ### The scheduler at a close (R85) -/

/-- A lane's counts start at 0. -/
def Lane.newInterval (x : Lane) : Lane := { x with releases := 0, extras := 0, violations := 0 }

/-- The scheduler starts its counts at 0. -/
def schedAtClose (s : State) : State := { s with sched := { s.sched with lanes := mapAll Lane.newInterval s.sched.lanes } }

/-! ### What the closing interval gives its record -/

/-- The detector entry of an input over the closing interval (R31, R33). -/
def detEntry (s : State) (duration : Nat) (d : Fin 16) : DetEntry :=
  { input := d, role := (s.input d).entry.role, volume := (s.input d).volume,
    occupancy := occupancy (s.input d).onTime duration, health := (s.input d).health }

/-- The detector entries of a record: one for each mapped input, in ascending number (R33). -/
def detEntries (s : State) (duration : Nat) : List DetEntry :=
  (allInputs.filter fun d => !((s.input d).entry.role == .unused)).map (detEntry s duration)

/-- The lane entry of a record (R34). A lane whose PASSAGE input a map write took away within the interval shows the
counts it had made before (DESIGN CHOICE, log entry 33). -/
def laneEntry (s : State) (i : Fin 3) : LaneEntry :=
  { state := (s.lane i).state, releases := (s.lane i).releases, extras := (s.lane i).extras,
    violations := (s.lane i).violations, substituted := (s.dfeLane i).substituted }

/-- The station occupancy from a record's detector entries (R44). -/
def stationOf (dets : List DetEntry) : Option Nat :=
  stationOccupancy ((dets.filter fun e => e.role == .downstream && !(e.health == .excluded)).map DetEntry.occupancy)

/-! ### The queue floor at a close (R47) -/

/-- The judged floor state and its event's detail, from the plan in force and the detector entries. -/
def judgedFloor (plan : Option (List Byte)) (dets : List DetEntry) (old : Bool) : Bool × Nat :=
  let queues := dets.filter fun e => e.role == .queue
  let usable := queues.filter fun e => !(e.health == .excluded)
  let greatest := (usable.map DetEntry.occupancy).foldl max 0
  match plan with
  | none => (false, 65535)
  | some img =>
    if planQueueGroup img = false then (false, 65535)
    else if queues.isEmpty then (false, 65535)
    else if usable.isEmpty then (true, 65535)
    else if planQOn img ≤ greatest then (true, greatest)
    else if greatest ≤ planQOff img then (false, greatest)
    else (old, greatest)

/-- The rate computer judges the queue floor at a close. -/
def floorAtClose (dets : List DetEntry) (s : State) : State :=
  let j := judgedFloor s.plans.plan dets s.rate.floorActive
  setFloor j.1 j.2 s

/-- The rate computer acts on the close (R64). -/
def rateAtClose (dets : List DetEntry) (s : State) : State :=
  let s := floorAtClose dets s
  if engaged s then runCombine false (feedbackAtClose (stationOf dets) s) else s

/-! ### Automatic activation (R93) -/

/-- A run count after a close: one more if its test is met, else 0; it stops at 10. -/
def runCount (n : Nat) (met : Bool) : Nat := if met then min (n + 1) 10 else 0

/-- The run counts replaced. -/
def State.putRuns (s : State) (onRun offRun : Nat) : State :=
  { s with meter := { s.meter with onRun := onRun, offRun := offRun } }

/-- The mode controller updates its run counts at a close (R93). -/
def runsAtClose (om : Option Nat) (s : State) : State :=
  match s.meter.resolved, s.plans.plan, om with
  | .auto, some img, some m =>
    if planActivationGroup img then
      s.putRuns (runCount s.meter.onRun (decide (planOnThr img ≤ m))) (runCount s.meter.offRun (decide (m ≤ planOffThr img)))
    else s.putRuns 0 0
  | _, _, _ => s.putRuns 0 0

/-- Whether the close of a mode makes an automatic start wanted (R93). -/
def autoStartTest (mode : Mode) (s : State) : Bool :=
  match s.meter.resolved, s.plans.plan with
  | .auto, some img => mode == .dark && planActivationGroup img && decide (planOnCount img ≤ s.meter.onRun)
  | _, _ => false

/-- Whether the close of a mode makes an automatic stop wanted (R93). -/
def autoStopTest (mode : Mode) (s : State) : Bool :=
  match s.meter.resolved, s.plans.plan with
  | .auto, some img => mode == .metering && planActivationGroup img && decide (planOffCount img ≤ s.meter.offRun)
  | _, _ => false

/-! ### Placing a record (R32, R37) -/

/-- A record queue with a record appended; a full queue first discards its oldest records (R37). R37 says of an arrival at
a full queue together with a READ RECORD that the queue then holds its depth minus one records either way; with the READ
RECORD first it holds its depth, as R37's own steps make it (DESIGN CHOICE, log entry 39). -/
def enqueueRecord (depth : Nat) (q : List IntervalRecord) (r : IntervalRecord) : List IntervalRecord :=
  q.drop (q.length + 1 - depth) ++ [r]

/-- Both queues take their copy of a record. -/
def placeRecord (r : IntervalRecord) (s : State) : State :=
  { s with
    records := { L := enqueueRecord s.links.L.depth s.records.L r, C := enqueueRecord s.links.C.depth s.records.C r }
    counter := { s.counter with waiting := none } }

/-- The start or stop a close decided, while AUTO with an activation group still stands (R92, R93). -/
def actOnAuto (w : Waiting) (s : State) : State :=
  if s.meter.resolved = .auto ∧ hasActivation s = true then
    if w.autoStart then tryStart .autoStart s
    else if w.autoStop then
      match s.mode with
      | .metering | .hold => shutdown .autoStop s
      | .dark | .startup | .shutdown | .manual | .faultDark => s
    else s
  else s

/-- The waiting record is placed, and then the transitions its close decided happen (R32, R64, R93). -/
def placeWaiting (s : State) : State :=
  match s.counter.waiting with
  | none => s
  | some w => judgeWish (actOnAuto w (placeRecord w.record s))

/-! ### The close (R23) -/

/-- Close causes as the counter posts them: MARK_MISSED before the INTERVAL_CLOSED of a FREE_RUN close, both stamped
with the closing interval (R25, R36). -/
def postClosed (cause : Cause) (next : Nat) (s : State) : State :=
  let s := match cause with
    | .freeRun => s.post .markMissed 0 next
    | .timed => s
    | .mark => s
  s.post .intervalClosed 0 (twoBytes cause.code s.mode.code)

/-- The next interval begins at elapsed 0. -/
def beginInterval (next : Nat) (s : State) : State := { s with counter := { s.counter with number := next, elapsed := 0 } }

/-- The current interval closes: events, the new interval, then the DFE, the scheduler, the plan store, the rate
computer and the mode controller act, and the completed record waits to be placed. A record that still waits is
placed first (R23, R32, R36, R64, R93, R139). -/
def closeInterval (cause : Cause) (next : Nat) (s : State) : State :=
  let s := placeWaiting s
  let number := s.counter.number
  let duration := s.counter.elapsed
  let mode := s.mode
  let dets := detEntries s duration
  let lanes := allLanes.map (laneEntry s)
  let s := beginInterval next (postClosed cause next s)
  let s := planAtClose (schedAtClose (dfeAtClose s))
  let s := rateAtClose dets s
  let s := runsAtClose (stationOf dets) s
  let record : IntervalRecord :=
    { number := number, cause := cause, duration := duration, next := next, mode := mode, slot := s.plans.active,
      om := stationOf dets, rate := s.rate.inForce, floorActive := s.rate.floorActive,
      spillActive := s.rate.spillActive, lanes := lanes, dets := dets }
  { s with counter := { s.counter with
      waiting := some { record := record, autoStart := autoStartTest mode s, autoStop := autoStopTest mode s } } }

/-- The number after the current one (R23). -/
def nextNumber (s : State) : Nat := (s.counter.number + 1) % 65536

/-- The elapsed time of a TIMED close, cs (R24). -/
def timedLimit (lim : SiteLimits) : Nat := lim.intervalLen * 100

/-- The elapsed time of a FREE_RUN close, cs (R25). -/
def freeRunLimit (lim : SiteLimits) : Nat := (lim.intervalLen + lim.markTol) * 100

/-- The elapsed time at which the acceptance window opens, cs (R26). -/
def windowOpens (lim : SiteLimits) : Nat := (lim.intervalLen - lim.markTol) * 100

/-- A TIMED close whose moment has come (R24). -/
def closeTimed (s : State) : State :=
  if s.limits.markSync = false ∧ timedLimit s.limits ≤ s.counter.elapsed then closeInterval .timed (nextNumber s) s else s

/-- A FREE_RUN close whose moment has come (R25). -/
def closeFreeRun (s : State) : State :=
  if s.limits.markSync = true ∧ freeRunLimit s.limits ≤ s.counter.elapsed then closeInterval .freeRun (nextNumber s) s
  else s

end Sys2Proof.Machine
end

