-- ==== Sys2Proof/Machine/Links.lean ====
section
/-! DEFINITION. The link interfaces: link states and supervision (R147 to R150), taking a frame (R144 to R146), replies,
and the requests about links and readout (R38 to R40, R151, R156 to R160). -/

namespace Sys2Proof.Machine

/-! ### Supervision -/

/-- Whether a valid frame is a supervising frame (R147). -/
def supervises (x : LinkInterface) (isKeepalive : Bool) : Bool := x.tHi == 0 || !x.keepaliveOnly || isKeepalive

/-- The staging claim released if a link holds it (R137). -/
def releaseClaim (l : LinkId) (s : State) : State :=
  match s.plans.claim with
  | some c => if c.holder = l then { s with plans := { s.plans with claim := none } } else s
  | none => s

/-- A link's rate order replaced. -/
def putOrder (l : LinkId) (o : Option RateOrder) (s : State) : State :=
  { s with rate := { s.rate with orders := s.rate.orders.set l o } }

/-- A standing order is removed with an event, and the rate recombines while engaged (R56, R57). -/
def removeOrder (l : LinkId) (kind : EventKind) (s : State) : State :=
  match s.rate.orders.get l with
  | some _ => recombine ((putOrder l none s).post kind (linkNumber l) 0)
  | none => s

/-- A hold is ended if a link owns it (R101). -/
def withdrawHold (l : LinkId) (s : State) : State :=
  match s.meter.hold with
  | some h => if h.owner = l then endHold .holdWithdrawn 0 s else s
  | none => s

/-- MANUAL ends if the link is Link L (R105). -/
def withdrawManual (l : LinkId) (s : State) : State :=
  if l = .L ∧ s.mode = .manual then endManual .manualWithdrawn s else s

/-- A link becomes ABSENT: LINK_ABSENT, then its standing state is withdrawn in the order of R150. -/
def becomeAbsent (l : LinkId) (s : State) : State :=
  let s := (s.setLink l { s.link l with state := .absent }).post .linkAbsent (linkNumber l) 0
  let s := removeOrder l .orderWithdrawn s
  let s := withdrawManual l (withdrawHold l s)
  resolve (putRequest l .none (releaseClaim l s))

/-- A supervision violation, 1 EARLY or 2 LATE: the count rises, the window restarts, and at the configured count the
link becomes ABSENT (R149). -/
def violate (l : LinkId) (code : Nat) (s : State) : State :=
  let n := (s.link l).violations + 1
  let s := s.setLink l { s.link l with violations := n, window := 0 }
  let s := s.post .supervisionViolation (linkNumber l) (twoBytes code n)
  if (s.link l).count ≤ n then becomeAbsent l s else s

/-- A link becomes PRESENT; the detail gives the state left (R148). The window is set to 0 with supervision off too
(DESIGN CHOICE, log entry 38). -/
def becomePresent (l : LinkId) (left : Nat) (s : State) : State :=
  (s.setLink l { s.link l with state := .present, violations := 0, window := 0 }).post .linkPresent (linkNumber l) left

/-- Whether a valid frame makes its link PRESENT (R148). -/
def makesPresent (x : LinkInterface) (isKeepalive : Bool) : Bool :=
  match x.state with
  | .silent => true
  | .absent => supervises x isKeepalive
  | .present => false

/-- What a valid frame does to link state and supervision, before its request is judged (R146 to R149). -/
def takeFrame (l : LinkId) (isKeepalive : Bool) (s : State) : State :=
  let x := s.link l
  match x.state with
  | .silent => becomePresent l 1 s
  | .absent => if supervises x isKeepalive then becomePresent l 2 s else s
  | .present =>
    if x.tHi ≠ 0 ∧ supervises x isKeepalive = true then
      if x.window < x.tLo * 10 then violate l 1 s else s.setLink l { x with violations := 0, window := 0 }
    else s

/-! ### Taking a request (R144 to R146) -/

/-- The transaction of a link ends. -/
def endTransaction (l : LinkId) (s : State) : State := s.setLink l { s.link l with transaction := .idle }

/-- A reply becomes the link's last reply (R145). -/
def storeReply (l : LinkId) (r : Reply) (s : State) : State := s.setLink l { s.link l with lastReply := r }

/-- A request from a valid frame: link state and supervision first, then the request at its owner if it is permitted on
the link, then the one resolution of a link that the frame has made PRESENT (R91, R146, R148). A wish that the request
itself judges (LOCK LIMITS, SELECT PLAN, CLEAR FAULT (meter)) is judged with the resolved request from before the frame
(DESIGN CHOICE, log entry 35). -/
def judgeRequest (l : LinkId) (isKeepalive : Bool) (permitted : Permitted) (handle : State → Answer) (s : State) : Answer :=
  let s1 := takeFrame l isKeepalive s
  let a := if permitted.allows l then handle s1 else refuse s1 .notPermitted
  if makesPresent (s.link l) isKeepalive then { a with state := resolve a.state } else a

/-- The end of a transaction that carries a valid frame of a kind, with the block's handling of its request. The request
of a transaction that a reset has cut short is not taken (R144). -/
def serve (l : LinkId) (kind tag : Byte) (permitted : Permitted) (handle : State → Answer) (s : State) : State :=
  if (s.link l).transaction = .cutShort then endTransaction l s
  else
    let a := judgeRequest l (kind == 0x02) permitted handle (endTransaction l s)
    storeReply l { kind := kind, tag := tag, status := a.status, payload := a.payload } a.state

/-- A request that carries no payload (RANGE with field index 255 otherwise). -/
def withoutPayload (p : List Byte) (handle : State → Answer) (s : State) : Answer :=
  if p.isEmpty then handle s else refuseRange s 255

/-- A request whose payload has one length (RANGE with field index 255 otherwise). -/
def withLength (n : Nat) (p : List Byte) (handle : State → Answer) (s : State) : Answer :=
  if p.length = n then handle s else refuseRange s 255

/-- A request whose fields pass their checks (RANGE with the first failing field's index otherwise). -/
def withFields (checks : List FieldCheck) (handle : State → Answer) (s : State) : Answer :=
  match firstFailure checks with
  | some index => refuseRange s index
  | none => handle s

/-- A request refused unless its link is PRESENT (WRONG_STATE otherwise). -/
def whenPresent (l : LinkId) (handle : State → Answer) (s : State) : Answer :=
  if present s l then handle s else refuse s .wrongState

/-! ### Chip select, bad frames, unknown kinds, NOP -/

/-- CHIP_SELECT_ASSERTED (R145). -/
def execChipSelectAsserted (l : LinkId) (s : State) : Host.Outcome State Fault Refusal :=
  finish (s.setLink l { s.link l with transaction := .active (s.link l).lastReply })

/-- BAD_FRAME (R144). -/
def execBadFrame (l : LinkId) (bytes : List Byte) (s : State) : Host.Outcome State Fault Refusal :=
  finish (if (s.link l).transaction = .cutShort then endTransaction l s
    else storeReply l { kind := bytes.getD 0 0, tag := bytes.getD 1 0, status := .badFrame, payload := [] } (endTransaction l s))

/-- UNKNOWN_KIND (R146). -/
def execUnknownKind (l : LinkId) (kind tag : Byte) (_payload : List Byte) (s : State) : Host.Outcome State Fault Refusal :=
  finish (serve l kind tag .either (fun s => refuse s .unknownKind) s)

/-- NOP: a valid frame whose last reply stands as it is (R145). -/
def execNop (l : LinkId) (_tag : Byte) (_payload : List Byte) (s : State) : Host.Outcome State Fault Refusal :=
  finish (if (s.link l).transaction = .cutShort then endTransaction l s
    else (judgeRequest l false .either (fun s => accept s []) (endTransaction l s)).state)

/-- KEEPALIVE (R147). -/
def execKeepalive (l : LinkId) (tag : Byte) (payload : List Byte) (s : State) : Host.Outcome State Fault Refusal :=
  finish (serve l 0x02 tag .either (withoutPayload payload fun s => accept s []) s)

/-! ### CONFIGURE LINK (R151, R40) -/

/-- A record queue under a new depth: the newest records are kept (R40). -/
def trimRecords (depth : Nat) (q : List IntervalRecord) : List IntervalRecord := q.drop (q.length - depth)

/-- The configuration a payload holds. The window is set to 0 also where it does not run afterwards, on a link that is not
PRESENT or with supervision off (DESIGN CHOICE, log entry 38). -/
def configured (p : List Byte) (x : LinkInterface) : LinkInterface :=
  { x with tLo := word16At p 0, tHi := word16At p 2, count := byteAt p 4, keepaliveOnly := byteAt p 5 == 1,
           depth := byteAt p 6, threshold := byteAt p 7, attnOnRecord := byteAt p 8 == 1, violations := 0,
           window := 0 }

/-- An accepted CONFIGURE LINK. -/
def configureLink (l : LinkId) (p : List Byte) (s : State) : Answer :=
  let s := s.setLink l (configured p (s.link l))
  accept { s with records := s.records.set l (trimRecords (byteAt p 6) (s.records.get l)) } []

/-- CONFIGURE LINK. -/
def execConfigureLink (l : LinkId) (tag : Byte) (payload : List Byte) (s : State) : Host.Outcome State Fault Refusal :=
  finish (serve l 0x03 tag .either
    (withLength 9 payload (withFields (configChecks payload) (configureLink l payload))) s)

/-! ### READ STATUS (R159) -/

/-- A bit for each drive, drive 1 first. -/
def driveBits (f : Drive → Bool) (s : State) : Nat := bitsToNat (allDrives.map fun k => f (s.drive k))

/-- The present faults of an input (R20). -/
def faultBits (x : Input) : Nat := bitsToNat [x.faultStuck, x.faultChatter, x.faultOff]

/-- The lane numbers of the ring, head first, 0 beyond its length (R86). -/
def ringBytes (ring : List (Fin 3)) : List Byte :=
  [0, 1, 2].map fun k => byte (match ring[k]? with
    | some i => i.val + 1
    | none => 0)

/-- Offsets 0 to 13: modes, requests, slots, lock and rate. -/
def statusMeter (s : State) : List Byte :=
  [byte s.mode.code, byte s.meter.phase.code, byte s.meter.resolved.code, byte (s.meter.requests.L).code,
   byte (s.meter.requests.C).code, byte (slotCode s.plans.active), byte (slotCode s.plans.pendingSlot),
   byte (flagCode s.locked)] ++ rateBytes s.rate.inForce ++
  [byte (bitsToNat [s.rate.floorActive, s.rate.spillActive])]

/-- Offsets 14 to 40: lanes, ring, links, claim, queues, interval, hold and aspects. -/
def statusStanding (l : LinkId) (s : State) : List Byte :=
  allLanes.map (fun i => byte (s.lane i).state.code) ++ [byte s.sched.ring.length] ++ ringBytes s.sched.ring ++
  [byte (s.link .L).state.code, byte (s.link .C).state.code] ++
  (match s.plans.claim with
    | some c => [byte (linkNumber c.holder), byte (c.target.val + 1)] ++ be16 c.timer
    | none => [0, 0, 0, 0]) ++
  [byte (s.events.get l).entries.length, byte (s.records.get l).length] ++
  be16 s.counter.number ++ be16 s.counter.elapsed ++
  (match s.meter.hold with
    | some h => [byte (linkNumber h.owner)] ++ be32 h.timer
    | none => [0, 0, 0, 0, 0]) ++
  allLanes.map (fun i => byte (aspectCode (s.aspect i)))

/-- Offsets 41 to 67: the latched fault summary and the requesting link's overflow mark. -/
def statusFaults (l : LinkId) (s : State) : List Byte :=
  be16 (driveBits Drive.commanded s) ++ be16 (driveBits Drive.sensed s) ++
  be16 (driveBits (fun d => d.out.isLatched) s) ++ be16 (driveBits (fun d => d.lit.isLatched) s) ++
  [byte (bitsToNat (allLanes.map (isFaulted s) ++ [conflictHeld s]))] ++
  allInputs.map (fun d => byte (faultBits (s.input d))) ++
  [byte (bitsToNat (allLanes.map (substitutionInForce s))), byte (flagCode (s.events.get l).mark)]

/-- The 68-byte snapshot (R159). -/
def statusBytes (l : LinkId) (s : State) : List Byte := statusMeter s ++ statusStanding l s ++ statusFaults l s

/-- READ STATUS. -/
def execReadStatus (l : LinkId) (tag : Byte) (payload : List Byte) (s : State) : Host.Outcome State Fault Refusal :=
  finish (serve l 0x04 tag .either (withoutPayload payload fun s => accept s (statusBytes l s)) s)

/-- The capabilities table (R160). -/
def capabilities : List Byte := [1, 1, 3, 16, 10, 8, 32, 2, 8, 48, 250, 16]

/-- READ CAPABILITIES (R160). -/
def execReadCapabilities (l : LinkId) (tag : Byte) (payload : List Byte) (s : State) : Host.Outcome State Fault Refusal :=
  finish (serve l 0x07 tag .either (withoutPayload payload fun s => accept s capabilities) s)

/-! ### Event and record queues (R38, R39, R156 to R158) -/

/-- The OVERFLOW entry of a queue at the counter's reading (R158). -/
def overflowEntry (s : State) (q : EventQueue) : Event :=
  { kind := .overflow, subject := 0, detail := q.discards, number := s.counter.number, elapsed := s.counter.elapsed }

/-- A queue left with some of its entries: if its overflow mark was set, OVERFLOW is appended and the mark cleared
(R158). -/
def EventQueue.leave (q : EventQueue) (rest : List Event) (overflow : Event) : EventQueue :=
  if q.mark then { entries := rest ++ [overflow], mark := false, discards := 0 } else { q with entries := rest }

/-- A link's event queue replaced. -/
def putEvents (l : LinkId) (q : EventQueue) (s : State) : State := { s with events := s.events.set l q }

/-- An accepted READ EVENTS for up to `n` entries (R156). -/
def readEvents (l : LinkId) (n : Nat) (s : State) : Answer :=
  let q := s.events.get l
  let taken := q.entries.take n
  let q' := q.leave (q.entries.drop n) (overflowEntry s q)
  accept (putEvents l q' s) ([byte taken.length, byte q'.entries.length] ++ (taken.map Event.bytes).flatten)

/-- READ EVENTS. -/
def execReadEvents (l : LinkId) (tag : Byte) (payload : List Byte) (s : State) : Host.Outcome State Fault Refusal :=
  finish (serve l 0x05 tag .either
    (withLength 1 payload (withFields [(inRange 1 16 (byteAt payload 0), 0)] (readEvents l (byteAt payload 0)))) s)

/-- An accepted FLUSH (events) (R157). -/
def flushEvents (l : LinkId) (s : State) : Answer :=
  accept (putEvents l ((s.events.get l).leave [] (overflowEntry s (s.events.get l))) s) []

/-- FLUSH (events). -/
def execFlushEvents (l : LinkId) (tag : Byte) (payload : List Byte) (s : State) : Host.Outcome State Fault Refusal :=
  finish (serve l 0x08 tag .either (withoutPayload payload (flushEvents l)) s)

/-- A link's record queue replaced. -/
def putRecords (l : LinkId) (q : List IntervalRecord) (s : State) : State := { s with records := s.records.set l q }

/-- An accepted READ RECORD (R38). -/
def readRecord (l : LinkId) (s : State) : Answer :=
  match s.records.get l with
  | r :: rest => accept (putRecords l rest s) r.bytes
  | [] => accept s []

/-- READ RECORD. -/
def execReadRecord (l : LinkId) (tag : Byte) (payload : List Byte) (s : State) : Host.Outcome State Fault Refusal :=
  finish (serve l 0x06 tag .either (withoutPayload payload (readRecord l)) s)

/-- FLUSH (records) (R39). -/
def execFlushRecords (l : LinkId) (tag : Byte) (payload : List Byte) (s : State) : Host.Outcome State Fault Refusal :=
  finish (serve l 0x09 tag .either (withoutPayload payload fun s => accept (putRecords l [] s) []) s)

end Sys2Proof.Machine
end

