-- ==== Sys2Proof/Machine/Plans.lean ====
section
/-! DEFINITION. The plan store and the site limits: WRITE LIMITS, LOCK LIMITS, OPEN PLAN, PLAN DATA, COMMIT PLAN,
ABORT PLAN, SELECT PLAN and the staging timeout (R126 to R140). -/

namespace Sys2Proof.Machine

/-- The full length of a claim timer, cs (R135). -/
def claimTime : Nat := 500

/-- The staging claim replaced. -/
def State.putClaim (s : State) (c : Option Claim) : State := { s with plans := { s.plans with claim := c } }

/-- The staging buffer replaced. -/
def State.putBuffer (s : State) (b : List Byte) : State := { s with plans := { s.plans with buffer := b } }

/-- A slot replaced. -/
def State.putSlot (s : State) (k : Fin 8) (x : Slot) : State :=
  { s with plans := { s.plans with slots := s.plans.slots.set k x } }

/-- The pending slot replaced. -/
def State.putPending (s : State) (k : Option (Fin 8)) : State := { s with plans := { s.plans with pendingSlot := k } }

/-- The claim a link holds. -/
def claimOf (s : State) (l : LinkId) : Option Claim :=
  match s.plans.claim with
  | some c => if c.holder = l then some c else none
  | none => none

/-- A request of the claim holder alone (NOT_OPEN otherwise). -/
def asHolder (l : LinkId) (handle : Claim → State → Answer) (s : State) : Answer :=
  match claimOf s l with
  | some c => handle c s
  | none => refuse s .notOpen

/-- The claim timer restarted (R135). -/
def restartClaim (c : Claim) (s : State) : State := s.putClaim (some { c with timer := claimTime })

/-- A request that names a slot in its first byte (RANGE with field index 0 otherwise). -/
def withSlot (p : List Byte) (handle : Fin 8 → State → Answer) (s : State) : Answer :=
  match slotOf (byteAt p 0) with
  | some k => handle k s
  | none => refuseRange s 0

/-! ### OPEN PLAN (R133) -/

/-- An accepted OPEN PLAN. -/
def openPlan (l : LinkId) (k : Fin 8) (s : State) : Answer :=
  let s' := (s.putBuffer (s.slot k).image).putClaim (some { holder := l, target := k, timer := claimTime })
  accept s' (byte (s.slot k).status.code :: (s.slot k).image)

/-- BUSY while the other link holds the claim (R133, check 4). -/
def unlessBusy (l : LinkId) (handle : State → Answer) (s : State) : Answer :=
  if (claimOf s (otherLink l)).isSome then refuse s .busy else handle s

/-- OPEN PLAN. -/
def execOpenPlan (l : LinkId) (tag : Byte) (payload : List Byte) (s : State) : Host.Outcome State Fault Refusal :=
  finish (serve l 0x10 tag .either
    (withLength 1 payload (withSlot payload fun k => whenPresent l (unlessBusy l (openPlan l k)))) s)

/-! ### PLAN DATA (R134) -/

/-- Bytes written into a list at an offset, the rest as it was. -/
def splice (buf : List Byte) (off : Nat) (data : List Byte) : List Byte :=
  buf.take off ++ data ++ buf.drop (off + data.length)

/-- PLAN DATA from the claim holder. -/
def planData (p : List Byte) (c : Claim) (s : State) : Answer :=
  let s := restartClaim c s
  let off := byteAt p 0
  let data := p.drop 1
  if imageSize < off + data.length then refuseRange s 0 else accept (s.putBuffer (splice s.plans.buffer off data)) []

/-- PLAN DATA. -/
def execPlanData (l : LinkId) (tag : Byte) (payload : List Byte) (s : State) : Host.Outcome State Fault Refusal :=
  finish (serve l 0x11 tag .either
    (fun s => if payload.length < 2 then refuseRange s 255 else asHolder l (planData payload) s) s)

/-! ### COMMIT PLAN (R136) -/

/-- Whether a lane set differs from that of the plan in force, while one is in force. -/
def otherLaneSet (s : State) (img : List Byte) : Bool :=
  match s.plans.plan with
  | some plan => !(planLaneSet img == planLaneSet plan)
  | none => false

/-- The buffer with the part's own stamps: holder link, sequence, interval number (R136). -/
def stamped (s : State) (c : Claim) : List Byte :=
  splice s.plans.buffer 42 ([byte (linkNumber c.holder), byte (planSequence (s.slot c.target).image + 1)] ++ be16 s.counter.number)

/-- A commit that passes its checks (R136). -/
def commitPlan (c : Claim) (s : State) : Answer :=
  let img := stamped s c
  let s := ((s.putBuffer img).putSlot c.target { status := .valid, image := img }).putClaim none
  let s := if s.plans.active = some c.target ∧ s.plans.pendingSlot = none then s.putPending (some c.target) else s
  accept s [byte (c.target.val + 1), byte (planSequence img)]

/-- Whether a commit would change the lane set of the active slot while the meter is not in DARK (R136, check 4). -/
def commitDisturbs (s : State) (c : Claim) : Bool :=
  !(s.mode == .dark) && s.plans.active == some c.target && otherLaneSet s s.plans.buffer

/-- COMMIT PLAN from the claim holder: checks 3 and 4, which restart the claim timer, then the commit. -/
def commitChecked (c : Claim) (s : State) : Answer :=
  match imageFailure (timingBounds s.locked s.limits) s.plans.buffer with
  | some index => refuseRange (restartClaim c s) index
  | none => if commitDisturbs s c then refuse (restartClaim c s) .wrongMode else commitPlan c s

/-- COMMIT PLAN. -/
def execCommitPlan (l : LinkId) (tag : Byte) (payload : List Byte) (s : State) : Host.Outcome State Fault Refusal :=
  finish (serve l 0x12 tag .either (withoutPayload payload (asHolder l commitChecked)) s)

/-- ABORT PLAN (R137). -/
def execAbortPlan (l : LinkId) (tag : Byte) (payload : List Byte) (s : State) : Host.Outcome State Fault Refusal :=
  finish (serve l 0x13 tag .either (withoutPayload payload (asHolder l fun _ s => accept (s.putClaim none) [])) s)

/-! ### SELECT PLAN (R138) -/

/-- The reply of SELECT PLAN: active and pending slot. -/
def selectReply (s : State) : List Byte := [byte (slotCode s.plans.active), byte (slotCode s.plans.pendingSlot)]

/-- A selection that passes its checks: applied at once in DARK or with no plan in force, else pending. The wish judged
is that of the resolved request as it stands (log entry 35 for a frame that makes its link PRESENT). The events of the queue
floor and of spill precede the MODE_CHANGE of a start that the application brings about; R138 and R140 give no order
(DESIGN CHOICE, log entry 32). -/
def selectPlan (k : Fin 8) (s : State) : Answer :=
  let s := if s.mode = .dark ∨ s.plans.plan = none then judgeWish (planChanged (applySlot k s)) else s.putPending (some k)
  accept s (selectReply s)

/-- Checks 4 and 5 of R138, then the selection. -/
def selectChecked (k : Fin 8) (s : State) : Answer :=
  if (s.slot k).status ≠ .valid then refuse s .wrongState
  else if s.mode ≠ .dark ∧ otherLaneSet s (s.slot k).image = true then refuse s .wrongMode
  else selectPlan k s

/-- SELECT PLAN. -/
def execSelectPlan (l : LinkId) (tag : Byte) (payload : List Byte) (s : State) : Host.Outcome State Fault Refusal :=
  finish (serve l 0x14 tag .either
    (withLength 1 payload (withSlot payload fun k => whenPresent l (selectChecked k))) s)

/-- STAGING_TIMEOUT (R135). -/
def stagingTimeout (s : State) : State :=
  match s.plans.claim with
  | some c =>
    if c.timer = 0 then (s.putClaim none).post .stagingTimeout (linkNumber c.holder) (c.target.val + 1) else s
  | none => s

/-- STAGING_TIMEOUT. -/
def execStagingTimeout (s : State) : Host.Outcome State Fault Refusal := finish (stagingTimeout s)

/-! ### WRITE LIMITS (R126, R127, R29) -/

/-- The current interval judged against new settings: it closes at once if its time has already come (R29). -/
def judgeInterval (s : State) : State := closeFreeRun (closeTimed s)

/-- Whether a lane's held order is due (R72). -/
def heldDue (s : State) (i : Fin 3) : Bool :=
  (s.lane i).held.isSome && (s.lane i).showsGreen && !belowGreenMin s i

/-- A held order whose green age has reached green_min is carried out, and the lane's change is followed up (R72, R127). -/
def judgeHeld (i : Fin 3) (s : State) : State := if heldDue s i then afterLaneChange i (carryOutHeld i s) else s

/-- An accepted WRITE LIMITS. R127 has every block take the new fields at one moment: here the interval is judged first,
then the resolved request is formed, then the held orders are carried out, lane by lane (DESIGN CHOICE, log entry
32). -/
def writeLimits (p : List Byte) (s : State) : Answer :=
  let changed := decide (s.limits.absentFallback ≠ (limitsOf p).absentFallback)
  let s := judgeInterval { s with limits := limitsOf p }
  let s := if changed then resolve s else s
  accept (orderEach judgeHeld allLanes s) []

/-- WRITE LIMITS. -/
def execWriteLimits (l : LinkId) (tag : Byte) (payload : List Byte) (s : State) : Host.Outcome State Fault Refusal :=
  finish (serve l 0x40 tag .onlyL
    (fun s => if s.locked then refuse s .locked
      else withLength 16 payload (withFields (limitsChecks payload) (writeLimits payload)) s) s)

/-! ### LOCK LIMITS (R128) -/

/-- One VALID slot judged against the locked limits: a failing slot becomes INVALID with PLAN_INVALID. -/
def judgeSlot (k : Fin 8) (s : State) : State :=
  if (s.slot k).status = .valid then
    match imageFailure (timingBounds true s.limits) (s.slot k).image with
    | some index => (s.putSlot k { s.slot k with status := .invalid }).post .planInvalid (k.val + 1) index
    | none => s
  else s

/-- Whether a slot has become INVALID. -/
def slotInvalid (s : State) (k : Option (Fin 8)) : Bool :=
  match k with
  | some k => (s.slot k).status == .invalid
  | none => false

/-- An INVALID active slot is deselected: no plan is in force (R128). -/
def deselect (s : State) : State :=
  planChanged { s with plans := { s.plans with plan := none, active := none, pendingSlot := none } }

/-- An accepted LOCK LIMITS: the steps of R128, which judge the slots' images. A plan in force that is an older copy of a
slot committed again while unlocked is not judged by them and stays in force (DESIGN CHOICE, log entry 34). The wish
judged at the end is that of the resolved request as it stands (log entry 35 for a frame that makes its link
PRESENT). -/
def lockLimits (s : State) : Answer :=
  let s := allSlots.foldl (fun s k => judgeSlot k s) { s with locked := true }
  let s := if slotInvalid s s.plans.pendingSlot then s.putPending none else s
  let s := if slotInvalid s s.plans.active then deselect s else s
  accept (judgeWish s) (allSlots.map fun k => byte (s.slot k).status.code)

/-- LOCK LIMITS. -/
def execLockLimits (l : LinkId) (tag : Byte) (payload : List Byte) (s : State) : Host.Outcome State Fault Refusal :=
  finish (serve l 0x41 tag .onlyL
    (withoutPayload payload fun s => if s.locked then refuse s .locked else lockLimits s) s)

end Sys2Proof.Machine
end

