-- ==== Sys2Proof/Machine/Meter.lean ====
section
/-! DEFINITION. The requests about marks, the map, activation, orders, hold, faults and manual control
(R2, R26, R27, R53 to R56, R90, R99 to R107, R119). -/

namespace Sys2Proof.Machine

/-! ### INTERVAL MARK (R26 to R28) -/

/-- The reply of a mark that was judged: result, then the current interval's number. -/
def markReply (result : Nat) (s : State) : List Byte := byte result :: be16 s.counter.number

/-- A mark that passes its length check: early, or accepted (R26, R27). -/
def intervalMark (n : Nat) (s : State) : Answer :=
  if s.counter.elapsed < windowOpens s.limits then
    let s := s.post .markEarly 0 n
    accept s (markReply 1 s)
  else
    let s := closeInterval .mark n s
    accept s (markReply 0 s)

/-- INTERVAL MARK. -/
def execIntervalMark (l : LinkId) (tag : Byte) (payload : List Byte) (s : State) : Host.Outcome State Fault Refusal :=
  finish (serve l 0x30 tag .onlyC
    (fun s => if s.limits.markSync then withLength 2 payload (intervalMark (word16At payload 0)) s
      else refuse s .wrongState) s)

/-! ### WRITE DETECTOR MAP (R2) -/

/-- WRITE DETECTOR MAP. -/
def execWriteDetectorMap (l : LinkId) (tag : Byte) (payload : List Byte) (s : State) : Host.Outcome State Fault Refusal :=
  finish (serve l 0x42 tag .onlyL
    (fun s => if s.mode = .dark ∨ s.mode = .faultDark then
        withLength 128 payload (withFields (mapChecks payload) fun s => accept (writeMap payload s) []) s
      else refuse s .wrongMode) s)

/-! ### REQUEST METERING (R90) -/

/-- A request that passes: held, resolved and judged. -/
def requestMetering (l : LinkId) (a : Activation) (s : State) : Answer :=
  let s := resolve (putRequest l a s)
  accept s [byte s.meter.resolved.code, byte s.mode.code]

/-- REQUEST METERING. -/
def execRequestMetering (l : LinkId) (tag : Byte) (payload : List Byte) (s : State) : Host.Outcome State Fault Refusal :=
  finish (serve l 0x20 tag .either
    (withLength 1 payload fun s =>
      match activationOf (byteAt payload 0) with
      | some a => whenPresent l (requestMetering l a) s
      | none => refuseRange s 0) s)

/-! ### Rate orders (R53 to R56) -/

/-- The reply of RATE ORDER: cap and floor as held, 0 for an absent one. -/
def orderReply (o : Option RateOrder) : List Byte :=
  be16 ((orderField o RateOrder.cap).getD 0) ++ be16 ((orderField o RateOrder.floor).getD 0)

/-- An accepted RATE ORDER (R54). -/
def rateOrder (l : LinkId) (p : List Byte) (s : State) : Answer :=
  accept (recombine (putOrder l (orderOf p) s)) (orderReply (orderOf p))

/-- RATE ORDER. -/
def execRateOrder (l : LinkId) (tag : Byte) (payload : List Byte) (s : State) : Host.Outcome State Fault Refusal :=
  finish (serve l 0x21 tag .either
    (withLength 7 payload (withFields (orderChecks payload) (whenPresent l (rateOrder l payload)))) s)

/-- An accepted CANCEL ORDER (R55). -/
def cancelOrder (l : LinkId) (s : State) : Answer :=
  match s.rate.orders.get l with
  | some _ => accept (recombine (putOrder l none s)) [1]
  | none => accept s [0]

/-- CANCEL ORDER. -/
def execCancelOrder (l : LinkId) (tag : Byte) (payload : List Byte) (s : State) : Host.Outcome State Fault Refusal :=
  finish (serve l 0x22 tag .either (withoutPayload payload (cancelOrder l)) s)

/-- Whether a link's order has an expiry timer that has run out (R56). -/
def orderDue (s : State) (l : LinkId) : Bool :=
  match s.rate.orders.get l with
  | some o => o.timer == some 0
  | none => false

/-- ORDER_EXPIRED (R56). -/
def execOrderExpired (l : LinkId) (s : State) : Host.Outcome State Fault Refusal :=
  finish (if orderDue s l then removeOrder l .orderExpired s else s)

/-! ### Hold (R99 to R101) -/

/-- Checks 3 to 5 of R99, then the hold. -/
def holdChecked (l : LinkId) (s : State) : Answer :=
  if s.mode = .hold then refuse s .wrongState
  else if s.mode ≠ .metering then refuse s .wrongMode
  else if s.rate.spillActive then refuse s .wrongState
  else accept (enterHold l s) []

/-- HOLD. -/
def execHold (l : LinkId) (tag : Byte) (payload : List Byte) (s : State) : Host.Outcome State Fault Refusal :=
  finish (serve l 0x23 tag .either (withoutPayload payload (whenPresent l (holdChecked l))) s)

/-- Checks 3 and 4 of R100, then the return to METERING. -/
def resumeChecked (l : LinkId) (s : State) : Answer :=
  match s.meter.hold with
  | none => refuse s .wrongState
  | some h => if h.owner = l ∨ l = .L then accept (leaveHold .resumed s) [] else refuse s .notOwner

/-- RESUME. -/
def execResume (l : LinkId) (tag : Byte) (payload : List Byte) (s : State) : Host.Outcome State Fault Refusal :=
  finish (serve l 0x24 tag .either (withoutPayload payload (whenPresent l (resumeChecked l))) s)

/-- Whether the hold timer has run out (R101). -/
def holdDue (s : State) : Bool :=
  s.mode == .hold && (match s.meter.hold with
    | some h => h.timer == 0
    | none => false)

/-- HOLD_EXPIRED (R101). -/
def execHoldExpired (s : State) : Host.Outcome State Fault Refusal :=
  finish (if holdDue s then endHold .holdExpired 0 s else s)

/-! ### Faults (R107, R119) -/

/-- A request that names a lane in its first byte (RANGE with field index 0 otherwise). -/
def withLane (p : List Byte) (handle : Fin 3 → State → Answer) (s : State) : Answer :=
  match laneOf (byteAt p 0) with
  | some i => handle i s
  | none => refuseRange s 0

/-- Checks 4 and 5 of R119, then the restore. -/
def clearLaneChecked (i : Fin 3) (s : State) : Answer :=
  if ¬ (s.mode = .metering ∨ s.mode = .hold ∨ s.mode = .manual) then refuse s .wrongMode
  else if isFaulted s i then accept (clearLaneFault i s) []
  else refuse s .wrongState

/-- CLEAR FAULT (lane). -/
def execClearFaultLane (l : LinkId) (tag : Byte) (payload : List Byte) (s : State) : Host.Outcome State Fault Refusal :=
  finish (serve l 0x25 tag .either
    (withLength 1 payload (withLane payload fun i => whenPresent l (clearLaneChecked i))) s)

/-- Checks 4 and 5 of R107, then the return to DARK. -/
def clearMeterChecked (s : State) : Answer :=
  if s.mode ≠ .faultDark then refuse s .wrongMode
  else if conflictHeld s then refuse s .wrongState
  else accept (enterDarkJudged .faultCleared (s.post .faultCleared 0 0)) []

/-- CLEAR FAULT (meter). -/
def execClearFaultMeter (l : LinkId) (tag : Byte) (payload : List Byte) (s : State) : Host.Outcome State Fault Refusal :=
  finish (serve l 0x47 tag .onlyL (withoutPayload payload (whenPresent l clearMeterChecked)) s)

/-! ### Manual control (R102 to R105) -/

/-- Checks 4 and 5 of R102, then MANUAL. -/
def enterManualChecked (s : State) : Answer :=
  if s.mode = .manual then refuse s .wrongState
  else if s.mode = .faultDark then refuse s .wrongMode
  else accept (enterManual s) []

/-- ENTER MANUAL. -/
def execEnterManual (l : LinkId) (tag : Byte) (payload : List Byte) (s : State) : Host.Outcome State Fault Refusal :=
  finish (serve l 0x43 tag .onlyL (withoutPayload payload (whenPresent l enterManualChecked)) s)

/-- Checks 4 and 5 of R103, then the new pending aspect: 0 APPLIED or 1 PENDING. -/
def setAspectChecked (i : Fin 3) (a : Aspect) (s : State) : Answer :=
  if s.mode ≠ .manual then refuse s .wrongMode
  else if isFaulted s i then refuse s .wrongState
  else
    let s := workLane i (s.setAspectOf i (some a))
    accept s [if (s.aspect i).isSome then 1 else 0]

/-- SET ASPECT. -/
def execSetAspect (l : LinkId) (tag : Byte) (payload : List Byte) (s : State) : Host.Outcome State Fault Refusal :=
  finish (serve l 0x44 tag .onlyL
    (withLength 2 payload (withLane payload fun i s =>
      match aspectOf (byteAt payload 1) with
      | some a => setAspectChecked i a s
      | none => refuseRange s 1)) s)

/-- SET BEACON (R104). -/
def execSetBeacon (l : LinkId) (tag : Byte) (payload : List Byte) (s : State) : Host.Outcome State Fault Refusal :=
  finish (serve l 0x45 tag .onlyL
    (withLength 1 payload (withFields [(inRange 0 1 (byteAt payload 0), 0)] fun s =>
      if s.mode = .manual then accept (commandBeacon (byteAt payload 0 == 1) s) [] else refuse s .wrongMode)) s)

/-- EXIT MANUAL (R105). -/
def execExitManual (l : LinkId) (tag : Byte) (payload : List Byte) (s : State) : Host.Outcome State Fault Refusal :=
  finish (serve l 0x46 tag .onlyL
    (withoutPayload payload fun s =>
      if s.mode = .manual then accept (endManual .manualExited s) [] else refuse s .wrongMode) s)

end Sys2Proof.Machine
end

