-- ==== Sys2Proof/Machine/Resets.lean ====
section
/-! DEFINITION. The three resets: power-on, the reset line, and SOFT RESET (R21, R22, R41, R42, R67, R68, R87, R88, R109,
R110, R124, R125, R129, R141, R142, R153, R154, R161). -/

namespace Sys2Proof.Machine

/-! ### Power-on and the reset line -/

/-- The rate computer after a reset command: as after power-on, with the two values that R67 calls undefined free
(R67, R68; DESIGN CHOICE, safe, log entry 2). -/
def resetRate (n : Nat) : RateComputer :=
  { RateComputer.reset with
    rFb := (Config.undefinedRate n).toNat, rPrev := (Config.undefinedRate (n + 1)).toNat }

/-- The transaction of a link after a reset: one under way is cut short (R144). -/
def cutTransaction : Transaction → Transaction
  | .idle => .idle
  | .active _ => .cutShort
  | .cutShort => .cutShort

/-- The inputs that are raw on show their rising edge, lowest first (R21). -/
def showRaw (s : State) : State :=
  allInputs.foldl (fun s d => if (s.input d).raw && !(s.input d).cond then risingEdge d s else s) s

/-- The state of a full reset of a cause, before the raw-on inputs show their edges: the power-on state with the pins'
levels and the commands that wait as they are (R21, R41, R67, R87, R109, R124, R141, R154, R161). -/
def hardResetBase (cause : Nat) (s : State) : State :=
  { State.reset with
    inputs := mapAll (fun x => { Input.reset with raw := x.raw }) s.inputs
    drives := mapAll (fun d => { Drive.reset with sensed := d.sensed }) s.drives
    links := { L := { LinkInterface.reset with transaction := cutTransaction s.links.L.transaction }
               C := { LinkInterface.reset with transaction := cutTransaction s.links.C.transaction } }
    events := { L := .afterReset cause 0, C := .afterReset cause 0 }
    rate := resetRate s.choices
    pending := s.pending
    choices := s.choices + 2 }

/-- POWER_ON. -/
def execPowerOn (s : State) : Host.Outcome State Fault Refusal := finish (showRaw (hardResetBase 1 s))

/-- The plan slots with their images kept as they stood (R141). -/
def keepSlots (old s : State) : State := { s with plans := { s.plans with slots := old.plans.slots } }

/-- RESET_LINE: as power-on, with the plan slots kept (R129, R141). -/
def execResetLine (s : State) : Host.Outcome State Fault Refusal := finish (showRaw (keepSlots s (hardResetBase 2 s)))

/-! ### SOFT RESET (R153) -/

/-- An input after a soft reset: map kept, conditioned off, no fault, no count; a raw-on pin starts its on_filter; the
spill run of a SPILLBACK input begins (R22, R42, R68). -/
def Input.softReset (x : Input) : Input :=
  { Input.reset with
    entry := x.entry
    raw := x.raw
    filter := if x.raw ∧ x.entry.onFilter ≠ 0 then some x.entry.onFilter else none
    run := if x.entry.role = .spillback then some { on := false, time := 0 } else none }

/-- The inputs whose on_filter is 0 and that are raw on show their rising edge at once (R5, R22). -/
def showUnfiltered (s : State) : State :=
  allInputs.foldl (fun s d =>
    if (s.input d).raw && !(s.input d).cond && (s.input d).entry.onFilter == 0 then risingEdge d s else s) s

/-- A link interface after a soft reset: its violation count returns to 0 and its window restarts (R153). A window that was
not running is set to 0 as well (DESIGN CHOICE, log entry 38). -/
def LinkInterface.softReset (x : LinkInterface) : LinkInterface := { x with violations := 0, window := 0 }

/-- The state of a soft reset before the unfiltered inputs show their edges. A record not yet placed goes with the
emptied queues (DESIGN CHOICE, unsafe, log entry 9). The time since an amber that followed a REST_GREEN is dropped with
every other timer of a lane, where a cut order keeps it (DESIGN CHOICE, log entry 36). Green age and phase duration of each
lane are 0, where a cut order keeps the last values (DESIGN CHOICE, log entry 40). -/
def softResetBase (s : State) : State :=
  { s with
    inputs := mapAll Input.softReset s.inputs
    dfeLanes := Vector.replicate 3 ⟨0, false⟩
    counter := { number := nextNumber s, elapsed := 0, waiting := none }
    records := { L := [], C := [] }
    rate := resetRate s.choices
    sched := { lanes := Vector.replicate 3 .reset, ring := [], elapsed := 0, headway := s.sched.headway, releasePending := false }
    meter := .reset
    drives := mapAll (fun d => ({ d with commanded := false } : Drive).reprove s.limits) s.drives
    plans := { s.plans with claim := none }
    links := { L := s.links.L.softReset, C := s.links.C.softReset }
    events := { L := .afterReset 3 (nextNumber s), C := .afterReset 3 (nextNumber s) }
    choices := s.choices + 2 }

/-- An accepted SOFT RESET. -/
def softReset (s : State) : Answer := accept (showUnfiltered (softResetBase s)) []

/-- SOFT RESET. -/
def execSoftReset (l : LinkId) (tag : Byte) (payload : List Byte) (s : State) : Host.Outcome State Fault Refusal :=
  finish (serve l 0x48 tag .onlyL (withoutPayload payload softReset) s)

end Sys2Proof.Machine
end

