-- ==== Sys2Proof/Machine/Timers.lean ====
section
/-! DEFINITION. The pins' events and the expiries as commands, the passage of time, and which expiries are due. An
expiry command whose timer has not run out finds that its expiry does not occur, as where another event taken first has
restarted or dropped the timer (R9, R28, R135), and changes nothing (log entry 4). -/

namespace Sys2Proof.Machine

/-! ### Detector and counter -/

/-- DETECTOR_RAW_CHANGE (R5). -/
def execDetectorRawChange (d : Fin 16) (level : Bool) (s : State) : Host.Outcome State Fault Refusal :=
  finish (rawChange d level s)

/-- FILTER_TIMER_EXPIRY (R5). -/
def execFilterTimerExpiry (d : Fin 16) (s : State) : Host.Outcome State Fault Refusal := finish (filterExpiry d s)

/-- STUCK_TIMER_EXPIRY (R9). -/
def execStuckTimerExpiry (d : Fin 16) (s : State) : Host.Outcome State Fault Refusal := finish (stuckExpiry d s)

/-- INTERVAL_TIMED_EXPIRY (R24). -/
def execIntervalTimedExpiry (s : State) : Host.Outcome State Fault Refusal := finish (closeTimed s)

/-- FREE_RUN_EXPIRY (R25). -/
def execFreeRunExpiry (s : State) : Host.Outcome State Fault Refusal := finish (closeFreeRun s)

/-- RECORD_PLACED (R32). -/
def execRecordPlaced (s : State) : Host.Outcome State Fault Refusal := finish (placeWaiting s)

/-- SPILL_ON (R50). -/
def execSpillOn (s : State) : Host.Outcome State Fault Refusal := finish (judgeSpillOn true s)

/-- SPILL_OFF (R51). -/
def execSpillOff (s : State) : Host.Outcome State Fault Refusal := finish (judgeSpillOff true s)

/-! ### Lanes -/

/-- Whether a lane's phase timer has run out in a state. -/
def phaseDue (s : State) (i : Fin 3) (st : LaneState) : Bool := (s.lane i).state == st && (s.lane i).timer == some 0

/-- GREEN_TIMER_EXPIRY (R71). -/
def execGreenTimerExpiry (i : Fin 3) (s : State) : Host.Outcome State Fault Refusal :=
  finish (if phaseDue s i .green then afterLaneChange i (endGreen i s) else s)

/-- AMBER_TIMER_EXPIRY (R71), and the wish judged after an entry to METERING it brings about (R95, R96). -/
def execAmberTimerExpiry (i : Fin 3) (s : State) : Host.Outcome State Fault Refusal :=
  finish (if phaseDue s i .amber then judgeWish (afterLaneChange i (endAmber i s)) else s)

/-- RED_TIMER_EXPIRY (R71); a pending release is taken (R77). -/
def execRedTimerExpiry (i : Fin 3) (s : State) : Host.Outcome State Fault Refusal :=
  finish (if phaseDue s i .red then takePending (afterLaneChange i (endRed i s)) else s)

/-- Whether the headway timer has expired without its release having been taken or made pending (R75, R76). -/
def headwayDue (s : State) : Bool :=
  s.mode == .metering && !s.sched.releasePending && decide (s.sched.headway ≤ s.sched.elapsed)

/-- HEADWAY_EXPIRY (R76). -/
def execHeadwayExpiry (s : State) : Host.Outcome State Fault Refusal :=
  finish (if headwayDue s then releaseDue s else s)

/-- Whether a lane's grace timer has run out (R83). -/
def graceDue (s : State) (i : Fin 3) : Bool :=
  match (s.lane i).window with
  | .inGrace _ left => left == 0
  | .opened _ => false
  | .closed => false

/-- GRACE_EXPIRY (R83). -/
def execGraceExpiry (i : Fin 3) (s : State) : Host.Outcome State Fault Refusal :=
  finish (if graceDue s i then s.setLane i { s.lane i with window := .closed } else s)

/-- GREEN_MIN_REACHED (R72). -/
def execGreenMinReached (i : Fin 3) (s : State) : Host.Outcome State Fault Refusal := finish (judgeHeld i s)

/-- Whether the rest of a sequence phase has run out. -/
def restDue (s : State) (m : Mode) (p : Phase) : Bool := s.mode == m && s.meter.phase == p && s.meter.seqTimer == 0

/-- The lanes in REST_GREEN. -/
def restingLanes (s : State) : List (Fin 3) := allLanes.filter fun i => (s.lane i).state == .restGreen

/-- STARTUP_REST_EXPIRY (R95). -/
def execStartupRestExpiry (s : State) : Host.Outcome State Fault Refusal :=
  finish (if restDue s .startup .rest then (orderEach orderClear (restingLanes s) s).putPhase .clearing 0 else s)

/-- SHUTDOWN_REST_EXPIRY (R97). -/
def execShutdownRestExpiry (s : State) : Host.Outcome State Fault Refusal :=
  finish (if restDue s .shutdown .resting then enterDarkJudged .sequence (orderEach orderCut (restingLanes s) s) else s)

/-! ### Lamps -/

/-- LAMP_SENSE_CHANGE (R113, R114). -/
def execLampSenseChange (k : Fin 10) (v : Bool) (s : State) : Host.Outcome State Fault Refusal := finish (senseChange k v s)

/-- BLANKING_EXPIRY (R112). -/
def execBlankingExpiry (k : Fin 10) (s : State) : Host.Outcome State Fault Refusal := finish (endBlanking k s)

/-- DEGLITCH_EXPIRY (R113). -/
def execDeglitchExpiry (k : Fin 10) (w : WatchKind) (s : State) : Host.Outcome State Fault Refusal := finish (latch k w s)

/-- PROOF_EXPIRY (R114). -/
def execProofExpiry (k : Fin 10) (w : WatchKind) (s : State) : Host.Outcome State Fault Refusal := finish (prove k w s)

/-! ### Links -/

/-- Whether a link's supervision window has reached t_hi (R149). -/
def lateDue (s : State) (l : LinkId) : Bool :=
  present s l && !((s.link l).tHi == 0) && decide ((s.link l).tHi * 10 ≤ (s.link l).window)

/-- LATE_VIOLATION (R149). -/
def execLateViolation (l : LinkId) (s : State) : Host.Outcome State Fault Refusal :=
  finish (if lateDue s l then violate l 2 s else s)

/-! ### One hundredth of a second -/

/-- A timer that runs up to a limit. -/
def upTo (limit n : Nat) : Nat := if n < limit then n + 1 else n

/-- A spill run lengthens. -/
def SpillRun.tick (r : SpillRun) : SpillRun := { r with time := r.time + 1 }

/-- An input over one cs: filter timer, stuck timer (to 360000 cs), on-time and spill run (R5, R9, R30, R49). -/
def Input.tick (x : Input) : Input :=
  { x with
    filter := x.filter.map (· - 1)
    stuck := if x.cond then upTo 360000 x.stuck else x.stuck
    onTime := if x.cond then x.onTime + 1 else x.onTime
    run := x.run.map SpillRun.tick }

/-- A counting window over one cs (R83). -/
def Window.tick : Window → Window
  | .closed => .closed
  | .opened c => .opened c
  | .inGrace c left => .inGrace c (left - 1)

/-- The time since an amber after REST_GREEN over one cs; it is dropped beyond 100 cs (R84). -/
def restTick : Option Nat → Option Nat
  | some n => if n < 100 then some (n + 1) else none
  | none => none

/-- A lane over one cs: phase timer, green age, grace (R70, R83). -/
def Lane.tick (x : Lane) : Lane :=
  { x with
    timer := x.timer.map (· - 1)
    age := if x.showsGreen then x.age + 1 else x.age
    window := x.window.tick
    sinceRest := restTick x.sinceRest }

/-- A watch over one cs: the deglitch timer of a SUSPECT watch, the proof timer of a LATCHED one (R113, R114). -/
def WatchState.tick : WatchState → WatchState
  | .clear => .clear
  | .suspect e lim => .suspect (e + 1) lim
  | .latched (some (e, lim)) => .latched (some (e + 1, lim))
  | .latched none => .latched none

/-- A drive over one cs. -/
def Drive.tick (d : Drive) : Drive := { d with blank := d.blank.map (· - 1), out := d.out.tick, lit := d.lit.tick }

/-- A rate order over one cs (R54). -/
def RateOrder.tick (o : RateOrder) : RateOrder := { o with timer := o.timer.map (· - 1) }

/-- A link interface over one cs: the window runs while supervision is on and the link is PRESENT (R149). -/
def LinkInterface.tick (x : LinkInterface) : LinkInterface :=
  if x.state = .present ∧ x.tHi ≠ 0 then { x with window := x.window + 1 } else x

/-- The headway timer over one cs: it runs in METERING up to H; once it has expired and its release is pending it stays
at its value, whatever H is handed over, until the next onset restarts it (R75, R77, R79). -/
def headwayTick (s : State) : Nat :=
  if s.mode = .metering ∧ s.sched.releasePending = false then upTo s.sched.headway s.sched.elapsed else s.sched.elapsed

/-- One cs passes: every running timer of the part moves on by one. -/
def tick (s : State) : State :=
  { s with
    inputs := mapAll Input.tick s.inputs
    counter := { s.counter with elapsed := s.counter.elapsed + 1 }
    rate := { s.rate with orders :=
      { L := s.rate.orders.L.map RateOrder.tick, C := s.rate.orders.C.map RateOrder.tick } }
    sched := { s.sched with
      lanes := mapAll Lane.tick s.sched.lanes
      elapsed := headwayTick s }
    meter := { s.meter with
      seqTimer := s.meter.seqTimer - 1
      hold := s.meter.hold.map fun h => { h with timer := h.timer - 1 } }
    drives := mapAll Drive.tick s.drives
    plans := { s.plans with claim := s.plans.claim.map fun c => { c with timer := c.timer - 1 } }
    links := { L := s.links.L.tick, C := s.links.C.tick } }

/-! ### The expiries that are due -/

/-- A command in a list of its own while a test holds. -/
def dueIf (b : Bool) (i : Instr) : List Instr := if b then [i] else []

/-- The due expiries of an input. -/
def dueOfInput (s : State) (d : Fin 16) : List Instr :=
  dueIf ((s.input d).filter == some 0) (.filterTimerExpiry d) ++ dueIf (stuckDue (s.input d)) (.stuckTimerExpiry d)

/-- The due expiries of a lane. -/
def dueOfLane (s : State) (i : Fin 3) : List Instr :=
  dueIf (phaseDue s i .green) (.greenTimerExpiry i) ++ dueIf (phaseDue s i .amber) (.amberTimerExpiry i) ++
    dueIf (phaseDue s i .red) (.redTimerExpiry i) ++ dueIf (graceDue s i) (.graceExpiry i) ++
    dueIf (heldDue s i) (.greenMinReached i)

/-- The due expiries of a drive. -/
def dueOfDrive (s : State) (k : Fin 10) : List Instr :=
  dueIf ((s.drive k).blank == some 0) (.blankingExpiry k) ++
    dueIf (deglitchDue (s.drive k) .out) (.deglitchExpiry k .out) ++
    dueIf (deglitchDue (s.drive k) .lit) (.deglitchExpiry k .lit) ++
    dueIf (proofDue (s.drive k) .out) (.proofExpiry k .out) ++
    dueIf (proofDue (s.drive k) .lit) (.proofExpiry k .lit)

/-- The due expiries of a link. -/
def dueOfLink (s : State) (l : LinkId) : List Instr :=
  dueIf (orderDue s l) (.orderExpired l) ++ dueIf (lateDue s l) (.lateViolation l)

/-- Whether the staging claim's timer has run out (R135). -/
def claimDue (s : State) : Bool :=
  match s.plans.claim with
  | some c => c.timer == 0
  | none => false

/-- The due expiries of the counter, the rate computer, the mode controller and the plan store. -/
def dueOfBlocks (s : State) : List Instr :=
  dueIf s.counter.waiting.isSome .recordPlaced ++
    dueIf (!s.limits.markSync && decide (timedLimit s.limits ≤ s.counter.elapsed)) .intervalTimedExpiry ++
    dueIf (s.limits.markSync && decide (freeRunLimit s.limits ≤ s.counter.elapsed)) .freeRunExpiry ++
    dueIf (!s.rate.spillActive && (spillInput s).isSome) .spillOn ++
    dueIf (s.rate.spillActive && (spillOffCase s).isSome) .spillOff ++
    dueIf (holdDue s) .holdExpired ++ dueIf (headwayDue s) .headwayExpiry ++
    dueIf (restDue s .startup .rest) .startupRestExpiry ++ dueIf (restDue s .shutdown .resting) .shutdownRestExpiry ++
    dueIf (claimDue s) .stagingTimeout

/-- Every expiry that is due. -/
def due (s : State) : List Instr :=
  dueOfBlocks s ++ (allLanes.map (dueOfLane s)).flatten ++ (allInputs.map (dueOfInput s)).flatten ++
    (allDrives.map (dueOfDrive s)).flatten ++ dueOfLink s .L ++ dueOfLink s .C

/-- The expiry that the idle part takes next, with the state it is taken in: none when none is due; the only one due;
or, of several due at one moment, the one that the free value chooses (log entry 1). -/
def nextExpiry (s : State) : Option (Instr × State) :=
  match due s with
  | [] => none
  | [c] => some (c, s)
  | c :: rest =>
    some ((c :: rest).getD (Config.expiryChoice s.choices % (rest.length + 1)) c, { s with choices := s.choices + 1 })

end Sys2Proof.Machine
end

