-- ==== Sys2Proof/Machine/Dispatch.lean ====
section
/-! DEFINITION. The dispatch: one arm for each command, each a direct call of its meaning. -/

namespace Sys2Proof.Machine

def exec (i : Instr) (s : State) : Host.Outcome State Fault Refusal :=
  match i with
  | .powerOn => Sys2Proof.Machine.execPowerOn s
  | .resetLine => Sys2Proof.Machine.execResetLine s
  | .chipSelectAsserted link => Sys2Proof.Machine.execChipSelectAsserted link s
  | .badFrame link bytes => Sys2Proof.Machine.execBadFrame link bytes s
  | .unknownKind link kind tag payload => Sys2Proof.Machine.execUnknownKind link kind tag payload s
  | .nop link tag payload => Sys2Proof.Machine.execNop link tag payload s
  | .keepalive link tag payload => Sys2Proof.Machine.execKeepalive link tag payload s
  | .configureLink link tag payload => Sys2Proof.Machine.execConfigureLink link tag payload s
  | .readStatus link tag payload => Sys2Proof.Machine.execReadStatus link tag payload s
  | .readEvents link tag payload => Sys2Proof.Machine.execReadEvents link tag payload s
  | .readRecord link tag payload => Sys2Proof.Machine.execReadRecord link tag payload s
  | .readCapabilities link tag payload => Sys2Proof.Machine.execReadCapabilities link tag payload s
  | .flushEvents link tag payload => Sys2Proof.Machine.execFlushEvents link tag payload s
  | .flushRecords link tag payload => Sys2Proof.Machine.execFlushRecords link tag payload s
  | .openPlan link tag payload => Sys2Proof.Machine.execOpenPlan link tag payload s
  | .planData link tag payload => Sys2Proof.Machine.execPlanData link tag payload s
  | .commitPlan link tag payload => Sys2Proof.Machine.execCommitPlan link tag payload s
  | .abortPlan link tag payload => Sys2Proof.Machine.execAbortPlan link tag payload s
  | .selectPlan link tag payload => Sys2Proof.Machine.execSelectPlan link tag payload s
  | .requestMetering link tag payload => Sys2Proof.Machine.execRequestMetering link tag payload s
  | .rateOrder link tag payload => Sys2Proof.Machine.execRateOrder link tag payload s
  | .cancelOrder link tag payload => Sys2Proof.Machine.execCancelOrder link tag payload s
  | .hold link tag payload => Sys2Proof.Machine.execHold link tag payload s
  | .resume link tag payload => Sys2Proof.Machine.execResume link tag payload s
  | .clearFaultLane link tag payload => Sys2Proof.Machine.execClearFaultLane link tag payload s
  | .intervalMark link tag payload => Sys2Proof.Machine.execIntervalMark link tag payload s
  | .writeLimits link tag payload => Sys2Proof.Machine.execWriteLimits link tag payload s
  | .lockLimits link tag payload => Sys2Proof.Machine.execLockLimits link tag payload s
  | .writeDetectorMap link tag payload => Sys2Proof.Machine.execWriteDetectorMap link tag payload s
  | .enterManual link tag payload => Sys2Proof.Machine.execEnterManual link tag payload s
  | .setAspect link tag payload => Sys2Proof.Machine.execSetAspect link tag payload s
  | .setBeacon link tag payload => Sys2Proof.Machine.execSetBeacon link tag payload s
  | .exitManual link tag payload => Sys2Proof.Machine.execExitManual link tag payload s
  | .clearFaultMeter link tag payload => Sys2Proof.Machine.execClearFaultMeter link tag payload s
  | .softReset link tag payload => Sys2Proof.Machine.execSoftReset link tag payload s
  | .detectorRawChange d level => Sys2Proof.Machine.execDetectorRawChange d level s
  | .filterTimerExpiry d => Sys2Proof.Machine.execFilterTimerExpiry d s
  | .stuckTimerExpiry d => Sys2Proof.Machine.execStuckTimerExpiry d s
  | .intervalTimedExpiry => Sys2Proof.Machine.execIntervalTimedExpiry s
  | .freeRunExpiry => Sys2Proof.Machine.execFreeRunExpiry s
  | .recordPlaced => Sys2Proof.Machine.execRecordPlaced s
  | .spillOn => Sys2Proof.Machine.execSpillOn s
  | .spillOff => Sys2Proof.Machine.execSpillOff s
  | .orderExpired link => Sys2Proof.Machine.execOrderExpired link s
  | .holdExpired => Sys2Proof.Machine.execHoldExpired s
  | .greenTimerExpiry lane => Sys2Proof.Machine.execGreenTimerExpiry lane s
  | .amberTimerExpiry lane => Sys2Proof.Machine.execAmberTimerExpiry lane s
  | .redTimerExpiry lane => Sys2Proof.Machine.execRedTimerExpiry lane s
  | .headwayExpiry => Sys2Proof.Machine.execHeadwayExpiry s
  | .graceExpiry lane => Sys2Proof.Machine.execGraceExpiry lane s
  | .greenMinReached lane => Sys2Proof.Machine.execGreenMinReached lane s
  | .startupRestExpiry => Sys2Proof.Machine.execStartupRestExpiry s
  | .shutdownRestExpiry => Sys2Proof.Machine.execShutdownRestExpiry s
  | .lampSenseChange drive lit => Sys2Proof.Machine.execLampSenseChange drive lit s
  | .blankingExpiry drive => Sys2Proof.Machine.execBlankingExpiry drive s
  | .deglitchExpiry drive watch => Sys2Proof.Machine.execDeglitchExpiry drive watch s
  | .proofExpiry drive watch => Sys2Proof.Machine.execProofExpiry drive watch s
  | .stagingTimeout => Sys2Proof.Machine.execStagingTimeout s
  | .lateViolation link => Sys2Proof.Machine.execLateViolation link s

end Sys2Proof.Machine
end

