-- ==== Sys2Proof/Machine/Step.lean ====
section
/-! DEFINITION. The step: the command at the front of the queue, or, when none waits, an expiry that is due or one
hundredth of a second. -/

namespace Sys2Proof.Machine

/-- One step. A waiting command is taken first in, first out; with none waiting the part takes an expiry that is due,
and with none due one cs passes (DESIGN CHOICE, log entry 5). -/
def step (s : State) : Host.Outcome State Fault Refusal :=
  match s.pending with
  | c :: rest => exec c { s with pending := rest }
  | [] =>
    match nextExpiry s with
    | some (c, s') => exec c s'
    | none => .next (tick s)

/-- The state with the command that a word spells at the front of its queue; no word of this hardware spells one. -/
def State.withFetchWord (s : State) (nbits w : Nat) : State :=
  match decodeTableWord nbits w with
  | some c => { s with pending := c :: s.pending }
  | none => s

end Sys2Proof.Machine
end

