-- ==== Sys2Proof/Safety.lean ====
section
/-! DEFINITION. The terms in which the statements speak: a request on a steady link, a reply given, the encodings of
payloads, and the invariants of a safe run. -/

namespace Sys2Proof.Machine

/-! ### Frames and replies -/

/-- Whether a frame is one that the running supervision of its link counts (R147, R149). -/
def supervised (x : LinkInterface) (isKeepalive : Bool) : Bool := !(x.tHi == 0) && supervises x isKeepalive

/-- A valid frame that leaves its link's state as it is and is no violation: on a PRESENT link one that is not early, on
an ABSENT link one that is not supervising (R148, R149). No reset has cut its transaction short (R144). -/
def SteadyFrame (l : LinkId) (isKeepalive : Bool) (s : State) : Prop :=
  (s.link l).transaction ≠ .cutShort ∧
    (((s.link l).state = .present ∧
        (supervised (s.link l) isKeepalive = true → (s.link l).tLo * 10 ≤ (s.link l).window)) ∨
      ((s.link l).state = .absent ∧ supervises (s.link l) isKeepalive = false))

/-- The state in which the owner of the request of a steady frame finds the part: the transaction has ended, and a frame
that supervision counts has returned the violation count to 0 and restarted the window (R149). -/
def received (l : LinkId) (isKeepalive : Bool) (s : State) : State :=
  s.setLink l { s.link l with
    transaction := .idle
    violations := if supervised (s.link l) isKeepalive then 0 else (s.link l).violations
    window := if supervised (s.link l) isKeepalive then 0 else (s.link l).window }

/-- A reply has become the last reply of a link, and both attention lines are judged (R145, R152). -/
def answered (l : LinkId) (kind tag : Byte) (status : Status) (payload : List Byte) (s : State) : State :=
  (storeReply l { kind := kind, tag := tag, status := status, payload := payload } s).judgeLines

/-- The kinds that the request summary marks for one link alone (8.2). -/
def onlyOn (kind : Byte) : Option LinkId :=
  if kind = 0x30 then some .C
  else if 0x40 ≤ kind.toNat ∧ kind.toNat ≤ 0x48 then some .L
  else none

/-- The payload length of a request that has one and is checked for it before anything else (8.2). -/
def fixedLength (kind : Byte) : Option Nat :=
  match kind.toNat with
  | 0x02 | 0x04 | 0x06 | 0x07 | 0x08 | 0x09 | 0x12 | 0x13 | 0x22 | 0x23 | 0x24 | 0x41 | 0x43 | 0x46 | 0x47 | 0x48 => some 0
  | 0x05 | 0x10 | 0x14 | 0x20 | 0x25 | 0x45 => some 1
  | 0x03 => some 9
  | 0x21 => some 7
  | 0x44 => some 2
  | _ => none

/-- What the owner of a request answers in the state that the frame of the request has left, or NOT_PERMITTED on a link
that the request summary does not name (R146). A command that is no request has no owner. -/
def requestAnswer (c : Instr) (s : State) : Answer :=
  let on := fun (perm : Permitted) (l : LinkId) (handle : State → Answer) =>
    if perm.allows l then handle s else refuse s .notPermitted
  match c with
  | .unknownKind l _ _ _ => on .either l fun s => refuse s .unknownKind
  | .keepalive l _ p => on .either l (withoutPayload p fun s => accept s [])
  | .configureLink l _ p => on .either l (withLength 9 p (withFields (configChecks p) (configureLink l p)))
  | .readStatus l _ p => on .either l (withoutPayload p fun s => accept s (statusBytes l s))
  | .readEvents l _ p =>
    on .either l (withLength 1 p (withFields [(inRange 1 16 (byteAt p 0), 0)] (readEvents l (byteAt p 0))))
  | .readRecord l _ p => on .either l (withoutPayload p (readRecord l))
  | .readCapabilities l _ p => on .either l (withoutPayload p fun s => accept s capabilities)
  | .flushEvents l _ p => on .either l (withoutPayload p (flushEvents l))
  | .flushRecords l _ p => on .either l (withoutPayload p fun s => accept (putRecords l [] s) [])
  | .openPlan l _ p => on .either l (withLength 1 p (withSlot p fun k => whenPresent l (unlessBusy l (openPlan l k))))
  | .planData l _ p => on .either l fun s => if p.length < 2 then refuseRange s 255 else asHolder l (planData p) s
  | .commitPlan l _ p => on .either l (withoutPayload p (asHolder l commitChecked))
  | .abortPlan l _ p => on .either l (withoutPayload p (asHolder l fun _ s => accept (s.putClaim none) []))
  | .selectPlan l _ p => on .either l (withLength 1 p (withSlot p fun k => whenPresent l (selectChecked k)))
  | .requestMetering l _ p => on .either l (withLength 1 p fun s =>
      match activationOf (byteAt p 0) with
      | some a => whenPresent l (requestMetering l a) s
      | none => refuseRange s 0)
  | .rateOrder l _ p => on .either l (withLength 7 p (withFields (orderChecks p) (whenPresent l (rateOrder l p))))
  | .cancelOrder l _ p => on .either l (withoutPayload p (cancelOrder l))
  | .hold l _ p => on .either l (withoutPayload p (whenPresent l (holdChecked l)))
  | .resume l _ p => on .either l (withoutPayload p (whenPresent l (resumeChecked l)))
  | .clearFaultLane l _ p => on .either l (withLength 1 p (withLane p fun i => whenPresent l (clearLaneChecked i)))
  | .intervalMark l _ p => on .onlyC l fun s =>
      if s.limits.markSync then withLength 2 p (intervalMark (word16At p 0)) s else refuse s .wrongState
  | .writeLimits l _ p => on .onlyL l fun s =>
      if s.locked then refuse s .locked else withLength 16 p (withFields (limitsChecks p) (writeLimits p)) s
  | .lockLimits l _ p => on .onlyL l (withoutPayload p fun s => if s.locked then refuse s .locked else lockLimits s)
  | .writeDetectorMap l _ p => on .onlyL l fun s =>
      if s.mode = .dark ∨ s.mode = .faultDark then
        withLength 128 p (withFields (mapChecks p) fun s => accept (writeMap p s) []) s
      else refuse s .wrongMode
  | .enterManual l _ p => on .onlyL l (withoutPayload p (whenPresent l enterManualChecked))
  | .setAspect l _ p => on .onlyL l (withLength 2 p (withLane p fun i s =>
      match aspectOf (byteAt p 1) with
      | some a => setAspectChecked i a s
      | none => refuseRange s 1))
  | .setBeacon l _ p => on .onlyL l (withLength 1 p (withFields [(inRange 0 1 (byteAt p 0), 0)] fun s =>
      if s.mode = .manual then accept (commandBeacon (byteAt p 0 == 1) s) [] else refuse s .wrongMode))
  | .exitManual l _ p => on .onlyL l (withoutPayload p fun s =>
      if s.mode = .manual then accept (endManual .manualExited s) [] else refuse s .wrongMode)
  | .clearFaultMeter l _ p => on .onlyL l (withoutPayload p (whenPresent l clearMeterChecked))
  | .softReset l _ p => on .onlyL l (withoutPayload p softReset)
  | .nop _ _ _ => accept s []
  | .powerOn | .resetLine | .chipSelectAsserted _ | .badFrame _ _ | .detectorRawChange _ _ | .filterTimerExpiry _
  | .stuckTimerExpiry _ | .intervalTimedExpiry | .freeRunExpiry | .recordPlaced | .spillOn | .spillOff | .orderExpired _
  | .holdExpired | .greenTimerExpiry _ | .amberTimerExpiry _ | .redTimerExpiry _ | .headwayExpiry | .graceExpiry _
  | .greenMinReached _ | .startupRestExpiry | .shutdownRestExpiry | .lampSenseChange _ _ | .blankingExpiry _
  | .deglitchExpiry _ _ | .proofExpiry _ _ | .stagingTimeout | .lateViolation _ => accept s []

/-- The state in which a link that a valid frame makes PRESENT hands its request on: LINK_PRESENT posted with the state
left, 1 SILENT or 2 ABSENT, and the count and the window at 0 (R148; the window: log entry 38). -/
def madePresent (l : LinkId) (s : State) : State :=
  (s.setLink l { s.link l with transaction := .idle, state := .present, violations := 0, window := 0 }).post .linkPresent
    (linkNumber l) (if (s.link l).state = .silent then 1 else 2)

/-! ### Events -/

/-- Events posted one after the other at one reading of the counter: the kind, subject and detail of each. -/
def State.postEach (s : State) (es : List (EventKind × Nat × Nat)) : State :=
  es.foldl (fun s e => s.post e.1 e.2.1 e.2.2) s

/-- The event queues of a later state begin with those of an earlier one. -/
def EventsContinue (s t : State) : Prop := ∀ l, (s.events.get l).entries <+: (t.events.get l).entries

/-! ### Frames of an effect -/

/-- What no change of a lane, a lamp, a mode or a rate touches: the detectors, the interval and the records, the plans,
the limits and their lock, and the commands that wait. -/
def KeepsSite (s t : State) : Prop :=
  t.inputs = s.inputs ∧ t.dfeLanes = s.dfeLanes ∧ t.counter = s.counter ∧ t.records = s.records ∧ t.plans = s.plans ∧
    t.limits = s.limits ∧ t.locked = s.locked ∧ t.pending = s.pending

/-- The interface of a link is as it was, its attention line apart. -/
def KeepsLink (l : LinkId) (s t : State) : Prop := { t.link l with attention := (s.link l).attention } = s.link l

/-- The interfaces of both links are as they were, the attention lines apart. -/
def KeepsLinks (s t : State) : Prop := KeepsLink .L s t ∧ KeepsLink .C s t

/-! ### Closes -/

/-- A command that closes the interval at a state, with the cause of the close and the number of the next interval: a
TIMED or FREE_RUN expiry that is due, or an accepted mark on a steady Link C (R24 to R27). -/
def ClosesInterval (c : Instr) (cause : Cause) (next : Nat) (s : State) : Prop :=
  (c = .intervalTimedExpiry ∧ cause = .timed ∧ next = (s.counter.number + 1) % 65536 ∧ s.limits.markSync = false ∧
      s.limits.intervalLen * 100 ≤ s.counter.elapsed) ∨
    (c = .freeRunExpiry ∧ cause = .freeRun ∧ next = (s.counter.number + 1) % 65536 ∧ s.limits.markSync = true ∧
      (s.limits.intervalLen + s.limits.markTol) * 100 ≤ s.counter.elapsed) ∨
    ((∃ tag, c = .intervalMark .C tag (be16 next)) ∧ next < 65536 ∧ cause = .mark ∧ SteadyFrame .C false s ∧
      s.limits.markSync = true ∧ (s.limits.intervalLen - s.limits.markTol) * 100 ≤ s.counter.elapsed)

/-- What the counter and the DFE post at a close: MARK_MISSED for a FREE_RUN close and INTERVAL_CLOSED with the reading
of the closing interval, then with the reading of the new one a DET_RECOVERED for each input, in ascending number, whose
chatter fault ends (R12, R25, R36; the order of the inputs: log entry 32). -/
def closePosts (cause : Cause) (next : Nat) (s : State) : State :=
  let closed := s.postEach ((if cause = .freeRun then [(.markMissed, 0, next)] else []) ++
    [(.intervalClosed, 0, cause.code * 256 + s.mode.code)])
  { closed with counter := { closed.counter with number := next, elapsed := 0 } }.postEach
    ((allInputs.filter fun d => (s.input d).faultChatter &&
      decide ((s.input d).chatter ≤ (s.input d).entry.chatterLimit)).map fun d : Fin 16 => (EventKind.detRecovered, d.val + 1, 2 * 256 + 1))

/-! ### Plans -/

/-- The field index at which a VALID slot fails the locked limits (R128); none for a slot that passes or is not VALID. -/
def lockFailure (s : State) (k : Fin 8) : Option Nat :=
  if (s.slot k).status = .valid then imageFailure (timingBounds true s.limits) (s.slot k).image else none

/-- The SPILL_OFF detail of an active spill under a plan, if it ends: 2 without a spill group, 3 with no counting input,
1 with every counting input off for spill_clear (R51). -/
def spillEnds (img : List Byte) (s : State) : Option Nat :=
  let runs := allInputs.filterMap fun d => (s.input d).run
  if planSpillGroup img = false then some 2
  else if runs = [] then some 3
  else if (runs.all fun x => !x.on && decide (planSpillClear img * 100 ≤ x.time)) = true then some 1
  else none

/-- The lowest input whose counting on-run meets spill_time under a plan with a spill group (R50). -/
def spillBegins (img : List Byte) (s : State) : Option (Fin 16) :=
  if planSpillGroup img then
    (allInputs.filter fun d => (s.input d).run.any fun x => x.on && decide (planSpillTime img * 100 ≤ x.time)).head?
  else none

/-- What is posted when a slot's image becomes the plan in force between closes: PLAN_APPLIED, then QUEUE_FLOOR_OFF where
an active floor loses its queue group, then the event of a spill that begins or ends (R48, R50, R51, R138; the order: log
entry 32). -/
def planPosts (k : Fin 8) (img : List Byte) (s : State) : List (EventKind × Nat × Nat) :=
  [(.planApplied, k.val + 1, word16At img 2)] ++
    (if s.rate.floorActive && !planQueueGroup img then [(.queueFloorOff, 0, 65535)] else []) ++
    (if s.rate.spillActive then ((spillEnds img s).map fun n => (.spillOff, 0, n)).toList
      else ((spillBegins img s).map fun d => (.spillOn, d.val + 1, 0)).toList)

/-! ### Starts -/

/-- A standing start finds its plan conditions met: an active slot that is VALID and a lane that may take part (R92, R94).
The lock is named beside it. -/
def StartStands (s : State) (may : Fin 3 → Prop) : Prop :=
  wanted s = .start ∧ (∃ k, s.plans.active = some k ∧ (s.slot k).status = .valid) ∧ ∃ i, may i

/-- A meter that has just left DARK for STARTUP: phase REST with its timer under the plan, the beacon on, and each lane that
takes part in REST_GREEN with its green alone commanded (R94). -/
def Started (p : List Byte) (takesPart : Fin 3 → Prop) (t : State) : Prop :=
  t.mode = .startup ∧ t.meter.phase = .rest ∧ t.meter.seqTimer = planStartupGreen p * 100 ∧ t.meter.beacon = true ∧
    (t.drive beaconDrive).commanded = true ∧
    ∀ i, takesPart i → (t.lane i).state = .restGreen ∧ (t.lane i).age = 0 ∧
      ∀ c, (t.drive (driveOf i c)).commanded = decide (c = .green)

/-! ### Payloads -/

/-- Whether the field of a map payload that begins at a byte of an input's entry is in its range (1.1). -/
def MapFieldOk (p : List Byte) (d : Fin 16) (j : Nat) : Prop :=
  let b := fun n => byteAt p (8 * d.val + n)
  match j with
  | 0 => b 0 ≤ 6
  | 1 => if b 0 = 3 ∨ b 0 = 4 then 1 ≤ b 1 ∧ b 1 ≤ 3 else b 1 = 0
  | 2 => b 2 ≤ 10
  | 3 => b 3 ≤ 10
  | 4 => word16At p (8 * d.val + 4) ≤ 3600
  | 7 => b 7 ≤ 2
  | _ => True

/-- Whether the entries up to an input's hold no more of its role, and lane, than a map may: one DEMAND and one PASSAGE
input for each lane, two QUEUE inputs and two SPILLBACK inputs (R3). -/
def MapTallyOk (p : List Byte) (d : Fin 16) : Prop :=
  (allInputs.filter fun e => decide (e ≤ d) && byteAt p (8 * e.val) == byteAt p (8 * d.val) &&
    byteAt p (8 * e.val + 1) == byteAt p (8 * d.val + 1)).length ≤
    (if byteAt p (8 * d.val) = 3 ∨ byteAt p (8 * d.val) = 4 then 1
      else if byteAt p (8 * d.val) = 5 ∨ byteAt p (8 * d.val) = 6 then 2 else 16)

/-- The payload of a CONFIGURE LINK (R151). -/
def configPayload (tLo tHi count : Nat) (keepaliveOnly : Bool) (depth threshold : Nat) (attnOnRecord : Bool) : List Byte :=
  be16 tLo ++ be16 tHi ++
    [byte count, byte (flagCode keepaliveOnly), byte depth, byte threshold, byte (flagCode attnOnRecord)]

/-- The payload of a WRITE LIMITS (7.1). -/
def limitsPayload (m : SiteLimits) : List Byte :=
  [byte m.greenMin, byte m.amberMin, byte m.redMin, byte m.staggerMin] ++ be16 m.rAbsMin ++ be16 m.holdMax ++
    [byte m.lampBlank, byte m.lampDeglitch, byte (if m.redScope = .lane then 0 else 1),
     byte (if m.amberMode = .warn then 0 else 1), byte (if m.absentFallback = .continue then 0 else 1),
     byte m.intervalLen, byte (flagCode m.markSync), byte m.markTol]

/-- The payload of a RATE ORDER with an optional cap, floor and expiry (3.6). -/
def orderPayload (cap floor expiry : Option Nat) : List Byte :=
  byte (bitsToNat [cap.isSome, floor.isSome, expiry.isSome]) ::
    (be16 (cap.getD 0) ++ be16 (floor.getD 0) ++ be16 (expiry.getD 0))

/-- The code of an aspect in SET ASPECT (R103). -/
def Aspect.code : Aspect → Nat
  | .off => 0 | .red => 1 | .green => 2

/-! ### Invariants -/

/-- Every field of the site limits in its range (7.1). -/
def limitsInRange (m : SiteLimits) : Prop :=
  (10 ≤ m.greenMin ∧ m.greenMin ≤ 40) ∧ (5 ≤ m.amberMin ∧ m.amberMin ≤ 30) ∧ (10 ≤ m.redMin ∧ m.redMin ≤ 60) ∧
    (8 ≤ m.staggerMin ∧ m.staggerMin ≤ 50) ∧ (120 ≤ m.rAbsMin ∧ m.rAbsMin ≤ 600) ∧
    (10 ≤ m.holdMax ∧ m.holdMax ≤ 900) ∧ m.lampBlank ≤ 25 ∧ (5 ≤ m.lampDeglitch ∧ m.lampDeglitch ≤ 50) ∧
    (10 ≤ m.intervalLen ∧ m.intervalLen ≤ 120) ∧ m.markTol ≤ 5

/-- A lane that shows nothing. -/
def darkLane (st : LaneState) : Prop := st = .off ∨ st = .faulted

/-- The lamps, the lanes, the ring and the mode agree (R69, R73, R89, R94, R97, R99, R111). -/
structure MeterInv (s : State) : Prop where
  /-- Each lane drive is commanded as its lane's state commands it (R69, R111). -/
  lamps : ∀ i c, (s.drive (driveOf i c)).commanded = commands (s.lane i).state c
  /-- The beacon drive is commanded as the beacon command says (R111). -/
  beacon : (s.drive beaconDrive).commanded = s.meter.beacon
  /-- In DARK and FAULT_DARK every lane is OFF or FAULTED and the beacon is commanded off (R89). -/
  dark : s.mode = .dark ∨ s.mode = .faultDark → (∀ i, darkLane (s.lane i).state) ∧ s.meter.beacon = false
  /-- STARTUP, METERING, HOLD and SHUTDOWN only while the limits are locked and a plan is in force (R94). -/
  locked : inService s = true → s.locked = true ∧ s.plans.plan.isSome = true
  /-- In those modes a lane outside the lane set is OFF or FAULTED (R69). -/
  unused : inService s = true → ∀ i, enabled s i = false → darkLane (s.lane i).state
  /-- In SHUTDOWN no lane at rest holds an order (R97). -/
  noHeld : s.mode = .shutdown → ∀ i, (s.lane i).state = .restGreen → (s.lane i).held = none
  /-- In phase RESTING every lane rests or is dark (R97). -/
  resting : s.mode = .shutdown → s.meter.phase = .resting →
    ∀ i, (s.lane i).state = .restGreen ∨ darkLane (s.lane i).state
  /-- In METERING and HOLD the ring holds exactly once each enabled lane that is not FAULTED (R73). -/
  ring : engaged s = true → s.sched.ring.Perm (workingLanes s)
  /-- A hold is in force exactly in HOLD (R99, R100). -/
  hold : s.meter.hold.isSome = true ↔ s.mode = .hold

/-- A link that is not PRESENT holds no standing state, and a hold is in force exactly in HOLD
(R57, R91, R100, R101, R105, R137). -/
structure LinkInv (s : State) : Prop where
  order : ∀ l, (s.link l).state ≠ .present → s.rate.orders.get l = none
  request : ∀ l, (s.link l).state ≠ .present → s.meter.requests.get l = .none
  claim : ∀ l, (s.link l).state ≠ .present → ∀ c, s.plans.claim = some c → c.holder ≠ l
  owner : ∀ l, (s.link l).state ≠ .present → ∀ h, s.meter.hold = some h → h.owner ≠ l
  manual : (s.link .L).state ≠ .present → s.mode ≠ .manual
  hold : s.meter.hold.isSome = true ↔ s.mode = .hold

/-- The queues within their bounds, an overflow mark only on a full queue, and each link's configuration in range
(R37, R40, R151, R155). -/
structure QueueInv (s : State) : Prop where
  events : ∀ l, (s.events.get l).entries.length ≤ 32
  mark : ∀ l, (s.events.get l).mark = true → (s.events.get l).entries.length = 32
  records : ∀ l, (s.records.get l).length ≤ (s.link l).depth
  depth : ∀ l, 2 ≤ (s.link l).depth ∧ (s.link l).depth ≤ 8
  threshold : ∀ l, 1 ≤ (s.link l).threshold ∧ (s.link l).threshold ≤ 32

/-- An input has a spill run exactly while it counts for spill: a SPILLBACK input that is not excluded (R49). -/
def RunsCount (s : State) : Prop := ∀ d, (s.input d).run.isSome = (s.input d).counts

/-- The invariants of a safe run. -/
structure Safe (s : State) : Prop where
  meter : MeterInv s
  link : LinkInv s
  queue : QueueInv s
  limits : limitsInRange s.limits
  runs : RunsCount s

end Sys2Proof.Machine
end

