-- ==== Sys2Proof/WellFormed.lean ====
section
/-! DEFINITION. Which commands the world outside can give: a request's payload fits a frame, an UNKNOWN_KIND's kind is
not in the request summary, and the bytes of a BAD_FRAME are no valid frame. Every other operand is bounded by its
type. -/

namespace Sys2Proof

/-- The check of a command's operands (R144, R146). -/
def Instr.wf (i : Instr) : Bool :=
  match Machine.requestParts i with
  | some (_, kind, _, payload) =>
    decide (payload.length ≤ Machine.maxPayload) &&
      match i with
      | .unknownKind .. => !Machine.summaryKinds.contains kind
      | _ => true
  | none =>
    match i with
    | .badFrame _ bytes => (Machine.parseFrame bytes).isNone
    | _ => true

end Sys2Proof
end

