-- ==== Sys2Proof/Certificates/Slice0/Obligations.lean ====
section
/-! DEFINITION. The statements for the provers, from the manual's numbered rules. -/

open Sys2Proof Sys2Proof.Machine

/-! ### The queue, time and the frames -/

/-- A step takes the command at the front of the queue and runs it with the queue's rest. -/
def Obligations.StepTakesTheFrontCommand : Prop :=
  ∀ (s : State) (c : Instr) (rest : List Instr), s.pending = c :: rest → step s = exec c { s with pending := rest }

/-- With no command waiting and no expiry due, a step is one cs: the elapsed time of the interval grows by 1, every
running timer moves on by one cs (the filter, stuck and on-time of an input and its spill run; the phase timer, green
age and grace of a lane, and its time since an amber after REST_GREEN, which ends beyond 100 cs; the headway timer in METERING up to H while no release is pending; the sequence, hold, order
and claim timers; the blanking, deglitch and proof timers; the supervision window of a PRESENT link), and no lane state,
drive, mode, conditioned input, queue, plan or limit changes; with some expiry due, a step runs one of the due ones.
That an idle step is one of these two is the model's choice (log entries 1 and 5), that the time since an amber after
REST_GREEN runs up to and including 100 cs DEDUCED (log entry 16); which of several due expiries runs is
left open, and the statement holds for every value of that free choice. -/
def Obligations.IdleStepsLetTimePassOrTakeAnExpiry : Prop :=
  (∀ s : State, s.pending = [] → due s = [] →
    ∃ t, step s = .next t ∧ t.counter.elapsed = s.counter.elapsed + 1 ∧ t.counter.number = s.counter.number ∧
      t.mode = s.mode ∧ t.meter.phase = s.meter.phase ∧ (∀ i, (t.lane i).state = (s.lane i).state) ∧
      (∀ k, (t.drive k).commanded = (s.drive k).commanded) ∧ (∀ d, (t.input d).cond = (s.input d).cond) ∧
      (∀ d, (t.input d).onTime = (s.input d).onTime + (if (s.input d).cond then 1 else 0)) ∧
      t.events = s.events ∧ t.records = s.records ∧ t.plans.slots = s.plans.slots ∧ t.plans.plan = s.plans.plan ∧
      t.rate.inForce = s.rate.inForce ∧ t.sched.ring = s.sched.ring ∧ t.limits = s.limits ∧ t.locked = s.locked ∧
      t.pending = [] ∧
      (∀ d, (t.input d).filter = (s.input d).filter.map (· - 1) ∧
        (t.input d).stuck = (s.input d).stuck +
          (if (s.input d).cond = true ∧ (s.input d).stuck < 360000 then 1 else 0) ∧
        (t.input d).run = (s.input d).run.map fun r => ⟨r.on, r.time + 1⟩) ∧
      (∀ i, (t.lane i).timer = (s.lane i).timer.map (· - 1) ∧
        (t.lane i).age = (s.lane i).age +
          (if (s.lane i).state = .green ∨ (s.lane i).state = .restGreen then 1 else 0) ∧
        (∀ c n, (s.lane i).window = .inGrace c n → (t.lane i).window = .inGrace c (n - 1)) ∧
        (∀ c, (s.lane i).window = .opened c → (t.lane i).window = .opened c) ∧
        ((s.lane i).window = .closed → (t.lane i).window = .closed) ∧
        (∀ n, (s.lane i).sinceRest = some n → (t.lane i).sinceRest = if n < 100 then some (n + 1) else none) ∧
        ((s.lane i).sinceRest = none → (t.lane i).sinceRest = none)) ∧
      t.sched.elapsed = s.sched.elapsed + (if s.mode = .metering ∧ s.sched.releasePending = false ∧
        s.sched.elapsed < s.sched.headway then 1 else 0) ∧
      t.sched.headway = s.sched.headway ∧ t.sched.releasePending = s.sched.releasePending ∧
      t.meter.seqTimer = s.meter.seqTimer - 1 ∧ t.meter.hold = s.meter.hold.map (fun h => ⟨h.owner, h.timer - 1⟩) ∧
      (∀ l, t.rate.orders.get l = (s.rate.orders.get l).map fun o => ⟨o.cap, o.floor, o.timer.map (· - 1)⟩) ∧
      t.plans.claim = s.plans.claim.map (fun c => ⟨c.holder, c.target, c.timer - 1⟩) ∧
      (∀ k, (t.drive k).blank = (s.drive k).blank.map (· - 1)) ∧
      (∀ k w, ((s.drive k).watch w = .clear → (t.drive k).watch w = .clear) ∧
        (∀ e m, (s.drive k).watch w = .suspect e m → (t.drive k).watch w = .suspect (e + 1) m) ∧
        (∀ e m, (s.drive k).watch w = .latched (some (e, m)) → (t.drive k).watch w = .latched (some (e + 1, m))) ∧
        ((s.drive k).watch w = .latched none → (t.drive k).watch w = .latched none)) ∧
      (∀ l, (t.link l).window = (s.link l).window +
        (if (s.link l).state = .present ∧ (s.link l).tHi ≠ 0 then 1 else 0))) ∧
  (∀ s : State, s.pending = [] → due s ≠ [] → ∃ c ∈ due s, ∃ n, step s = exec c { s with choices := n })

/-- Every command, in every state, answers a next state, and leaves the waiting commands as they were. The queue of
waiting commands is the model's own; that POWER_ON, RESET_LINE and SOFT RESET leave it too is the model's choice (log
entry 28). -/
def Obligations.EveryCommandAnswersAndKeepsTheQueue : Prop :=
  ∀ (c : Instr) (s : State), ∃ t, exec c s = .next t ∧ t.pending = s.pending

/-- For every well-formed request, every link, tag and payload, with any fill: its frame decodes to that request. -/
def Obligations.EncodedRequestsDecodeToThemselves : Prop :=
  ∀ (i : Instr) (fill : Nat) (link : LinkId) (kind tag : Byte) (payload : List Byte),
    i.wf = true → requestParts i = some (link, kind, tag, payload) → 5 + payload.length + fill ≤ 300 →
      ∃ bytes, encodeTransaction fill i = some bytes ∧ bytes.length = 5 + payload.length + fill ∧
        decodeTransaction link bytes = i

/-- A transaction is taken as a frame exactly if it is a request frame of at most 250 payload bytes with its CRC,
followed by zeros, at most 300 bytes in all (R144); any other transaction is a bad frame. -/
def Obligations.ATransactionIsValidExactlyIfItIsAFrame : Prop :=
  (∀ (bytes : List Byte) (kind tag : Byte) (payload : List Byte),
    parseFrame bytes = some (kind, tag, payload) ↔
      payload.length ≤ 250 ∧ bytes.length ≤ 300 ∧ ∃ fill, bytes = requestFrame kind tag payload ++ List.replicate fill 0) ∧
  (∀ (link : LinkId) (bytes : List Byte), parseFrame bytes = none → decodeTransaction link bytes = .badFrame link bytes)

/-! ### Invariants -/

/-- Every step keeps the agreement of lamps, lanes, ring, lock and mode: no lane's green and red are ever commanded on
together, and no lamp is commanded on in DARK or FAULT_DARK. -/
def Obligations.EveryStepKeepsLampsLanesRingAndMode : Prop :=
  ∀ s t : State, MeterInv s → step s = .next t → MeterInv t

/-- Every step keeps it so that a link that is not PRESENT holds no rate order, no activation request, no hold, no
manual control and no staging claim. -/
def Obligations.EveryStepKeepsAbsentLinksEmptyHanded : Prop :=
  ∀ s t : State, LinkInv s → step s = .next t → LinkInv t

/-- Every step keeps the event queues at 32 entries at most with an overflow mark only on a full queue, and each
record queue within its link's depth. Every step keeps every field of the site limits in its range, and keeps it so that
an input has a spill run exactly while it is a SPILLBACK input that is not excluded. -/
def Obligations.EveryStepKeepsTheQueuesAndLimitsBounded : Prop :=
  (∀ s t : State, QueueInv s → step s = .next t → QueueInv t) ∧
  (∀ s t : State, limitsInRange s.limits → step s = .next t → limitsInRange t.limits) ∧
  (∀ s t : State, RunsCount s → step s = .next t → RunsCount t)

/-- The five invariants hold right after power-on. -/
def Obligations.TheInvariantsHoldAtReset : Prop :=
  Safe State.reset

/-- The lock is cleared by power-on and the reset line, and by nothing a link can send: while it is set every other
command leaves it set and every limit as it is, WRITE LIMITS among them, which is refused with LOCKED. The resets give
the limits the values of the table of R129, and the hard resets leave the RESET entry alone in each event queue. -/
def Obligations.TheLockIsClearedByHardResetsAlone : Prop :=
  (∀ (c : Instr) (s t : State), exec c s = .next t → c ≠ .powerOn → c ≠ .resetLine → s.locked = true →
    t.locked = true ∧ t.limits = s.limits) ∧
  (∀ (tag : Byte) (payload : List Byte) (s : State), SteadyFrame .L false s → s.locked = true →
    exec (.writeLimits .L tag payload) s = .next (answered .L 0x40 tag .locked [] (received .L false s))) ∧
  (∀ (s : State) (c : Instr) (cause : Nat), (c = .powerOn ∧ cause = 1) ∨ (c = .resetLine ∧ cause = 2) →
    ∃ t, exec c s = .next t ∧ t.locked = false ∧ t.limits = SiteLimits.default ∧
      ∀ l, (t.events.get l).entries = [⟨.reset, 0, cause, 0, 0⟩]) ∧
  (∀ (tag : Byte) (s : State), SteadyFrame .L false s →
    ∃ t, exec (.softReset .L tag []) s = .next t ∧ t.locked = s.locked ∧ t.limits = s.limits)

/-! ### The rate computation -/

/-- Under limits and lane timing in their ranges, with 1 to 3 working lanes, D lies in 120 to 3000 veh/h; H is 360000
/ r_eff rounded up, lies in 120 to 3000 cs and is never shorter than the site stagger_min (R60, R62, R76). -/
def Obligations.HeadwayIsRoundedUpAndKeepsTheStagger : Prop :=
  ∀ (r : RateComputer) (lim : SiteLimits) (plan : List Byte) (n : Nat), limitsInRange lim → 1 ≤ n → n ≤ 3 →
    10 ≤ planGRel plan → planGRel plan ≤ 60 → 5 ≤ planAmber plan → planAmber plan ≤ 40 → 10 ≤ planRedMin plan →
    planRedMin plan ≤ 200 →
      (120 ≤ deviceCeiling lim plan n ∧ deviceCeiling lim plan n ≤ 3000) ∧
      360000 ≤ (combineOut r lim plan n).headway * (combineOut r lim plan n).rate ∧
      ((combineOut r lim plan n).headway - 1) * (combineOut r lim plan n).rate < 360000 ∧
      (120 ≤ (combineOut r lim plan n).headway ∧ (combineOut r lim plan n).headway ≤ 3000) ∧
      10 * lim.staggerMin ≤ (combineOut r lim plan n).headway

/-- What the stages of the combine leave of the stored feedback value: under spill exactly D; with the queue floor
active and not above D at least q_floor; otherwise at most the least cap; and the value itself, with the feedback
basis as its tag, where no bound bites. Every rate that a combine run gives lies between min(r_abs_min, D) and D. The
stages in their order give the rate, and the source tag is that of the last stage that changed the value: the floors
(F, the greatest of r_min and the floors held), the caps (C, the least of r_max and the caps held, with the tag of the
first of plan, Link L and Link C whose bound is C), the queue floor, spill, the ceiling and the absolute minimum; with
none, the feedback basis (R43, R58 to R63). -/
def Obligations.CombineStagesGivePrecedenceAndBounds : Prop :=
  (∀ (r : RateComputer) (lim : SiteLimits) (plan : List Byte) (n : Nat),
    (r.spillActive = true →
      (combineOut r lim plan n).rate = deviceCeiling lim plan n) ∧
    (r.spillActive = false → r.floorActive = true → planQFloor plan ≤ deviceCeiling lim plan n →
      planQFloor plan ≤ (combineOut r lim plan n).rate) ∧
    (r.spillActive = false → r.floorActive = false → lim.rAbsMin ≤ capBound r plan →
      (combineOut r lim plan n).rate ≤ capBound r plan) ∧
    (r.spillActive = false → r.floorActive = false → floorBound r plan ≤ r.rFb → r.rFb ≤ capBound r plan →
      r.rFb ≤ deviceCeiling lim plan n → lim.rAbsMin ≤ r.rFb →
        (combineOut r lim plan n).rate = r.rFb ∧ (combineOut r lim plan n).tag = basisTag r.basis)) ∧
  (∀ (r : RateComputer) (lim : SiteLimits) (plan : List Byte) (n : Nat),
    min lim.rAbsMin (deviceCeiling lim plan n) ≤ (combineOut r lim plan n).rate ∧
      (combineOut r lim plan n).rate ≤ deviceCeiling lim plan n) ∧
  (∀ (r : RateComputer) (lim : SiteLimits) (plan : List Byte) (n f c : Nat),
    let floors := [r.orders.L, r.orders.C].filterMap fun o => o.bind RateOrder.floor
    let caps := [r.orders.L, r.orders.C].filterMap fun o => o.bind RateOrder.cap
    (f ∈ planRMin plan :: floors ∧ ∀ x ∈ planRMin plan :: floors, x ≤ f) →
    (c ∈ planRMax plan :: caps ∧ ∀ x ∈ planRMax plan :: caps, c ≤ x) →
      let d := deviceCeiling lim plan n
      let raised := max r.rFb f
      let capped := min raised c
      let queued := if r.floorActive then max capped (planQFloor plan) else capped
      let spilled := if r.spillActive then d else queued
      let lowered := min spilled d
      let applied := max lowered (min lim.rAbsMin d)
      (combineOut r lim plan n).rate = applied ∧
      (combineOut r lim plan n).tag =
        (if applied ≠ lowered then .absMin
        else if lowered ≠ spilled then .ceiling
        else if spilled ≠ queued then .spill
        else if queued ≠ capped then .queueFloor
        else if capped ≠ raised then
          if c = planRMax plan then .capPlan
          else if some c = r.orders.L.bind RateOrder.cap then .capL else .capC
        else if raised ≠ r.rFb then .orderFloor
        else if r.basis = .feedback then .feedback else .fixed))

/-- The occupancy of an input over a closed interval is 1000 times its on-time over the duration, rounded half up, and
capped at 1000 (R31), with the three worked cases of the manual. -/
def Obligations.OccupancyIsRoundedHalfUp : Prop :=
  (∀ onTime duration : Nat, 0 < duration →
    ∃ q, 2 * q * duration ≤ 2 * (onTime * 1000) + duration ∧ 2 * (onTime * 1000) + duration < 2 * (q + 1) * duration ∧
      occupancy onTime duration = min q 1000 ∧ (onTime ≤ duration → q ≤ 1000)) ∧
  occupancy 735 2940 = 250 ∧ occupancy 1234 2940 = 420 ∧ occupancy 2940 2940 = 1000

/-! ### Resets -/

/-- What power-on (cause 1) and the reset line (cause 2) leave, from every state. The pins keep their levels, and an
input whose pin is on shows its rising edge as the reset ends. Of the stored feedback value and r_prev, which R67 calls
undefined, nothing is said. The model's choices in it: the kept pin levels (log entry 3), the transaction that the reset
cuts short (log entry 6), the phase duration 0 of a lane (log entry 40) and the kept queue of waiting commands (log entry
28). -/
def Obligations.HardResetsLeaveTheStatedValues : Prop :=
  ∀ (s : State) (c : Instr) (cause : Nat), (c = .powerOn ∧ cause = 1) ∨ (c = .resetLine ∧ cause = 2) →
    ∃ t, exec c s = .next t ∧
      (∀ d, (t.input d).entry = ⟨.unused, none, 0, 0, 0, 0, .ignore⟩ ∧ (t.input d).raw = (s.input d).raw ∧
        (t.input d).cond = (s.input d).raw ∧ (t.input d).volume = (if (s.input d).raw then 1 else 0) ∧
        (t.input d).onTime = 0 ∧ (t.input d).anyFault = false ∧ (t.input d).seen = false ∧ (t.input d).run = none ∧
        (t.input d).filter = none ∧ (t.input d).stuck = 0 ∧ (t.input d).chatter = (if (s.input d).raw then 1 else 0)) ∧
      (∀ i, t.dfeLane i = ⟨0, false⟩ ∧ hasDemand t i = true ∧ t.aspect i = none ∧
        t.lane i = ⟨.off, none, 0, 0, .closed, none, false, false, false, none, 0, 0, 0⟩) ∧
      t.sched.ring = [] ∧ t.sched.elapsed = 0 ∧ t.sched.headway = 0 ∧ t.sched.releasePending = false ∧
      t.counter = ⟨0, 0, none⟩ ∧
      t.mode = .dark ∧ t.meter.phase = .idle ∧ t.meter.seqTimer = 0 ∧ t.meter.beacon = false ∧
      t.meter.requests = ⟨.none, .none⟩ ∧ t.meter.resolved = .off ∧ t.meter.onRun = 0 ∧ t.meter.offRun = 0 ∧
      t.meter.hold = none ∧
      t.rate.orders = ⟨none, none⟩ ∧ t.rate.inForce = none ∧ t.rate.floorActive = false ∧ t.rate.spillActive = false ∧
      t.rate.fallbackMark = false ∧ t.rate.basis = .clear ∧
      (∀ k, t.drive k = ⟨false, (s.drive k).sensed, some 10, .clear, .clear⟩) ∧
      t.locked = false ∧ t.limits = ⟨15, 10, 15, 12, 240, 300, 10, 20, .all, .warn, .shutdown, 30, false, 2⟩ ∧
      t.plans.plan = none ∧ t.plans.active = none ∧ t.plans.pendingSlot = none ∧ t.plans.claim = none ∧
      t.plans.buffer = defaultImage ∧
      (∀ k, t.slot k = if c = .powerOn then ⟨.empty, defaultImage⟩ else s.slot k) ∧
      (∀ l, t.records.get l = [] ∧ t.events.get l = ⟨[⟨.reset, 0, cause, 0, 0⟩], false, 0⟩ ∧
        t.link l = ⟨.silent, 0, 0, 3, false, 4, 1, true, 0, 0, ⟨0, 0, .noReply, []⟩,
          cutTransaction (s.link l).transaction, true⟩) ∧
      t.pending = s.pending

/-- What an accepted SOFT RESET leaves: the map, the limits and their lock, the slots with the active and pending
slots, the plan in force, H, the link states and configurations and Link C's last reply are kept; the interval is
discarded, and everything else of the metering blocks is cleared: each input starts anew, one whose pin is on and whose
on_filter is 0 with its rising edge; every drive is off, and its watches are CLEAR, or comparing afresh where no blanking
runs; and no event but RESET is posted. The model's choices in it: a record not yet placed is dropped (log entry 9), the
time since an amber that followed a rest green is dropped (log entry 36), the green age and phase duration of each lane
are 0 (log entry 40), a supervision window that does not run is set to 0 with one that does (log entry 38), and the queue
of waiting commands is kept (log entry 28). A SOFT RESET with a payload resets nothing. -/
def Obligations.SoftResetKeepsTheSiteAndClearsTheRest : Prop :=
  ∀ (tag : Byte) (s : State), SteadyFrame .L false s →
    (∃ t, exec (.softReset .L tag []) s = .next t ∧
      (∀ d, (t.input d).entry = (s.input d).entry ∧ (t.input d).raw = (s.input d).raw ∧
        (let shown := (s.input d).raw && (s.input d).entry.onFilter == 0
         (t.input d).cond = shown ∧ (t.input d).volume = (if shown then 1 else 0) ∧
          (t.input d).chatter = (if shown then 1 else 0) ∧
          (t.input d).run = if (s.input d).entry.role = .spillback then some ⟨shown, 0⟩ else none) ∧
        (t.input d).onTime = 0 ∧ (t.input d).stuck = 0 ∧ (t.input d).seen = false ∧ (t.input d).anyFault = false ∧
        (t.input d).filter = (if (s.input d).raw ∧ (s.input d).entry.onFilter ≠ 0
          then some (s.input d).entry.onFilter else none)) ∧
      (∀ i, t.dfeLane i = ⟨0, false⟩ ∧ t.aspect i = none ∧
        t.lane i = ⟨.off, none, 0, 0, .closed, none, false, false, false, none, 0, 0, 0⟩) ∧
      (∀ k, t.drive k = ⟨false, (s.drive k).sensed, startBlank s.limits.lampBlank, .clear,
        if s.limits.lampBlank = 0 ∧ (s.drive k).sensed then .suspect 0 s.limits.lampDeglitch else .clear⟩) ∧
      t.sched.ring = [] ∧ t.sched.elapsed = 0 ∧ t.sched.headway = s.sched.headway ∧ t.sched.releasePending = false ∧
      t.counter = ⟨(s.counter.number + 1) % 65536, 0, none⟩ ∧ t.mode = .dark ∧ t.meter.phase = .idle ∧
      t.meter.seqTimer = 0 ∧ t.meter.beacon = false ∧ t.meter.requests = ⟨.none, .none⟩ ∧ t.meter.resolved = .off ∧ t.meter.onRun = 0 ∧
      t.meter.offRun = 0 ∧ t.meter.hold = none ∧ t.rate.orders = ⟨none, none⟩ ∧ t.rate.inForce = none ∧
      t.rate.floorActive = false ∧ t.rate.spillActive = false ∧ t.rate.fallbackMark = false ∧ t.rate.basis = .clear ∧
      t.plans = { s.plans with claim := none } ∧
      t.limits = s.limits ∧ t.locked = s.locked ∧
      (∀ l, t.records.get l = [] ∧
        t.events.get l = ⟨[⟨.reset, 0, 3, (s.counter.number + 1) % 65536, 0⟩], false, 0⟩) ∧
      t.link .C = { s.link .C with violations := 0, window := 0, attention := (t.link .C).attention } ∧
      t.link .L = { s.link .L with
        violations := 0, window := 0, transaction := .idle, lastReply := ⟨0x48, tag, .accepted, []⟩,
        attention := (t.link .L).attention } ∧
      t.pending = s.pending) ∧
    (∀ payload, payload ≠ [] →
      exec (.softReset .L tag payload) s = .next (answered .L 0x48 tag .range [255] (received .L false s)))

/-! ### Links -/

/-- Asserting a chip select begins to shift out the link's last reply as it stands at that moment, byte for byte and
then zeros, whatever replaces the last reply later; nothing else changes. A bad frame is answered BAD_FRAME, echoing
bytes 0 and 1 or 0, and has no other effect. A transaction that a reset has cut short ends without any effect,
whatever it carried. -/
def Obligations.ChipSelectAndBadFramesReachNoBlock : Prop :=
  (∀ (l : LinkId) (s : State),
    exec (.chipSelectAsserted l) s =
      .next (s.setLink l { s.link l with transaction := .active (s.link l).lastReply }).judgeLines ∧
    ∀ (x : LinkInterface) (r r' : Reply) (n : Nat), x.transaction = .active r →
      ({ x with lastReply := r' }).dataOut n = r.bytes.getD n 0) ∧
  ((∀ (l : LinkId) (bytes : List Byte) (s : State), (s.link l).transaction ≠ .cutShort →
    exec (.badFrame l bytes) s =
      .next (answered l (bytes.getD 0 0) (bytes.getD 1 0) .badFrame []
        (s.setLink l { s.link l with transaction := .idle }))) ∧
  (∀ (c : Instr) (l : LinkId) (s : State),
    ((∃ kind tag payload, requestParts c = some (l, kind, tag, payload)) ∨ ∃ bytes, c = .badFrame l bytes) →
    (s.link l).transaction = .cutShort →
      exec c s = .next (s.setLink l { s.link l with transaction := .idle }).judgeLines))

/-- A request on a link where it is not permitted is answered NOT_PERMITTED, and a frame of a kind outside the request
summary UNKNOWN_KIND; neither reaches a block. A request of the summary whose payload has not the one length that its
rule checks first is answered RANGE with field index 255 and changes nothing; that FLUSH (records) is one of these is
DEDUCED (log entry 7). -/
def Obligations.RefusedRequestsReachNoBlock : Prop :=
  ((∀ (c : Instr) (l m : LinkId) (kind tag : Byte) (payload : List Byte) (s : State), c.wf = true →
    requestParts c = some (l, kind, tag, payload) → onlyOn kind = some m → m ≠ l → SteadyFrame l false s →
      exec c s = .next (answered l kind tag .notPermitted [] (received l false s))) ∧
  (∀ (l : LinkId) (kind tag : Byte) (payload : List Byte) (s : State), (Instr.unknownKind l kind tag payload).wf = true →
    SteadyFrame l false s →
      exec (.unknownKind l kind tag payload) s = .next (answered l kind tag .unknownKind [] (received l false s)))) ∧
  (∀ (c : Instr) (l : LinkId) (kind tag : Byte) (payload : List Byte) (n : Nat) (s : State), c.wf = true →
    requestParts c = some (l, kind, tag, payload) → fixedLength kind = some n → payload.length ≠ n →
    (∀ m, onlyOn kind = some m → m = l) → SteadyFrame l (kind == 0x02) s →
      exec c s = .next (answered l kind tag .range [255] (received l (kind == 0x02) s)))

/-- On a steady link a NOP leaves the last reply as it stands and a KEEPALIVE is answered ACCEPTED; both act on
supervision alone. A valid frame on a SILENT link, and a supervising one on an ABSENT link, makes the link PRESENT
with the count and the window at 0, whatever the frame asks for; that the window is 0 with supervision off too is the
model's choice (log entry 38). A KEEPALIVE that does so posts LINK_PRESENT with the state left, is answered ACCEPTED, and
the resolved request is formed once after it. Every request has one owner's answer: on a steady link it is given in the
state received; from a frame that makes its link PRESENT in the state after LINK_PRESENT, with the resolved request formed
once after it; from an early frame in the state after its EARLY violation, which may have made the link ABSENT. A NOP acts
on the link alone in each of these cases. What resolved request such an answer is judged with is the model's choice (log
entries 13 and 35). -/
def Obligations.FramesActOnLinkStateAndSupervision : Prop :=
  (∀ (l : LinkId) (tag : Byte) (payload : List Byte) (s : State),
    (SteadyFrame l false s → exec (.nop l tag payload) s = .next (received l false s).judgeLines) ∧
    (SteadyFrame l true s → exec (.keepalive l tag []) s = .next (answered l 0x02 tag .accepted [] (received l true s)))) ∧
  ((∀ (c : Instr) (l : LinkId) (kind tag : Byte) (payload : List Byte) (s : State), c.wf = true →
    requestParts c = some (l, kind, tag, payload) → (s.link l).transaction ≠ .cutShort →
    ((s.link l).state = .silent ∨ (s.link l).state = .absent ∧ supervises (s.link l) (kind == 0x02) = true) →
      ∃ t, exec c s = .next t ∧ (t.link l).state = .present ∧ (t.link l).violations = 0 ∧ (t.link l).window = 0 ∧
        (∀ m, m ≠ l → (t.link m).state = (s.link m).state)) ∧
  (∀ (l : LinkId) (tag : Byte) (s : State) (left : Nat), (s.link l).transaction ≠ .cutShort →
    ((s.link l).state = .silent ∧ left = 1 ∨
      (s.link l).state = .absent ∧ left = 2 ∧ supervises (s.link l) true = true) →
      exec (.keepalive l tag []) s = .next (answered l 0x02 tag .accepted []
        (resolve ((s.setLink l { s.link l with
          transaction := .idle, state := .present, violations := 0, window := 0 }).post .linkPresent (linkNumber l) left))))) ∧
  (∀ (c : Instr) (l : LinkId) (kind tag : Byte) (payload : List Byte) (s : State),
    requestParts c = some (l, kind, tag, payload) → (s.link l).transaction ≠ .cutShort →
    let becomes := (s.link l).state = .silent ∨ (s.link l).state = .absent ∧ supervises (s.link l) (kind == 0x02) = true
    let early := (s.link l).state = .present ∧ supervised (s.link l) (kind == 0x02) = true ∧
      (s.link l).window < (s.link l).tLo * 10
    let violated := violate l 1 (s.setLink l { s.link l with transaction := .idle })
    let reply := fun (a : Answer) (t : State) => exec c s = .next (answered l kind tag a.status a.payload t)
    ((∀ tag payload, c ≠ .nop l tag payload) →
      (SteadyFrame l (kind == 0x02) s →
        reply (requestAnswer c (received l (kind == 0x02) s)) (requestAnswer c (received l (kind == 0x02) s)).state) ∧
      (becomes → reply (requestAnswer c (madePresent l s)) (resolve (requestAnswer c (madePresent l s)).state)) ∧
      (early → reply (requestAnswer c violated) (requestAnswer c violated).state)) ∧
    ((∃ tag payload, c = .nop l tag payload) →
      (becomes → exec c s = .next (resolve (madePresent l s)).judgeLines) ∧
      (early → exec c s = .next violated.judgeLines)))

/-- A CONFIGURE LINK whose seven fields lie in their ranges, with t_lo below t_hi unless t_hi is 0, replaces them,
returns the violation count to 0, restarts the window and keeps the newest records that the new depth admits; that the
window is 0 also where it does not run, with t_hi 0 or on an ABSENT link, is the model's choice (log entry 38). With
t_lo not below t_hi it is answered RANGE with field index 0, and with a field out of its range RANGE with the offset of
the first such field. -/
def Obligations.ConfigureLinkReplacesTheConfiguration : Prop :=
  (∀ (l : LinkId) (tag : Byte) (s : State) (tLo tHi count : Nat) (keepaliveOnly : Bool) (depth threshold : Nat)
    (attnOnRecord : Bool), SteadyFrame l false s → tLo ≤ 600 → tHi ≤ 600 → (count = 1 ∨ count = 3) → 2 ≤ depth →
    depth ≤ 8 → 1 ≤ threshold → threshold ≤ 32 →
      let p := configPayload tLo tHi count keepaliveOnly depth threshold attnOnRecord
      (tHi = 0 ∨ tLo < tHi →
        exec (.configureLink l tag p) s = .next (answered l 0x03 tag .accepted []
          { (received l false s).setLink l { (received l false s).link l with
              tLo := tLo, tHi := tHi, count := count, keepaliveOnly := keepaliveOnly, depth := depth,
              threshold := threshold, attnOnRecord := attnOnRecord, violations := 0, window := 0 } with
            records := s.records.set l ((s.records.get l).drop ((s.records.get l).length - depth)) })) ∧
      (0 < tHi → tHi ≤ tLo →
        exec (.configureLink l tag p) s = .next (answered l 0x03 tag .range [0] (received l false s)))) ∧
  (∀ (l : LinkId) (tag : Byte) (p : List Byte) (k : Nat) (s : State), SteadyFrame l false s → p.length = 9 →
    (if 600 < word16At p 0 then k = 0
      else if 600 < word16At p 2 then k = 2
      else if byteAt p 4 ≠ 1 ∧ byteAt p 4 ≠ 3 then k = 4
      else if 1 < byteAt p 5 then k = 5
      else if byteAt p 6 < 2 ∨ 8 < byteAt p 6 then k = 6
      else if byteAt p 7 < 1 ∨ 32 < byteAt p 7 then k = 7
      else k = 8 ∧ 1 < byteAt p 8) →
      exec (.configureLink l tag p) s = .next (answered l 0x03 tag .range [byte k] (received l false s)))

/-- Below the configured count, a LATE expiry, and a KEEPALIVE that comes before t_lo, each add one to the violation
count, restart the window and post SUPERVISION_VIOLATION with 2 or 1 and the new count; the link stays PRESENT. The
LATE expiry, or the early KEEPALIVE, that brings the violation count to the configured count makes the link ABSENT, and
its rate order, its activation request, its hold, its staging claim and, for Link L, MANUAL end; the other link's
standing state stays. The events begin with SUPERVISION_VIOLATION and LINK_ABSENT, then ORDER_WITHDRAWN for an order held,
HOLD_WITHDRAWN and the MODE_CHANGE of a hold that the link owned, and the MODE_CHANGE of a MANUAL that ends; a stop that
the withdrawal makes wanted in METERING or HOLD adds the MODE_CHANGE to SHUTDOWN. The early KEEPALIVE is answered ACCEPTED
in both cases. -/
def Obligations.ViolationsCountAndMakeALinkAbsent : Prop :=
  (∀ (l : LinkId) (tag : Byte) (s : State), (s.link l).state = .present → (s.link l).tHi ≠ 0 →
    (s.link l).violations + 1 < (s.link l).count →
      ((s.link l).tHi * 10 ≤ (s.link l).window →
        exec (.lateViolation l) s = .next
          ((s.setLink l { s.link l with violations := (s.link l).violations + 1, window := 0 }).post
            .supervisionViolation (linkNumber l) (2 * 256 + ((s.link l).violations + 1))).judgeLines) ∧
      ((s.link l).transaction ≠ .cutShort → (s.link l).window < (s.link l).tLo * 10 →
        exec (.keepalive l tag []) s = .next (answered l 0x02 tag .accepted []
          ((s.setLink l { s.link l with
            transaction := .idle, violations := (s.link l).violations + 1, window := 0 }).post
            .supervisionViolation (linkNumber l) (1 * 256 + ((s.link l).violations + 1)))))) ∧
  (∀ (l : LinkId) (c : Instr) (code : Nat) (s : State), (s.link l).state = .present → (s.link l).tHi ≠ 0 →
    (c = .lateViolation l ∧ code = 2 ∧ (s.link l).tHi * 10 ≤ (s.link l).window ∨
      (∃ tag, c = .keepalive l tag []) ∧ code = 1 ∧ (s.link l).transaction ≠ .cutShort ∧
        (s.link l).window < (s.link l).tLo * 10) →
    (s.link l).count ≤ (s.link l).violations + 1 → (s.meter.hold.isSome = true ↔ s.mode = .hold) →
      ∃ t, exec c s = .next t ∧ (t.link l).state = .absent ∧
        (∀ tag, c = .keepalive l tag [] → (t.link l).lastReply = ⟨0x02, tag, .accepted, []⟩) ∧
        (t.link l).violations = (s.link l).violations + 1 ∧ (t.link l).window = 0 ∧
        t.rate.orders.get l = none ∧ t.meter.requests.get l = .none ∧
        (∀ c, t.plans.claim = some c → c.holder ≠ l) ∧ (∀ h, t.meter.hold = some h → h.owner ≠ l) ∧
        (l = .L → t.mode ≠ .manual) ∧
        (∀ m, m ≠ l → (t.link m).state = (s.link m).state ∧ t.rate.orders.get m = s.rate.orders.get m ∧
          t.meter.requests.get m = s.meter.requests.get m ∧ (t.link m).lastReply = (s.link m).lastReply) ∧
        (∀ c, s.plans.claim = some c → c.holder ≠ l → t.plans.claim = some c) ∧
        (let posted := s.postEach
           ([(.supervisionViolation, linkNumber l, code * 256 + ((s.link l).violations + 1)), (.linkAbsent, linkNumber l, 0)] ++
             (if s.rate.orders.get l = none then [] else [(.orderWithdrawn, linkNumber l, 0)]) ++
             (if s.meter.hold.map HoldRecord.owner = some l then
               [(.holdWithdrawn, linkNumber l, 0), (.modeChange, 0, 2 * 256 + 8)] else []) ++
             (if l = .L ∧ s.mode = .manual then [(.modeChange, 0, 0 * 256 + 11)] else []))
         EventsContinue posted t ∧
          (s.mode = .metering ∨ s.mode = .hold ∨ s.mode = .faultDark →
            t.events = (if t.mode = .shutdown then posted.post .modeChange 0 (4 * 256 + 3) else posted).events)) ∧
        t.plans.slots = s.plans.slots ∧ t.plans.plan = s.plans.plan ∧ t.limits = s.limits ∧ t.locked = s.locked ∧
        t.inputs = s.inputs ∧ t.counter = s.counter ∧ t.records = s.records)

/-- An event is stamped with the counter's reading and offered to each queue by itself: appended where the queue holds
fewer than 32 entries with its mark clear; discarded where it holds 32, which sets the mark and raises the discard
count to at most 65535. After every command each attention line is asserted exactly while its link's event queue holds
at least the threshold, or attention-on-record is yes and its record queue is not empty. -/
def Obligations.EventsAreQueuedAndAttentionFollows : Prop :=
  (∀ (s : State) (kind : EventKind) (subject detail : Nat) (l : LinkId),
    ((s.events.get l).entries.length < 32 → (s.events.get l).mark = false →
      (s.post kind subject detail).events.get l = { s.events.get l with
        entries := (s.events.get l).entries ++ [⟨kind, subject, detail, s.counter.number, s.counter.elapsed⟩] }) ∧
    ((s.events.get l).entries.length = 32 →
      (s.post kind subject detail).events.get l = { s.events.get l with
        mark := true, discards := min ((s.events.get l).discards + 1) 65535 }) ∧
    { s.post kind subject detail with events := s.events } = s) ∧
  (∀ (c : Instr) (s : State), ∃ t, exec c s = .next t ∧
    ∀ l, ((t.link l).attention = true ↔
      (t.link l).threshold ≤ (t.events.get l).entries.length ∨
        ((t.link l).attnOnRecord = true ∧ t.records.get l ≠ [])))

/-- READ STATUS returns 68 bytes and removes nothing; each field stands at its offset with the value the owning block
has at the moment of the request. -/
def Obligations.ReadStatusReturnsTheSnapshot : Prop :=
  ∀ (l : LinkId) (tag : Byte) (s : State), SteadyFrame l false s →
    let r := received l false s
    let b := statusBytes l r
    exec (.readStatus l tag []) s = .next (answered l 0x04 tag .accepted b r) ∧ b.length = 68 ∧
      b.getD 0 0 = byte s.mode.code ∧ b.getD 1 0 = byte s.meter.phase.code ∧ b.getD 2 0 = byte s.meter.resolved.code ∧
      b.getD 3 0 = byte s.meter.requests.L.code ∧ b.getD 4 0 = byte s.meter.requests.C.code ∧
      b.getD 5 0 = byte (slotCode s.plans.active) ∧ b.getD 6 0 = byte (slotCode s.plans.pendingSlot) ∧
      b.getD 7 0 = byte (flagCode s.locked) ∧
      (∀ o, s.rate.inForce = some o → (b.drop 8).take 5 = be16 o.rate ++ [byte o.tag.code] ++ be16 o.headway) ∧
      (s.rate.inForce = none → (b.drop 8).take 5 = [0, 0, 0, 0, 0]) ∧
      b.getD 13 0 = byte (bitsToNat [s.rate.floorActive, s.rate.spillActive]) ∧
      (∀ i : Fin 3, b.getD (14 + i.val) 0 = byte (s.lane i).state.code ∧ b.getD (38 + i.val) 0 = byte (aspectCode (s.aspect i))) ∧
      b.getD 17 0 = byte s.sched.ring.length ∧
      (∀ k, k < 3 → b.getD (18 + k) 0 = byte ((s.sched.ring[k]?.map fun i => i.val + 1).getD 0)) ∧
      b.getD 21 0 = byte (s.link .L).state.code ∧ b.getD 22 0 = byte (s.link .C).state.code ∧
      (∀ c, s.plans.claim = some c →
        (b.drop 23).take 4 = [byte (linkNumber c.holder), byte (c.target.val + 1)] ++ be16 c.timer) ∧
      (s.plans.claim = none → (b.drop 23).take 4 = [0, 0, 0, 0]) ∧
      b.getD 27 0 = byte (s.events.get l).entries.length ∧ b.getD 28 0 = byte (s.records.get l).length ∧
      (b.drop 29).take 4 = be16 s.counter.number ++ be16 s.counter.elapsed ∧
      (∀ h, s.meter.hold = some h → (b.drop 33).take 5 = byte (linkNumber h.owner) :: be32 h.timer) ∧
      (s.meter.hold = none → (b.drop 33).take 5 = [0, 0, 0, 0, 0]) ∧
      (b.drop 41).take 8 = be16 (driveBits Drive.commanded s) ++ be16 (driveBits Drive.sensed s) ++
        be16 (driveBits (fun d => d.out.isLatched) s) ++ be16 (driveBits (fun d => d.lit.isLatched) s) ∧
      b.getD 49 0 = byte (bitsToNat [isFaulted s 0, isFaulted s 1, isFaulted s 2, conflictHeld s]) ∧
      (∀ d : Fin 16, b.getD (50 + d.val) 0 =
        byte (bitsToNat [(s.input d).faultStuck, (s.input d).faultChatter, (s.input d).faultOff])) ∧
      b.getD 66 0 = byte (bitsToNat [substitutionInForce s 0, substitutionInForce s 1, substitutionInForce s 2]) ∧
      b.getD 67 0 = byte (flagCode (s.events.get l).mark)

/-- READ CAPABILITIES is answered in every state, on either link, with the same twelve values; with a payload it is
refused with RANGE and field index 255. -/
def Obligations.CapabilitiesAreFixed : Prop :=
  ∀ (l : LinkId) (tag : Byte) (payload : List Byte) (s : State), (s.link l).transaction ≠ .cutShort →
    ∃ t, exec (.readCapabilities l tag payload) s = .next t ∧
      (t.link l).lastReply =
        if payload = [] then ⟨0x07, tag, .accepted, [1, 1, 3, 16, 10, 8, 32, 2, 8, 48, 250, 16]⟩
        else ⟨0x07, tag, .range, [255]⟩

/-- READ EVENTS for n entries, 1 to 16, removes and returns the oldest of the link's own queue, and FLUSH (events)
removes all; either clears a set overflow mark by one OVERFLOW entry with the discard count after the entries that are
left. A count outside 1 to 16 is refused with RANGE and field index 0. The other link's queue is unchanged. READ
RECORD removes and returns the oldest record of the link's own queue, or answers an empty payload on an empty queue. An
event entry has its five fields at their offsets, with the 28 kind codes; a record with three lane entries and k detector
entries is 33 + 7k bytes long and has each field of its fixed part, its lane entries and its detector entries at its offset,
with the codes of causes, modes, lane states, source tags, roles and health. FLUSH (records) empties the link's own
record queue and leaves the other link's as it was. -/
def Obligations.OwnQueuesAreReadAndFlushed : Prop :=
  (∀ (l : LinkId) (tag : Byte) (s : State), SteadyFrame l false s →
    let r := received l false s
    let q := s.events.get l
    let left := fun (rest : List Event) =>
      if q.mark then (⟨rest ++ [⟨.overflow, 0, q.discards, s.counter.number, s.counter.elapsed⟩], false, 0⟩ : EventQueue)
      else { q with entries := rest }
    (∀ n, 1 ≤ n → n ≤ 16 →
      exec (.readEvents l tag [byte n]) s = .next (answered l 0x05 tag .accepted
        ([byte (min n q.entries.length), byte (left (q.entries.drop n)).entries.length] ++
          ((q.entries.take n).map Event.bytes).flatten)
        { r with events := s.events.set l (left (q.entries.drop n)) })) ∧
    (∀ n : Byte, n = 0 ∨ 16 < n.toNat →
      exec (.readEvents l tag [n]) s = .next (answered l 0x05 tag .range [0] r)) ∧
    exec (.flushEvents l tag []) s =
      .next (answered l 0x08 tag .accepted [] { r with events := s.events.set l (left []) }) ∧
    (∀ e : Event, e.bytes.length = 8 ∧ e.bytes.getD 0 0 = byte e.kind.code ∧ e.bytes.getD 1 0 = byte e.subject ∧
      (e.bytes.drop 2).take 2 = be16 e.detail ∧ (e.bytes.drop 4).take 2 = be16 e.number ∧
      (e.bytes.drop 6).take 2 = be16 e.elapsed) ∧
    ([.reset, .modeChange, .intervalClosed, .markEarly, .markMissed, .detFault, .detRecovered, .lampWarn, .laneFault,
      .meterFault, .faultCleared, .linkAbsent, .linkPresent, .supervisionViolation, .orderExpired, .orderWithdrawn,
      .holdExpired, .holdEndedSpill, .holdWithdrawn, .queueFloorOn, .queueFloorOff, .spillOn, .spillOff, .rateFallback,
      .planApplied, .planInvalid, .stagingTimeout, .overflow] : List EventKind).map EventKind.code = List.range' 1 28) ∧
  ((∀ (l : LinkId) (tag : Byte) (s : State), SteadyFrame l false s →
    let r := received l false s
    (∀ x rest, s.records.get l = x :: rest →
      exec (.readRecord l tag []) s =
        .next (answered l 0x06 tag .accepted x.bytes { r with records := s.records.set l rest })) ∧
    (s.records.get l = [] → exec (.readRecord l tag []) s = .next (answered l 0x06 tag .accepted [] r)) ∧
    (∀ payload, payload ≠ [] → exec (.readRecord l tag payload) s = .next (answered l 0x06 tag .range [255] r)) ∧
    (∀ x : IntervalRecord, x.lanes.length = 3 →
      let b := x.bytes
      b.length = 33 + 7 * x.dets.length ∧ b.take 2 = be16 x.number ∧ b.getD 2 0 = byte x.cause.code ∧
        (b.drop 3).take 2 = be16 x.duration ∧ (b.drop 5).take 2 = be16 x.next ∧ b.getD 7 0 = byte x.mode.code ∧
        b.getD 8 0 = byte (slotCode x.slot) ∧
        b.getD 9 0 = byte (bitsToNat [x.om.isSome, x.rate.isSome, x.floorActive, x.spillActive]) ∧
        b.getD 10 0 = byte x.dets.length ∧
        (∀ (j : Nat) (e : LaneEntry), x.lanes[j]? = some e → (b.drop (11 + 5 * j)).take 5 =
          [byte e.state.code, byte e.releases, byte e.extras, byte e.violations, byte (flagCode e.substituted)]) ∧
        (b.drop 26).take 2 = be16 (x.om.getD 0) ∧
        (∀ o, x.rate = some o → (b.drop 28).take 5 = be16 o.rate ++ [byte o.tag.code] ++ be16 o.headway) ∧
        (x.rate = none → (b.drop 28).take 5 = [0, 0, 0, 0, 0]) ∧
        (∀ (j : Nat) (e : DetEntry), x.dets[j]? = some e → (b.drop (33 + 7 * j)).take 7 =
          [byte (e.input.val + 1), byte e.role.code] ++ be16 e.volume ++ be16 e.occupancy ++ [byte e.health.code])) ∧
    ([Cause.timed, .mark, .freeRun].map Cause.code = [1, 2, 3] ∧
      [Mode.dark, .startup, .metering, .hold, .shutdown, .manual, .faultDark].map Mode.code = List.range 7 ∧
      [LaneState.off, .restGreen, .green, .amber, .red, .ready, .faulted].map LaneState.code = List.range 7 ∧
      [Tag.feedback, .fixed, .orderFloor, .capPlan, .capL, .capC, .queueFloor, .spill, .ceiling, .absMin].map Tag.code =
        List.range' 1 10 ∧
      [Role.downstream, .upstream, .demand, .passage, .queue, .spillback].map Role.code = List.range' 1 6 ∧
      [Health.ok, .warn, .excluded].map Health.code = [0, 1, 2])) ∧
  (∀ (l : LinkId) (tag : Byte) (s : State), SteadyFrame l false s →
    exec (.flushRecords l tag []) s = .next (answered l 0x09 tag .accepted []
      { received l false s with records := s.records.set l [] })))

/-! ### Plans and limits -/

/-- OPEN PLAN from a PRESENT link takes the claim for slots 1 to 8 with a timer of 500 cs, loads the buffer with the
slot's image and returns its state and image; while the other link holds the claim it is answered BUSY, from a link
that is not PRESENT WRONG_STATE, and for a slot outside 1 to 8 RANGE with field index 0, each changing nothing. ABORT
PLAN from the claim holder releases the claim without an event, and leaves every slot; from a link without the claim, or
with no claim in force, it is answered NOT_OPEN. A claim timer that has run out releases the claim with STAGING_TIMEOUT, subject the holder, detail
the target. -/
def Obligations.TheStagingClaimIsTakenAndReleased : Prop :=
  (∀ (l : LinkId) (tag : Byte) (s : State), SteadyFrame l false s →
    let r := received l false s
    (∀ k : Fin 8,
      let c : Instr := .openPlan l tag [byte (k.val + 1)]
      ((s.link l).state = .present → (∀ x, s.plans.claim = some x → x.holder = l) →
        exec c s = .next (answered l 0x10 tag .accepted (byte (s.slot k).status.code :: (s.slot k).image)
          { r with plans := { s.plans with buffer := (s.slot k).image, claim := some ⟨l, k, 500⟩ } })) ∧
      (∀ x, (s.link l).state = .present → s.plans.claim = some x → x.holder ≠ l →
        exec c s = .next (answered l 0x10 tag .busy [] r)) ∧
      ((s.link l).state = .absent → exec c s = .next (answered l 0x10 tag .wrongState [] r))) ∧
    (∀ n : Byte, n = 0 ∨ 8 < n.toNat → exec (.openPlan l tag [n]) s = .next (answered l 0x10 tag .range [0] r))) ∧
  ((∀ (l : LinkId) (tag : Byte) (c : Claim) (s : State), SteadyFrame l false s → s.plans.claim = some c →
    exec (.abortPlan l tag []) s = .next
      (if c.holder = l then
        answered l 0x13 tag .accepted [] { received l false s with plans := { s.plans with claim := none } }
      else answered l 0x13 tag .notOpen [] (received l false s))) ∧
  (∀ (l : LinkId) (tag : Byte) (s : State), SteadyFrame l false s → s.plans.claim = none →
    exec (.abortPlan l tag []) s = .next (answered l 0x13 tag .notOpen [] (received l false s))) ∧
  (∀ (c : Claim) (s : State), s.plans.claim = some c → c.timer = 0 →
    exec .stagingTimeout s = .next
      (({ s with plans := { s.plans with claim := none } }).post .stagingTimeout (linkNumber c.holder)
        (c.target.val + 1)).judgeLines))

/-- PLAN DATA from the claim holder writes its data bytes at the offset and restarts the claim timer at 500 cs; past
byte 48 it writes nothing, restarts the timer and is answered RANGE with field index 0. A payload shorter than 2 bytes
is answered RANGE with field index 255, and a link that does not hold the claim NOT_OPEN. -/
def Obligations.PlanDataWritesTheBuffer : Prop :=
  ∀ (l : LinkId) (tag off : Byte) (data : List Byte) (s : State), SteadyFrame l false s →
    let r := received l false s
    let o := off.toNat
    (∀ c, s.plans.claim = some c → c.holder = l → data ≠ [] → o + data.length ≤ 48 →
      exec (.planData l tag (off :: data)) s = .next (answered l 0x11 tag .accepted []
        { r with plans := { s.plans with
            buffer := s.plans.buffer.take o ++ data ++ s.plans.buffer.drop (o + data.length),
            claim := some { c with timer := 500 } } })) ∧
    (∀ c, s.plans.claim = some c → c.holder = l → data ≠ [] → 48 < o + data.length →
      exec (.planData l tag (off :: data)) s = .next (answered l 0x11 tag .range [0]
        { r with plans := { s.plans with claim := some { c with timer := 500 } } })) ∧
    ((∀ c, s.plans.claim = some c → c.holder ≠ l) → data ≠ [] →
      exec (.planData l tag (off :: data)) s = .next (answered l 0x11 tag .notOpen [] r)) ∧
    (∀ payload, payload.length < 2 →
      exec (.planData l tag payload) s = .next (answered l 0x11 tag .range [255] r))

/-- COMMIT PLAN from the claim holder: a buffer that passes its checks, and that does not change the lane set of the
active slot while the meter works, is stamped with link, sequence and interval, becomes the target slot's image, makes
the slot VALID and releases the claim; the active slot becomes pending where none is. A failing buffer is answered
RANGE with its field index, a disturbing one WRONG_MODE, both with the claim kept and its timer at 500 cs; without the
claim NOT_OPEN. The plan in force is not changed. -/
def Obligations.CommitPlanStoresACheckedImage : Prop :=
  ∀ (l : LinkId) (tag : Byte) (s : State), SteadyFrame l false s →
    let r := received l false s
    let b := s.plans.buffer
    let kept := fun (c : Claim) => { r with plans := { s.plans with claim := some { c with timer := 500 } } }
    (∀ c, s.plans.claim = some c → c.holder = l →
      let old := (s.slot c.target).image
      let seq := (byteAt old 43 + 1) % 256
      let img := b.take 42 ++ [byte (linkNumber l), byte seq] ++ be16 s.counter.number ++ b.drop 46
      (b.length = 48 → imageFailure (timingBounds s.locked s.limits) b = none →
        (s.mode = .dark ∨ s.plans.active ≠ some c.target ∨ ∀ p, s.plans.plan = some p → byteAt b 1 = byteAt p 1) →
        exec (.commitPlan l tag []) s = .next (answered l 0x12 tag .accepted [byte (c.target.val + 1), byte seq]
          { r with plans := { s.plans with
              buffer := img, slots := s.plans.slots.set c.target ⟨.valid, img⟩, claim := none,
              pendingSlot := if s.plans.active = some c.target ∧ s.plans.pendingSlot = none then some c.target
                else s.plans.pendingSlot } })) ∧
      (∀ k, imageFailure (timingBounds s.locked s.limits) b = some k →
        exec (.commitPlan l tag []) s = .next (answered l 0x12 tag .range [byte k] (kept c))) ∧
      (∀ p, imageFailure (timingBounds s.locked s.limits) b = none → s.mode ≠ .dark → s.plans.active = some c.target →
        s.plans.plan = some p → byteAt b 1 ≠ byteAt p 1 →
        exec (.commitPlan l tag []) s = .next (answered l 0x12 tag .wrongMode [] (kept c)))) ∧
    ((∀ c, s.plans.claim = some c → c.holder ≠ l) →
      exec (.commitPlan l tag []) s = .next (answered l 0x12 tag .notOpen [] r))

/-- A plan image passes its checks under given lower bounds exactly if its check word is right and every field lies in
the range of the plan record, the fields of an absent group apart. A failing image gives the field index of the first
failing check: the check word, the group flags, the lane set, then the fields in offset order, those of a group where it is
present. -/
def Obligations.AnImagePassesExactlyIfItsFieldsAreInRange : Prop :=
  (∀ (b : TimingBounds) (img : List Byte), imageFailure b img = none ↔
    ((img.drop 46).take 2 = crcBytes (img.take 42) ∧ byteAt img 0 < 8 ∧ 0 < planLaneSet img ∧ planLaneSet img < 8 ∧
      (50 ≤ planTarget img ∧ planTarget img ≤ 400) ∧ planGain img ≤ 255 ∧
      (120 ≤ planRMin img ∧ planRMin img ≤ planRFixed img ∧ planRFixed img ≤ planRMax img ∧ planRMax img ≤ 3600) ∧
      (b.green ≤ planGRel img ∧ planGRel img ≤ 60) ∧ (b.amber ≤ planAmber img ∧ planAmber img ≤ 40) ∧
      (b.red ≤ planRedMin img ∧ planRedMin img ≤ 200) ∧
      (5 ≤ planStartupGreen img ∧ planStartupGreen img ≤ 120) ∧
      (5 ≤ planShutdownGreen img ∧ planShutdownGreen img ≤ 120) ∧
      (planQueueGroup img = true → planQOn img ≤ 1000 ∧ planQOff img ≤ planQOn img ∧
        120 ≤ planQFloor img ∧ planQFloor img ≤ 3600) ∧
      (planSpillGroup img = true → (5 ≤ planSpillTime img ∧ planSpillTime img ≤ 600) ∧
        5 ≤ planSpillClear img ∧ planSpillClear img ≤ 600) ∧
      (planActivationGroup img = true → planOnThr img ≤ 1000 ∧ (1 ≤ planOnCount img ∧ planOnCount img ≤ 10) ∧
        planOffThr img < planOnThr img ∧ 1 ≤ planOffCount img ∧ planOffCount img ≤ 10))) ∧
  (∀ (b : TimingBounds) (img : List Byte) (k : Nat), imageFailure b img = some k ↔
    (if (img.drop 46).take 2 ≠ crcBytes (img.take 42) then k = 46
      else if 8 ≤ byteAt img 0 then k = 0
      else if planLaneSet img = 0 ∨ 8 ≤ planLaneSet img then k = 1
      else if planTarget img < 50 ∨ 400 < planTarget img then k = 4
      else if 255 < planGain img then k = 6
      else if planRMin img < 120 ∨ 3600 < planRMin img then k = 8
      else if planRMax img < planRMin img ∨ 3600 < planRMax img then k = 10
      else if planRFixed img < planRMin img ∨ planRMax img < planRFixed img then k = 12
      else if planGRel img < b.green ∨ 60 < planGRel img then k = 14
      else if planAmber img < b.amber ∨ 40 < planAmber img then k = 16
      else if planRedMin img < b.red ∨ 200 < planRedMin img then k = 18
      else if planStartupGreen img < 5 ∨ 120 < planStartupGreen img then k = 20
      else if planShutdownGreen img < 5 ∨ 120 < planShutdownGreen img then k = 22
      else if planQueueGroup img = true ∧ 1000 < planQOn img then k = 24
      else if planQueueGroup img = true ∧ planQOn img < planQOff img then k = 26
      else if planQueueGroup img = true ∧ (planQFloor img < 120 ∨ 3600 < planQFloor img) then k = 28
      else if planSpillGroup img = true ∧ (planSpillTime img < 5 ∨ 600 < planSpillTime img) then k = 30
      else if planSpillGroup img = true ∧ (planSpillClear img < 5 ∨ 600 < planSpillClear img) then k = 32
      else if planActivationGroup img = true ∧ 1000 < planOnThr img then k = 34
      else if planActivationGroup img = true ∧ (planOnCount img < 1 ∨ 10 < planOnCount img) then k = 36
      else if planActivationGroup img = true ∧ planOnThr img ≤ planOffThr img then k = 38
      else k = 40 ∧ planActivationGroup img = true ∧ (planOffCount img < 1 ∨ 10 < planOffCount img)))

/-- SELECT PLAN of a VALID slot from a PRESENT link: in DARK, or with no plan in force, its image becomes the plan in
force and the slot the active one; while the meter works, a slot with the lane set of the plan in force becomes the
pending slot. An immediate application posts PLAN_APPLIED; an active queue floor without a queue group in the new plan
becomes inactive with QUEUE_FLOOR_OFF, and spill begins or ends as the counting runs meet the times of the new plan, with
SPILL_ON or SPILL_OFF; a start that it brings about in DARK follows them with its MODE_CHANGE. That order of the events is
the model's choice (log entry 32). A slot that is not VALID is answered WRONG_STATE; another lane set while the meter works WRONG_MODE; a
slot outside 1 to 8 RANGE with field index 0, and a link that is not PRESENT WRONG_STATE. -/
def Obligations.SelectPlanAppliesOrWaits : Prop :=
  (∀ (l : LinkId) (tag : Byte) (k : Fin 8) (s : State), SteadyFrame l false s → (s.link l).state = .present →
    let r := received l false s
    let c : Instr := .selectPlan l tag [byte (k.val + 1)]
    ((s.slot k).status = .valid → (s.mode = .dark ∨ s.plans.plan = none) →
      ∃ t, exec c s = .next t ∧
        t.plans = { s.plans with plan := some (s.slot k).image, active := some k, pendingSlot := none } ∧
        (t.link l).lastReply = ⟨0x14, tag, .accepted, [byte (k.val + 1), 0]⟩ ∧
        (s.mode = .manual → t.mode = .manual) ∧ t.limits = s.limits ∧ t.locked = s.locked ∧ t.counter = s.counter ∧
        t.records = s.records ∧ t.inputs = s.inputs ∧ t.rate.orders = s.rate.orders ∧
        t.meter.requests = s.meter.requests ∧ t.meter.resolved = s.meter.resolved ∧
        (let img := (s.slot k).image
         let posted := s.postEach (planPosts k img s)
         EventsContinue posted t ∧
          (s.mode = .dark ∨ s.mode = .manual ∨ s.mode = .faultDark →
            t.rate = { s.rate with
              floorActive := s.rate.floorActive && planQueueGroup img
              spillActive := if s.rate.spillActive then (spillEnds img s).isNone else (spillBegins img s).isSome } ∧
            t.events = (if t.mode = s.mode then posted else posted.post .modeChange 0 (1 * 256 + 1)).events))) ∧
    (∀ p, (s.slot k).status = .valid → s.mode ≠ .dark → s.plans.plan = some p →
      byteAt (s.slot k).image 1 = byteAt p 1 →
      exec c s = .next (answered l 0x14 tag .accepted [byte (slotCode s.plans.active), byte (k.val + 1)]
        { r with plans := { s.plans with pendingSlot := some k } })) ∧
    ((s.slot k).status ≠ .valid → exec c s = .next (answered l 0x14 tag .wrongState [] r)) ∧
    (∀ p, (s.slot k).status = .valid → s.mode ≠ .dark → s.plans.plan = some p →
      byteAt (s.slot k).image 1 ≠ byteAt p 1 → exec c s = .next (answered l 0x14 tag .wrongMode [] r))) ∧
  (∀ (l : LinkId) (tag : Byte) (s : State), SteadyFrame l false s →
    (∀ n : Byte, n = 0 ∨ 8 < n.toNat →
      exec (.selectPlan l tag [n]) s = .next (answered l 0x14 tag .range [0] (received l false s))) ∧
    ((s.link l).state = .absent → ∀ k : Fin 8,
      exec (.selectPlan l tag [byte (k.val + 1)]) s = .next (answered l 0x14 tag .wrongState [] (received l false s))))

/-- WRITE LIMITS from Link L with every field in range, while unlocked, replaces all fourteen fields at once; where
the interval's time has not come under them, absent_fallback stands and no order is held, it changes nothing else. A
field out of range is answered RANGE with the offset of the first, in offset order: green_min 10 to 40, amber_min 5 to 30,
red_min 10 to 60, stagger_min 8 to 50, r_abs_min 120 to 600, hold_max 10 to 900, lamp_blank 0 to 25, lamp_deglitch 5 to 50,
red_scope, amber_mode and absent_fallback 0 to 1, interval_len 10 to 120, mark_sync 0 to 1 and mark_tol 0 to 5. -/
def Obligations.WriteLimitsReplacesTheTable : Prop :=
  ∀ (tag : Byte) (s : State), SteadyFrame .L false s → s.locked = false →
    (∀ m, limitsInRange m →
      (∃ t, exec (.writeLimits .L tag (limitsPayload m)) s = .next t ∧ t.limits = m ∧ t.locked = false ∧
        (t.link .L).lastReply = ⟨0x40, tag, .accepted, []⟩ ∧ t.plans.slots = s.plans.slots) ∧
      (m.absentFallback = s.limits.absentFallback → (∀ i, (s.lane i).held = none) →
        s.counter.elapsed < (if m.markSync then (m.intervalLen + m.markTol) * 100 else m.intervalLen * 100) →
        exec (.writeLimits .L tag (limitsPayload m)) s = .next (answered .L 0x40 tag .accepted []
          { received .L false s with limits := m }))) ∧
    (∀ (payload : List Byte) (k : Nat), payload.length = 16 →
      (if byteAt payload 0 < 10 ∨ 40 < byteAt payload 0 then k = 0
        else if byteAt payload 1 < 5 ∨ 30 < byteAt payload 1 then k = 1
        else if byteAt payload 2 < 10 ∨ 60 < byteAt payload 2 then k = 2
        else if byteAt payload 3 < 8 ∨ 50 < byteAt payload 3 then k = 3
        else if word16At payload 4 < 120 ∨ 600 < word16At payload 4 then k = 4
        else if word16At payload 6 < 10 ∨ 900 < word16At payload 6 then k = 6
        else if 25 < byteAt payload 8 then k = 8
        else if byteAt payload 9 < 5 ∨ 50 < byteAt payload 9 then k = 9
        else if 1 < byteAt payload 10 then k = 10
        else if 1 < byteAt payload 11 then k = 11
        else if 1 < byteAt payload 12 then k = 12
        else if byteAt payload 13 < 10 ∨ 120 < byteAt payload 13 then k = 13
        else if 1 < byteAt payload 14 then k = 14
        else k = 15 ∧ 5 < byteAt payload 15) →
      exec (.writeLimits .L tag payload) s = .next (answered .L 0x40 tag .range [byte k] (received .L false s))) ∧
    (∀ payload, payload.length ≠ 16 →
      exec (.writeLimits .L tag payload) s = .next (answered .L 0x40 tag .range [255] (received .L false s)))

/-- LOCK LIMITS sets the lock; a VALID slot whose image fails the locked limits becomes INVALID with its image kept,
and no other slot changes; each is posted with PLAN_INVALID, in ascending slot number, with the field index of the first
failing check; a failing active slot leaves no plan in force, and with it an active queue floor becomes inactive with
QUEUE_FLOOR_OFF and an active spill with SPILL_OFF, detail 2 (that order: log entry 32); a failing pending slot leaves none
pending; the reply gives the eight states. A start that stands in DARK is judged with the lock set: where the active slot
has survived and a lane works the meter starts, with its MODE_CHANGE last, and else it stays DARK. While the lock is set it
is answered LOCKED. Where the active slot does not fail, the plan in force stays:
of an older copy of that slot, which was committed again while unlocked, this is the model's choice, since no step of R128
judges the copy and its last sentence reads otherwise (log entry 34). -/
def Obligations.LockLimitsJudgesEverySlot : Prop :=
  ∀ (tag : Byte) (s : State), SteadyFrame .L false s →
    (s.locked = false →
      let fails := fun k => (s.slot k).status = .valid ∧ imageFailure (timingBounds true s.limits) (s.slot k).image ≠ none
      let lost := ∃ k, s.plans.active = some k ∧ (fails k ∨ (s.slot k).status = .invalid)
      ∃ t, exec (.lockLimits .L tag []) s = .next t ∧ t.locked = true ∧ t.limits = s.limits ∧
        (∀ k, (fails k → t.slot k = ⟨.invalid, (s.slot k).image⟩) ∧ (¬ fails k → t.slot k = s.slot k)) ∧
        (lost → t.plans.plan = none ∧ t.plans.active = none ∧ t.plans.pendingSlot = none) ∧
        (¬ lost → t.plans.plan = s.plans.plan ∧ t.plans.active = s.plans.active) ∧
        (¬ lost → ∀ k, s.plans.pendingSlot = some k → ¬ fails k → (s.slot k).status ≠ .invalid →
          t.plans.pendingSlot = some k) ∧
        (∀ k, s.plans.pendingSlot = some k → fails k → t.plans.pendingSlot = none) ∧
        (let posted := s.postEach (allSlots.filterMap fun k =>
           (lockFailure s k).map fun index => (.planInvalid, k.val + 1, index))
         EventsContinue posted t ∧ (¬ lost → wanted s = .neither → t.events = posted.events) ∧
          (lost → t.rate.floorActive = false ∧ t.rate.spillActive = false ∧
            EventsContinue (posted.postEach ((if s.rate.floorActive then [(.queueFloorOff, 0, 65535)] else []) ++
              (if s.rate.spillActive then [(.spillOff, 0, 2)] else []))) t)) ∧
        (let starts := ¬ lost ∧ StartStands s (fun i => working s i = true)
         (∀ p, s.mode = .dark → s.plans.plan = some p → starts → (∀ i, (s.lane i).state = .off ∨ (s.lane i).state = .faulted) →
           Started p (fun i => working s i = true) t ∧ (∀ i, working s i = false → t.lane i = s.lane i) ∧
             t.events = ((s.postEach (allSlots.filterMap fun k =>
               (lockFailure s k).map fun index => (.planInvalid, k.val + 1, index))).post .modeChange 0 (1 * 256 + 1)).events) ∧
          (s.mode = .dark → ¬ starts → t.meter = s.meter ∧ ∀ i, t.lane i = s.lane i)) ∧
        t.plans.buffer = s.plans.buffer ∧ t.plans.claim = s.plans.claim ∧ t.counter = s.counter ∧
        t.records = s.records ∧ t.inputs = s.inputs ∧
        (t.link .L).lastReply = ⟨0x41, tag, .accepted, allSlots.map fun k => byte (t.slot k).status.code⟩) ∧
    (s.locked = true →
      exec (.lockLimits .L tag []) s = .next (answered .L 0x41 tag .locked [] (received .L false s)))

/-! ### Meter modes, orders and faults -/

/-- REQUEST METERING 0 to 3 from a PRESENT link holds the request and forms the resolved request: Link L's wish while
it is PRESENT, else Link C's, else OFF. The reply shows the resolved request and the mode after the request has been
acted on. From a link that is not PRESENT it is answered WRONG_STATE, and a byte outside 0 to 3 RANGE with field index
0. The violation that makes a link ABSENT forms the resolved request after that link's request is withdrawn: the wish of
the other link while it is PRESENT, else OFF; with no link PRESENT, OFF under absent_fallback SHUTDOWN and the one that
stood under CONTINUE. So does a WRITE LIMITS that changes absent_fallback while no link is PRESENT. A change of the
resolved request returns both run counts to 0, and the same value again leaves them. -/
def Obligations.RequestMeteringIsHeldAndResolved : Prop :=
  (∀ (l : LinkId) (tag : Byte) (s : State), SteadyFrame l false s →
    (∀ a : Activation, (s.link l).state = .present →
      ∃ t, exec (.requestMetering l tag [byte a.code]) s = .next t ∧ t.meter.requests = s.meter.requests.set l a ∧
        (let wish := fun m => if (s.link m).state = .present then resolvedBy ((s.meter.requests.set l a).get m) else none
         t.meter.resolved = ((wish .L).or (wish .C)).getD .off) ∧
        (t.meter.resolved ≠ s.meter.resolved → t.meter.onRun = 0 ∧ t.meter.offRun = 0) ∧
        (t.meter.resolved = s.meter.resolved → t.meter.onRun = s.meter.onRun ∧ t.meter.offRun = s.meter.offRun) ∧
        (t.link l).lastReply = ⟨0x20, tag, .accepted, [byte t.meter.resolved.code, byte t.mode.code]⟩ ∧
        KeepsSite s t ∧ t.rate.orders = s.rate.orders ∧ ∀ m, m ≠ l → KeepsLink m s t) ∧
    ((s.link l).state = .absent → ∀ a : Activation,
      exec (.requestMetering l tag [byte a.code]) s = .next (answered l 0x20 tag .wrongState [] (received l false s))) ∧
    (∀ b : Byte, 3 < b.toNat →
      exec (.requestMetering l tag [b]) s = .next (answered l 0x20 tag .range [0] (received l false s)))) ∧
  (∀ (l m : LinkId) (s : State), m ≠ l → (s.link l).state = .present → (s.link l).tHi ≠ 0 →
    (s.link l).tHi * 10 ≤ (s.link l).window → (s.link l).count ≤ (s.link l).violations + 1 →
      ∃ t, exec (.lateViolation l) s = .next t ∧ t.meter.requests.get l = .none ∧
        t.meter.resolved =
          (if (s.link m).state = .present then (resolvedBy (s.meter.requests.get m)).getD .off
            else if s.limits.absentFallback = .shutdown then .off else s.meter.resolved) ∧
        (t.meter.resolved ≠ s.meter.resolved → t.meter.onRun = 0 ∧ t.meter.offRun = 0) ∧
        (t.meter.resolved = s.meter.resolved → t.meter.onRun = s.meter.onRun ∧ t.meter.offRun = s.meter.offRun)) ∧
  (∀ (tag : Byte) (m : SiteLimits) (s : State), SteadyFrame .L false s → s.locked = false → limitsInRange m →
    m.absentFallback ≠ s.limits.absentFallback → (∀ l, (s.link l).state ≠ .present) →
      ∃ t, exec (.writeLimits .L tag (limitsPayload m)) s = .next t ∧
        t.meter.resolved = (if m.absentFallback = .shutdown then .off else s.meter.resolved) ∧
        (t.meter.resolved ≠ s.meter.resolved → t.meter.onRun = 0 ∧ t.meter.offRun = 0))

/-- A request ON in DARK, from Link L with the limits locked, the active slot VALID and a lane of the lane set not
FAULTED, starts the meter: STARTUP in phase REST, the beacon on, the rest timer at startup_green, and each enabled
lane that is not FAULTED in REST_GREEN with its green commanded on; the other lanes stay as they are. Where a start
condition fails the meter stays DARK. -/
def Obligations.AStartTakesDarkToStartup : Prop :=
  ∀ (tag : Byte) (s : State), SteadyFrame .L false s → (s.link .L).state = .present → s.mode = .dark →
    (∀ (p : List Byte) (k : Fin 8), s.locked = true → s.plans.active = some k → (s.slot k).status = .valid →
      s.plans.plan = some p → (∀ i, (s.lane i).state = .off ∨ (s.lane i).state = .faulted) →
      (∃ i, planEnables p i = true ∧ (s.lane i).state ≠ .faulted) →
        ∃ t, exec (.requestMetering .L tag [1]) s = .next t ∧ t.mode = .startup ∧ t.meter.phase = .rest ∧
          t.meter.beacon = true ∧ (t.drive beaconDrive).commanded = true ∧
          t.meter.seqTimer = planStartupGreen p * 100 ∧ t.meter.resolved = .on ∧
          (∀ i, planEnables p i = true ∧ (s.lane i).state ≠ .faulted →
            (t.lane i).state = .restGreen ∧ (t.lane i).age = 0 ∧ (t.drive (driveOf i .green)).commanded = true ∧
              (t.drive (driveOf i .red)).commanded = false ∧ (t.drive (driveOf i .amber)).commanded = false) ∧
          (∀ i, ¬(planEnables p i = true ∧ (s.lane i).state ≠ .faulted) → t.lane i = s.lane i) ∧
          (t.link .L).lastReply = ⟨0x20, tag, .accepted, [1, 1]⟩ ∧ KeepsSite s t ∧ KeepsLink .C s t ∧ t.rate = s.rate ∧
          t.sched.ring = s.sched.ring ∧ t.events = (s.post .modeChange 0 (1 * 256 + 1)).events) ∧
    ((s.locked = false ∨ s.plans.active = none ∨ (∃ k, s.plans.active = some k ∧ (s.slot k).status ≠ .valid) ∨
        ∀ i, enabled s i = true → (s.lane i).state = .faulted) →
      exec (.requestMetering .L tag [1]) s = .next (answered .L 0x20 tag .accepted [1, 0]
        (formResolved { received .L false s with
          meter := { s.meter with requests := s.meter.requests.set .L .on } })))

/-- A request OFF from Link L in METERING or HOLD takes the meter to SHUTDOWN with cause STOP: the beacon off, no rate
in force, the ring empty, no hold; each working lane in RED or READY rests at once, and one in GREEN or AMBER goes on
and rests when it reaches its red; where every working lane then rests, phase RESTING begins at the entry with the plan's
shutdown_green on its timer, and else the phase is FINISHING; a lane outside the lane set and a FAULTED one stay. A request OFF in STARTUP, in phase
REST or CLEARING, interrupts the startup: the beacon off, phase STOPPING, and a stop order to every lane that is not OFF
or FAULTED: a lane at rest goes AMBER towards OFF, or holds the stop while its green age is below green_min, a running
amber will end in OFF, and a RED or READY lane is OFF at once. Where that leaves every lane OFF or FAULTED, the meter
enters DARK with cause STOP. -/
def Obligations.AStopTakesMeteringToShutdown : Prop :=
  (∀ (tag : Byte) (s : State), SteadyFrame .L false s → (s.link .L).state = .present →
    s.mode = .metering ∨ s.mode = .hold →
      ∃ t, exec (.requestMetering .L tag [2]) s = .next t ∧ t.mode = .shutdown ∧ t.meter.beacon = false ∧
        t.meter.hold = none ∧ t.rate.inForce = none ∧ t.rate.rFb = s.rate.rFb ∧ t.rate.rPrev = s.rate.rPrev ∧
        t.rate.orders = s.rate.orders ∧ t.sched.ring = [] ∧ t.sched.releasePending = false ∧
        (t.meter.phase = .resting ↔ ∀ i, working s i = true → (t.lane i).state = .restGreen) ∧
        (t.meter.phase ≠ .resting → t.meter.phase = .finishing ∧ t.meter.seqTimer = 0) ∧
        (∀ p, s.plans.plan = some p → t.meter.phase = .resting → t.meter.seqTimer = planShutdownGreen p * 100) ∧
        (∀ i, working s i = true → (s.lane i).state = .red ∨ (s.lane i).state = .ready →
          (t.lane i).state = .restGreen) ∧
        (∀ i, working s i = true → (s.lane i).state = .green ∨ (s.lane i).state = .amber →
          t.lane i = { s.lane i with held := none, restAwaits := true }) ∧
        (∀ i, working s i = false → t.lane i = s.lane i) ∧
        (t.link .L).lastReply = ⟨0x20, tag, .accepted, [2, 4]⟩ ∧ KeepsSite s t ∧ KeepsLink .C s t ∧
        t.events = (s.post .modeChange 0 (4 * 256 + 3)).events) ∧
  (∀ (tag : Byte) (p : List Byte) (s : State), SteadyFrame .L false s → (s.link .L).state = .present →
    s.mode = .startup → (s.meter.phase = .rest ∨ s.meter.phase = .clearing) → s.plans.plan = some p →
    ((∃ i, (s.lane i).state = .restGreen ∨ (s.lane i).state = .green ∨ (s.lane i).state = .amber) →
      ∃ t, exec (.requestMetering .L tag [2]) s = .next t ∧ t.mode = .startup ∧ t.meter.phase = .stopping ∧
        t.meter.seqTimer = 0 ∧ t.meter.beacon = false ∧ (t.drive beaconDrive).commanded = false ∧
        (∀ i, (s.lane i).state = .restGreen ∨ (s.lane i).state = .green → s.limits.greenMin * 10 ≤ (s.lane i).age →
          t.lane i = (s.lane i).toAmber (planAmber p * 10) true ∧ (t.drive (driveOf i .amber)).commanded = true ∧
            (t.drive (driveOf i .green)).commanded = false) ∧
        (∀ i, (s.lane i).state = .restGreen ∨ (s.lane i).state = .green → (s.lane i).age < s.limits.greenMin * 10 →
          t.lane i = { s.lane i with held := some .stop }) ∧
        (∀ i, (s.lane i).state = .amber → t.lane i = { s.lane i with toOff := true }) ∧
        (∀ i, (s.lane i).state = .red ∨ (s.lane i).state = .ready → t.lane i = (s.lane i).toOFF) ∧
        (∀ i, (s.lane i).state = .off ∨ (s.lane i).state = .faulted → t.lane i = s.lane i) ∧
        (t.link .L).lastReply = ⟨0x20, tag, .accepted, [2, 1]⟩ ∧ KeepsSite s t ∧ KeepsLink .C s t ∧ t.rate = s.rate ∧
        t.events = s.events) ∧
    ((∀ i, (s.lane i).state = .red ∨ (s.lane i).state = .ready ∨ (s.lane i).state = .off ∨
        (s.lane i).state = .faulted) →
      ∃ t, exec (.requestMetering .L tag [2]) s = .next t ∧ t.mode = .dark ∧ t.meter.phase = .idle ∧
        t.meter.beacon = false ∧ (∀ i, (t.lane i).state = .off) ∧
        (t.link .L).lastReply = ⟨0x20, tag, .accepted, [2, 0]⟩ ∧ KeepsSite s t ∧ KeepsLink .C s t ∧
        t.events = (s.post .modeChange 0 (0 * 256 + 3)).events))

/-- A request ON from Link L in SHUTDOWN returns the meter to METERING with cause START: the beacon on, the headway
timer from 0, the stored feedback value clamped to the plan in force and the combine run; a resting lane is cleared
through amber or holds the clear order for green_min, and a rest order that awaits a red is withdrawn. -/
def Obligations.AStartReturnsShutdownToMetering : Prop :=
  ∀ (tag : Byte) (p : List Byte) (s : State), SteadyFrame .L false s → (s.link .L).state = .present →
    s.mode = .shutdown → s.plans.plan = some p → 1 ≤ (combineOut { s.rate with
        rFb := max (planRMin p) (min s.rate.rFb (planRMax p)) } s.limits p (workingLanes s).length).headway →
      ∃ t, exec (.requestMetering .L tag [1]) s = .next t ∧ t.mode = .metering ∧ t.meter.phase = .idle ∧
        t.meter.beacon = true ∧ t.sched.ring = workingLanes s ∧ t.sched.elapsed = 0 ∧ t.sched.releasePending = false ∧
        t.rate.rFb = max (planRMin p) (min s.rate.rFb (planRMax p)) ∧ t.rate.basis = s.rate.basis ∧
        t.rate.inForce = some (combineOut { s.rate with rFb := max (planRMin p) (min s.rate.rFb (planRMax p)) }
          s.limits p (workingLanes s).length) ∧
        t.sched.headway = (combineOut { s.rate with rFb := max (planRMin p) (min s.rate.rFb (planRMax p)) }
          s.limits p (workingLanes s).length).headway ∧
        (∀ i, (s.lane i).state = .restGreen →
          (s.limits.greenMin * 10 ≤ (s.lane i).age →
            (t.lane i).state = .amber ∧ (t.lane i).timer = some (planAmber p * 10)) ∧
          ((s.lane i).age < s.limits.greenMin * 10 → t.lane i = { s.lane i with held := some .clear })) ∧
        (∀ i, (s.lane i).state = .green ∨ (s.lane i).state = .amber →
          t.lane i = { s.lane i with restAwaits := false }) ∧
        (∀ i, (s.lane i).state = .red ∨ (s.lane i).state = .ready ∨ (s.lane i).state = .off ∨
          (s.lane i).state = .faulted → t.lane i = s.lane i) ∧
        (t.link .L).lastReply = ⟨0x20, tag, .accepted, [1, 2]⟩ ∧ KeepsSite s t ∧ KeepsLink .C s t ∧
        t.events = (s.post .modeChange 0 (2 * 256 + 1)).events

/-- RATE ORDER from a PRESENT link replaces the link's whole order: cap and floor clamped to 120 to 3600 veh/h, an
expiry of 1 to 3600 s as a timer in cs, and no order where neither cap nor floor is present; the rate recombines while
engaged. Unused flag bits are answered RANGE with field index 0, an expiry out of range with 5, and a link that is not
PRESENT WRONG_STATE. -/
def Obligations.RateOrderReplacesTheWholeOrder : Prop :=
  ∀ (l : LinkId) (tag : Byte) (cap floor expiry : Option Nat) (s : State), SteadyFrame l false s →
    (∀ n, cap = some n → n < 65536) → (∀ n, floor = some n → n < 65536) → (∀ n, expiry = some n → n < 65536) →
      let r := received l false s
      let p := orderPayload cap floor expiry
      let clamp := fun n => max 120 (min n 3600)
      let held : Option RateOrder :=
        if cap.isSome ∨ floor.isSome then some ⟨cap.map clamp, floor.map clamp, expiry.map (· * 100)⟩ else none
      let put : State := { r with rate := { s.rate with orders := s.rate.orders.set l held } }
      ((s.link l).state = .present → (∀ n, expiry = some n → 1 ≤ n ∧ n ≤ 3600) →
        exec (.rateOrder l tag p) s = .next (answered l 0x21 tag .accepted
          (be16 ((held.bind RateOrder.cap).getD 0) ++ be16 ((held.bind RateOrder.floor).getD 0)) (recombine put))) ∧
      (∀ n, expiry = some n → n = 0 ∨ 3600 < n →
        exec (.rateOrder l tag p) s = .next (answered l 0x21 tag .range [5] r)) ∧
      ((s.link l).state = .absent → (∀ n, expiry = some n → 1 ≤ n ∧ n ≤ 3600) →
        exec (.rateOrder l tag p) s = .next (answered l 0x21 tag .wrongState [] r)) ∧
      (∀ b : Byte, 8 ≤ b.toNat →
        exec (.rateOrder l tag (b :: p.tail)) s = .next (answered l 0x21 tag .range [0] r))

/-- CANCEL ORDER removes the link's order without an event and answers 1 if it held one, else 0, in every mode and
from a link in any state; with a payload it is refused with RANGE and field index 255; the rate recombines while
engaged if an order was removed. -/
def Obligations.CancelOrderRemovesTheOrder : Prop :=
  ∀ (l : LinkId) (tag : Byte) (s : State), SteadyFrame l false s →
    let r := received l false s
    (∀ o, s.rate.orders.get l = some o →
      exec (.cancelOrder l tag []) s = .next (answered l 0x22 tag .accepted [1]
        (recombine { r with rate := { s.rate with orders := s.rate.orders.set l none } }))) ∧
    (s.rate.orders.get l = none → exec (.cancelOrder l tag []) s = .next (answered l 0x22 tag .accepted [0] r)) ∧
    (∀ payload, payload ≠ [] → exec (.cancelOrder l tag payload) s = .next (answered l 0x22 tag .range [255] r))

/-- A rate order whose expiry timer has run out is removed with ORDER_EXPIRED, and the rate recombines while engaged.
A recombination puts the combine of the stored feedback value in force, and keeps that value and its basis. -/
def Obligations.AnExpiredOrderIsRemoved : Prop :=
  (∀ (l : LinkId) (o : RateOrder) (s : State), s.rate.orders.get l = some o → o.timer = some 0 →
    exec (.orderExpired l) s = .next (recombine
      (({ s with rate := { s.rate with orders := s.rate.orders.set l none } }).post .orderExpired
        (linkNumber l) 0)).judgeLines) ∧
  (∀ s : State, s.mode ≠ .metering → s.mode ≠ .hold → recombine s = s) ∧
  (∀ (s : State) (p : List Byte), s.mode = .metering ∨ s.mode = .hold → s.plans.plan = some p →
    let o := combineOut s.rate s.limits p (workingLanes s).length
    (recombine s).rate = { s.rate with inForce := some o, rPrev := o.rate } ∧
      (recombine s).mode = s.mode ∧ (recombine s).counter = s.counter ∧ (recombine s).inputs = s.inputs ∧
      (recombine s).plans = s.plans ∧ (recombine s).links = s.links ∧
      ((s.rate.inForce.map RateOut.headway ≠ some o.headway ∨ s.sched.headway = o.headway) →
        (recombine s).sched.headway = o.headway))

/-- HOLD from a PRESENT link in METERING with spill inactive takes the meter to HOLD with the link as owner and the
timer at hold_max; the hold timer's end returns it to METERING with HOLD_EXPIRED before the MODE_CHANGE. In HOLD a HOLD
is answered WRONG_STATE, in another mode WRONG_MODE, under spill WRONG_STATE, and from a link that is not PRESENT
WRONG_STATE. -/
def Obligations.HoldSuspendsAndEnds : Prop :=
  (∀ (l : LinkId) (tag : Byte) (s : State), SteadyFrame l false s → (s.link l).state = .present →
    let r := received l false s
    (s.mode = .metering → s.rate.spillActive = false →
      exec (.hold l tag []) s = .next (answered l 0x23 tag .accepted []
        (({ r with meter := { s.meter with mode := .hold, hold := some ⟨l, s.limits.holdMax * 100⟩ } }).post
          .modeChange 0 (3 * 256 + 6)))) ∧
    (s.mode = .hold → exec (.hold l tag []) s = .next (answered l 0x23 tag .wrongState [] r)) ∧
    (s.mode ≠ .metering → s.mode ≠ .hold → exec (.hold l tag []) s = .next (answered l 0x23 tag .wrongMode [] r)) ∧
    (s.mode = .metering → s.rate.spillActive = true →
      exec (.hold l tag []) s = .next (answered l 0x23 tag .wrongState [] r))) ∧
  (∀ (l : LinkId) (tag : Byte) (s : State), SteadyFrame l false s → (s.link l).state = .absent →
    exec (.hold l tag []) s = .next (answered l 0x23 tag .wrongState [] (received l false s))) ∧
  (∀ (s : State) (h : HoldRecord), s.mode = .hold → s.meter.hold = some h → h.timer = 0 →
    exec .holdExpired s = .next (resumeReleases
      (({ s with meter := { s.meter with mode := .metering, hold := none } }).post .holdExpired (linkNumber h.owner) 0
        |>.post .modeChange 0 (2 * 256 + 8))).judgeLines)

/-- RESUME from a PRESENT link that owns the hold, or from Link L, clears the hold record and returns the meter to
METERING with cause RESUMED; from the other link it is answered NOT_OWNER, with no hold in force WRONG_STATE, from a
link that is not PRESENT WRONG_STATE, and with a payload RANGE with field index 255. On the return a timer at or
beyond H makes a release due, and a pending release is taken if a lane can take it. The continuation of releases on a
return from HOLD: with no release pending and the elapsed time below H nothing is granted; otherwise the first lane of
the ring that is READY with demand takes the release. -/
def Obligations.ResumeReturnsToMeteringAndItsReleases : Prop :=
  (∀ (l : LinkId) (tag : Byte) (s : State), SteadyFrame l false s →
    let r := received l false s
    (∀ h, (s.link l).state = .present → s.meter.hold = some h → (h.owner = l ∨ l = .L) →
      exec (.resume l tag []) s = .next (answered l 0x24 tag .accepted [] (resumeReleases
        (({ r with meter := { s.meter with mode := .metering, hold := none } }).post .modeChange 0 (2 * 256 + 7))))) ∧
    (∀ h, (s.link l).state = .present → s.meter.hold = some h → h.owner ≠ l → l = .C →
      exec (.resume l tag []) s = .next (answered l 0x24 tag .notOwner [] r)) ∧
    ((s.meter.hold = none ∨ (s.link l).state = .absent) →
      exec (.resume l tag []) s = .next (answered l 0x24 tag .wrongState [] r)) ∧
    (∀ payload, payload ≠ [] → exec (.resume l tag payload) s = .next (answered l 0x24 tag .range [255] r))) ∧
  (∀ s : State, s.mode = .metering →
    (s.sched.releasePending = false → s.sched.elapsed < s.sched.headway → resumeReleases s = s) ∧
    (∀ i, nextLane s = some i → (s.sched.releasePending = true ∨ s.sched.headway ≤ s.sched.elapsed) →
      resumeReleases s = grant i s) ∧
    (nextLane s = none → (s.sched.releasePending = true ∨ s.sched.headway ≤ s.sched.elapsed) →
      resumeReleases s = { s with sched := { s.sched with releasePending := true } }))

/-- CLEAR FAULT (lane) of a FAULTED lane from a PRESENT link: FAULT_CLEARED is posted, and the lane goes RED for plan
red_min at the tail of the ring, or OFF where it is not enabled, and in MANUAL RED for site red_min; the rate
recombines. The watches of its drives, all commanded off until then, are judged afresh: a drive that the red then
commands on is blanked, with its OUT watch SUSPECT at once where lamp_blank is 0 and it is unlit; the LIT watch of a
drive that stays off is SUSPECT with its deglitch timer at 0 where no blanking runs and the drive is lit; every other
watch is CLEAR. A lane that is not FAULTED is answered WRONG_STATE, any other mode WRONG_MODE, a lane byte outside 1 to 3
RANGE with field index 0, and a link that is not PRESENT WRONG_STATE. -/
def Obligations.ClearLaneFaultRestoresTheLane : Prop :=
  (∀ (l : LinkId) (tag : Byte) (i : Fin 3) (s : State), SteadyFrame l false s → (s.link l).state = .present →
    let r := received l false s
    let c : Instr := .clearFaultLane l tag [byte (i.val + 1)]
    let afresh := fun (on : Bool) (d : Drive) =>
      if on then
        (⟨true, d.sensed, startBlank s.limits.lampBlank,
          if s.limits.lampBlank = 0 ∧ d.sensed = false then .suspect 0 s.limits.lampDeglitch else .clear, .clear⟩ : Drive)
      else ⟨false, d.sensed, d.blank, .clear,
        if d.blank = none ∧ d.sensed = true then .suspect 0 s.limits.lampDeglitch else .clear⟩
    ((s.lane i).state = .faulted →
      (s.mode = .manual →
        ∃ t, exec c s = .next t ∧ t.lane i = (s.lane i).toRed (s.limits.redMin * 10) ∧
          (∀ j, j ≠ i → t.lane j = s.lane j) ∧ (t.drive (driveOf i .red)).commanded = true ∧ t.mode = .manual ∧
          ((∀ c, (s.drive (driveOf i c)).commanded = false) →
            ∀ c, t.drive (driveOf i c) = afresh (c == .red) (s.drive (driveOf i c))) ∧
          t.sched.ring = s.sched.ring ∧ t.rate = s.rate ∧ KeepsSite s t ∧ (∀ m, m ≠ l → KeepsLink m s t) ∧
          t.events = (s.post .faultCleared (i.val + 1) 1).events ∧ (t.link l).lastReply = ⟨0x25, tag, .accepted, []⟩) ∧
      (∀ p, s.mode = .metering ∨ s.mode = .hold → s.plans.plan = some p →
        let ring := if planEnables p i then s.sched.ring ++ [i] else s.sched.ring
        ∃ t, exec c s = .next t ∧ t.mode = s.mode ∧
          t.lane i = (if planEnables p i then (s.lane i).toRed (planRedMin p * 10) else (s.lane i).toOFF) ∧
          t.sched.ring.Perm ring ∧ (s.mode = .hold → t.sched.ring = ring) ∧
          (∀ j, j ≠ i → t.lane j = s.lane j ∨
            (s.mode = .metering ∧ (s.lane j).state = .ready ∧ (t.lane j).state = .green)) ∧
          (t.drive (driveOf i .red)).commanded = planEnables p i ∧
          ((∀ c, (s.drive (driveOf i c)).commanded = false) →
            ∀ c, t.drive (driveOf i c) = afresh (c == .red && planEnables p i) (s.drive (driveOf i c))) ∧
          t.rate.inForce = some (combineOut s.rate s.limits p (workingLanes t).length) ∧ KeepsSite s t ∧
          (∀ m, m ≠ l → KeepsLink m s t) ∧ t.meter = s.meter ∧
          t.events = (s.post .faultCleared (i.val + 1) 1).events ∧ (t.link l).lastReply = ⟨0x25, tag, .accepted, []⟩)) ∧
    ((s.mode = .metering ∨ s.mode = .hold ∨ s.mode = .manual) → (s.lane i).state ≠ .faulted →
      exec c s = .next (answered l 0x25 tag .wrongState [] r)) ∧
    (s.mode ≠ .metering → s.mode ≠ .hold → s.mode ≠ .manual →
      exec c s = .next (answered l 0x25 tag .wrongMode [] r))) ∧
  (∀ (l : LinkId) (tag : Byte) (s : State), SteadyFrame l false s →
    (∀ n : Byte, n = 0 ∨ 3 < n.toNat →
      exec (.clearFaultLane l tag [n]) s = .next (answered l 0x25 tag .range [0] (received l false s))) ∧
    ((s.link l).state = .absent → ∀ i : Fin 3,
      exec (.clearFaultLane l tag [byte (i.val + 1)]) s =
        .next (answered l 0x25 tag .wrongState [] (received l false s))))

/-- ENTER MANUAL from a PRESENT Link L, in every mode but MANUAL and FAULT_DARK, takes the meter to MANUAL: no rate in
force, ring empty, no hold, the beacon as it was; a lane in OFF goes RED for site red_min at once, one in GREEN or
REST_GREEN past green_min goes AMBER for site amber_min, a lane in RED, READY or AMBER keeps its course, and a FAULTED
lane stays FAULTED. In MANUAL it is answered WRONG_STATE, in FAULT_DARK WRONG_MODE, and while Link L is not PRESENT
WRONG_STATE. -/
def Obligations.EnterManualBringsLanesToRed : Prop :=
  (∀ (tag : Byte) (s : State), SteadyFrame .L false s → (s.link .L).state = .present →
    (s.mode ≠ .manual → s.mode ≠ .faultDark →
      ∃ t, exec (.enterManual .L tag []) s = .next t ∧ t.mode = .manual ∧ t.meter.phase = .idle ∧
        t.meter.hold = none ∧ t.meter.beacon = s.meter.beacon ∧ t.rate.inForce = none ∧ t.sched.ring = [] ∧
        (∀ i, (s.lane i).state = .off → (t.lane i).state = .red ∧
          (t.lane i).timer = some (s.limits.redMin * 10) ∧ t.aspect i = none) ∧
        (∀ i, (s.lane i).state = .green ∨ (s.lane i).state = .restGreen → s.limits.greenMin * 10 ≤ (s.lane i).age →
          (t.lane i).state = .amber ∧ (t.lane i).timer = some (s.limits.amberMin * 10) ∧ t.aspect i = some .red) ∧
        (∀ i, (s.lane i).state = .green ∨ (s.lane i).state = .restGreen → (s.lane i).age < s.limits.greenMin * 10 →
          t.lane i = { s.lane i with held := some .clear, restAwaits := false } ∧ t.aspect i = some .red) ∧
        (∀ i, (s.lane i).state = .red ∨ (s.lane i).state = .ready →
          t.lane i = { s.lane i with restAwaits := false } ∧ t.aspect i = none) ∧
        (∀ i, (s.lane i).state = .amber →
          t.lane i = { s.lane i with restAwaits := false } ∧ t.aspect i = some .red) ∧
        (∀ i, (s.lane i).state = .faulted → t.lane i = s.lane i) ∧
        (t.link .L).lastReply = ⟨0x43, tag, .accepted, []⟩ ∧ KeepsSite s t ∧ KeepsLink .C s t ∧
        t.rate.orders = s.rate.orders ∧ t.meter.requests = s.meter.requests ∧
        t.events = (s.post .modeChange 0 (5 * 256 + 9)).events) ∧
    (s.mode = .manual → exec (.enterManual .L tag []) s =
      .next (answered .L 0x43 tag .wrongState [] (received .L false s))) ∧
    (s.mode = .faultDark → exec (.enterManual .L tag []) s =
      .next (answered .L 0x43 tag .wrongMode [] (received .L false s)))) ∧
  (∀ (tag : Byte) (s : State), SteadyFrame .L false s → (s.link .L).state = .absent →
    exec (.enterManual .L tag []) s = .next (answered .L 0x43 tag .wrongState [] (received .L false s)))

/-- EXIT MANUAL in MANUAL, and CLEAR FAULT (meter) from a PRESENT Link L in FAULT_DARK with no conflict held, take the
meter to DARK: every lane OFF, every drive off and blanked anew with its watches CLEAR, the LIT watch comparing afresh at
once where lamp_blank is 0, no pending aspect and the beacon off. A start that stands, with the limits locked, the active
slot VALID and a lane in the lane set, then starts the meter at that moment, every lane fault having ended, with a second
MODE_CHANGE; the other lanes are OFF. In another mode both are
answered WRONG_MODE, a held conflict keeps FAULT_DARK with WRONG_STATE, and CLEAR FAULT (meter) is answered WRONG_STATE
while Link L is not PRESENT. -/
def Obligations.ManualAndFaultDarkEndInDark : Prop :=
  ∀ (tag : Byte) (s : State), SteadyFrame .L false s →
    let r := received .L false s
    let dark := fun (t : State) => t.mode = .dark ∧ t.meter.phase = .idle ∧ t.meter.hold = none ∧ t.meter.beacon = false ∧
      (∀ i, (t.lane i).state = .off ∧ t.aspect i = none) ∧
      (∀ k, t.drive k = ⟨false, (s.drive k).sensed, startBlank s.limits.lampBlank, .clear,
        if s.limits.lampBlank = 0 ∧ (s.drive k).sensed then .suspect 0 s.limits.lampDeglitch else .clear⟩) ∧
      t.rate.inForce = none ∧ t.sched.ring = [] ∧ KeepsSite s t ∧ KeepsLink .C s t ∧ t.rate.orders = s.rate.orders ∧ t.meter.requests = s.meter.requests
    let starts := s.locked = true ∧ StartStands s (fun i => enabled s i = true)
    let started := fun (p : List Byte) (t : State) => Started p (fun i => planEnables p i = true) t ∧
      (∀ i, planEnables p i = false → (t.lane i).state = .off) ∧ (∀ i, t.aspect i = none) ∧ t.meter.hold = none ∧
      t.rate.inForce = none ∧ t.sched.ring = [] ∧ KeepsSite s t ∧ KeepsLink .C s t ∧ t.meter.requests = s.meter.requests
    (∀ p, s.mode = .manual → s.plans.plan = some p → starts →
      ∃ t, exec (.exitManual .L tag []) s = .next t ∧ started p t ∧ (t.link .L).lastReply = ⟨0x46, tag, .accepted, []⟩ ∧
        t.events = ((s.post .modeChange 0 (0 * 256 + 10)).post .modeChange 0 (1 * 256 + 1)).events) ∧
    (∀ p, (s.link .L).state = .present → s.mode = .faultDark → conflictHeld s = false → s.plans.plan = some p → starts →
      (∀ i, (s.lane i).state = .off ∨ (s.lane i).state = .faulted) → (∀ i c, (s.drive (driveOf i c)).commanded = false) →
      ∃ t, exec (.clearFaultMeter .L tag []) s = .next t ∧ started p t ∧
        (t.link .L).lastReply = ⟨0x47, tag, .accepted, []⟩ ∧
        t.events = (((s.post .faultCleared 0 0).post .modeChange 0 (0 * 256 + 13)).post .modeChange 0
          (1 * 256 + 1)).events) ∧
    (s.mode = .manual → ¬ starts →
      ∃ t, exec (.exitManual .L tag []) s = .next t ∧ dark t ∧ (t.link .L).lastReply = ⟨0x46, tag, .accepted, []⟩ ∧
        t.events = (s.post .modeChange 0 (0 * 256 + 10)).events) ∧
    (s.mode ≠ .manual → exec (.exitManual .L tag []) s = .next (answered .L 0x46 tag .wrongMode [] r)) ∧
    ((s.link .L).state = .present → s.mode = .faultDark → conflictHeld s = false → ¬ starts →
      (∀ i, (s.lane i).state = .off ∨ (s.lane i).state = .faulted) → (∀ i c, (s.drive (driveOf i c)).commanded = false) →
      ∃ t, exec (.clearFaultMeter .L tag []) s = .next t ∧ dark t ∧
        (t.link .L).lastReply = ⟨0x47, tag, .accepted, []⟩ ∧
        t.events = ((s.post .faultCleared 0 0).post .modeChange 0 (0 * 256 + 13)).events) ∧
    ((s.link .L).state = .present → s.mode = .faultDark → conflictHeld s = true →
      exec (.clearFaultMeter .L tag []) s = .next (answered .L 0x47 tag .wrongState [] r)) ∧
    ((s.link .L).state = .present → s.mode ≠ .faultDark →
      exec (.clearFaultMeter .L tag []) s = .next (answered .L 0x47 tag .wrongMode [] r)) ∧
    ((s.link .L).state = .absent →
      exec (.clearFaultMeter .L tag []) s = .next (answered .L 0x47 tag .wrongState [] r))

/-- SET ASPECT in MANUAL on a lane that is not FAULTED: the new state of the lane, and the reply 0 APPLIED or 1
PENDING, as the pending-aspect table and the lane orders give them; the other lanes stay. In AMBER no aspect changes
where the running amber ends (R103; for OFF DEDUCED, log entry 15). On a FAULTED lane it is answered WRONG_STATE, in
another mode WRONG_MODE, with a lane byte outside 1 to 3 RANGE with field index 0, and with an aspect byte outside 0 to 2
RANGE with field index 1. SET BEACON in MANUAL sets the beacon command and its drive; in another mode it is answered
WRONG_MODE, and with a byte outside 0 to 1 RANGE with field index 0. -/
def Obligations.SetAspectAndSetBeacon : Prop :=
  ∀ (tag : Byte) (s : State), SteadyFrame .L false s →
    let r := received .L false s
    (∀ (i : Fin 3) (a : Aspect), s.mode = .manual → (s.lane i).state ≠ .faulted →
      let young := (s.lane i).age < s.limits.greenMin * 10
      let red : Lane := (s.lane i).toRed (s.limits.redMin * 10)
      let amber := fun off => (s.lane i).toAmber (s.limits.amberMin * 10) off
      ∃ t, exec (.setAspect .L tag [byte (i.val + 1), byte a.code]) s = .next t ∧ t.mode = .manual ∧
        (t.lane i, t.aspect i) =
          (match a, (s.lane i).state with
          | .red, .green | .red, .restGreen | .green, .restGreen =>
            if young then ({ s.lane i with held := some .clear }, some a) else (amber false, some a)
          | .off, .green | .off, .restGreen =>
            if young then ({ s.lane i with held := some .stop }, some a) else (amber true, some a)
          | .green, .green => (s.lane i, none)
          | .red, .amber | .green, .amber | .off, .amber => (s.lane i, some a)
          | .red, .red | .red, .ready => (s.lane i, none)
          | .green, .red => (s.lane i, some a)
          | .green, .ready => ((s.lane i).toGreen none, none)
          | .off, .red | .off, .ready => ((s.lane i).toOFF, none)
          | .off, .off => (s.lane i, none)
          | .red, .off => (red, none)
          | .green, .off => (red, some a)
          | _, .faulted => (s.lane i, s.aspect i)) ∧
        (∀ j, j ≠ i → t.lane j = s.lane j ∧ t.aspect j = s.aspect j) ∧
        (∀ c, (t.drive (driveOf i c)).commanded = commands (t.lane i).state c ∨ (t.lane i).state = (s.lane i).state) ∧
        (t.link .L).lastReply = ⟨0x44, tag, .accepted, [if (t.aspect i).isSome then 1 else 0]⟩ ∧ KeepsSite s t ∧
        KeepsLink .C s t ∧ t.rate = s.rate ∧ t.events = s.events) ∧
    (∀ (i : Fin 3) (a : Aspect),
      (s.mode ≠ .manual → exec (.setAspect .L tag [byte (i.val + 1), byte a.code]) s =
        .next (answered .L 0x44 tag .wrongMode [] r)) ∧
      (s.mode = .manual → (s.lane i).state = .faulted → exec (.setAspect .L tag [byte (i.val + 1), byte a.code]) s =
        .next (answered .L 0x44 tag .wrongState [] r))) ∧
    (∀ on : Bool,
      (s.mode = .manual → exec (.setBeacon .L tag [byte (flagCode on)]) s = .next (answered .L 0x45 tag .accepted []
        (({ r with meter := { s.meter with beacon := on } }).setDrive 9 ((s.drive 9).command s.limits on)))) ∧
      (s.mode ≠ .manual → exec (.setBeacon .L tag [byte (flagCode on)]) s =
        .next (answered .L 0x45 tag .wrongMode [] r))) ∧
    (∀ n b : Byte, n = 0 ∨ 3 < n.toNat →
      exec (.setAspect .L tag [n, b]) s = .next (answered .L 0x44 tag .range [0] r)) ∧
    (∀ (i : Fin 3) (b : Byte), 2 < b.toNat →
      exec (.setAspect .L tag [byte (i.val + 1), b]) s = .next (answered .L 0x44 tag .range [1] r)) ∧
    (∀ b : Byte, 1 < b.toNat → exec (.setBeacon .L tag [b]) s = .next (answered .L 0x45 tag .range [0] r))

/-! ### Intervals and records -/

/-- INTERVAL MARK on Link C: with mark_sync OFF it is answered WRONG_STATE; before interval_len - mark_tol it leaves
the interval open, posts MARK_EARLY and is answered EARLY with the unchanged number; from then on it closes the
interval, and the next interval has the number N at elapsed 0. With mark_sync ON a payload that is not 2 bytes long is
answered RANGE with field index 255. -/
def Obligations.IntervalMarkClosesOrIsEarly : Prop :=
  ∀ (tag : Byte) (n : Nat) (s : State), SteadyFrame .C false s → n < 65536 →
    let r := received .C false s
    (s.limits.markSync = false →
      exec (.intervalMark .C tag (be16 n)) s = .next (answered .C 0x30 tag .wrongState [] r)) ∧
    (s.limits.markSync = true → s.counter.elapsed < (s.limits.intervalLen - s.limits.markTol) * 100 →
      exec (.intervalMark .C tag (be16 n)) s = .next (answered .C 0x30 tag .accepted (1 :: be16 s.counter.number)
        (r.post .markEarly 0 n))) ∧
    (s.limits.markSync = true → (s.limits.intervalLen - s.limits.markTol) * 100 ≤ s.counter.elapsed →
      exec (.intervalMark .C tag (be16 n)) s =
        .next (answered .C 0x30 tag .accepted (0 :: be16 n) (closeInterval .mark n r)) ∧
      ∃ t, exec (.intervalMark .C tag (be16 n)) s = .next t ∧ t.counter.number = n ∧ t.counter.elapsed = 0 ∧
        (t.link .C).lastReply = ⟨0x30, tag, .accepted, 0 :: be16 n⟩ ∧
        (∃ w, t.counter.waiting = some w ∧ w.record.number = s.counter.number ∧ w.record.cause = .mark ∧
          w.record.duration = s.counter.elapsed ∧ w.record.next = n) ∧ t.limits = s.limits ∧ t.locked = s.locked) ∧
    (∀ payload, s.limits.markSync = true → payload.length ≠ 2 →
      exec (.intervalMark .C tag payload) s = .next (answered .C 0x30 tag .range [255] r))

/-- The close of an interval, TIMED at interval_len with mark_sync OFF, FREE_RUN at interval_len + mark_tol with it ON,
or by an accepted mark, from a state in which no record waits: the next interval has its number at elapsed 0, with
volumes, on-times and counts at 0. The waiting record holds the closing interval's number, cause, duration, mode, lane
entries and detector entries (one for each mapped input, ascending), O_m from its usable DOWNSTREAM entries, and slot,
rate, floor and spill as the close leaves them. The events begin with MARK_MISSED (FREE_RUN alone) and INTERVAL_CLOSED,
stamped with the closing interval, and the DET_RECOVERED of each chatter fault that ends; then a pending slot is applied
with PLAN_APPLIED in DARK or with the lane set of the plan in force, and stays pending otherwise. The order of the blocks
is DEDUCED (log entry 8) and that of the inputs the model's choice (log entry 32). A lane whose PASSAGE input a map write
took away within the interval shows the counts it had made, which is the model's choice (log entry 33). Before its time an expiry command
changes nothing, which is the model's choice (log entry 4). -/
def Obligations.ExpiriesCloseTheInterval : Prop :=
  (∀ (c : Instr) (cause : Cause) (next : Nat) (s : State), ClosesInterval c cause next s → s.counter.waiting = none →
    ∃ t w, exec c s = .next t ∧ t.counter.number = next ∧ t.counter.elapsed = 0 ∧
      t.counter.waiting = some w ∧ w.record.number = s.counter.number ∧ w.record.cause = cause ∧
      w.record.duration = s.counter.elapsed ∧ w.record.next = next ∧
      w.record.mode = s.mode ∧ w.record.slot = t.plans.active ∧ w.record.rate = t.rate.inForce ∧
      w.record.floorActive = t.rate.floorActive ∧ w.record.spillActive = t.rate.spillActive ∧
      w.record.lanes = [0, 1, 2].map (fun i => (⟨(s.lane i).state, (s.lane i).releases, (s.lane i).extras,
        (s.lane i).violations, (s.dfeLane i).substituted⟩ : LaneEntry)) ∧
      w.record.dets = (allInputs.filter fun d => (s.input d).entry.role != .unused).map (fun d =>
        (⟨d, (s.input d).entry.role, (s.input d).volume, occupancy (s.input d).onTime s.counter.elapsed,
          if (s.input d).seen then
            match (s.input d).entry.faultMode with
            | .ignore => .ok
            | .warn => .warn
            | .exclude => .excluded
          else .ok⟩ : DetEntry)) ∧
      (let usable := (w.record.dets.filter fun e => e.role == .downstream && e.health != .excluded).map DetEntry.occupancy
       w.record.om = if usable = [] then none else some ((2 * usable.sum + usable.length) / (2 * usable.length))) ∧
      (∀ d, (t.input d).volume = 0 ∧ (t.input d).onTime = 0 ∧ (t.input d).chatter = 0 ∧
        (t.input d).cond = (s.input d).cond ∧ (t.input d).seen = (t.input d).anyFault ∧
        (t.input d).faultStuck = (s.input d).faultStuck ∧ (t.input d).faultOff = (s.input d).faultOff ∧
        ((t.input d).faultChatter = true ↔
          (s.input d).faultChatter = true ∧ (s.input d).entry.chatterLimit < (s.input d).chatter)) ∧
      (∀ i, (t.lane i).releases = 0 ∧ (t.lane i).extras = 0 ∧ (t.lane i).violations = 0 ∧
        (t.dfeLane i).substituted = substitutionInForce t i) ∧
      (let applied := fun k => s.mode = .dark ∨ ∃ p, s.plans.plan = some p ∧ byteAt p 1 = byteAt (s.slot k).image 1
       EventsContinue (closePosts cause next s) t ∧
        (∀ k, s.plans.pendingSlot = some k → applied k →
          t.plans = { s.plans with plan := some (s.slot k).image, active := some k, pendingSlot := none } ∧
          EventsContinue ((closePosts cause next s).post .planApplied (k.val + 1) (word16At (s.slot k).image 2)) t) ∧
        ((∀ k, s.plans.pendingSlot = some k → ¬ applied k) → t.plans = s.plans)) ∧
      t.records = s.records ∧ t.limits = s.limits ∧ t.locked = s.locked ∧
      t.meter.requests = s.meter.requests ∧ t.rate.orders = s.rate.orders) ∧
  (∀ s : State,
    (s.limits.markSync = true ∨ s.counter.elapsed < s.limits.intervalLen * 100 →
      exec .intervalTimedExpiry s = .next s.judgeLines) ∧
    (s.limits.markSync = false ∨ s.counter.elapsed < (s.limits.intervalLen + s.limits.markTol) * 100 →
      exec .freeRunExpiry s = .next s.judgeLines))

/-- The rate computer and the mode controller at a close, TIMED, FREE_RUN or by a mark. The queue floor is judged against
the plan and the detector entries of the record, whether engaged or not. While engaged, with station occupancy O_m, the
stored feedback value becomes r_prev plus g (O_t - O_m) / 8 truncated toward zero, clamped to r_min and r_max; without
O_m it becomes r_fixed, with one RATE_FALLBACK for a run of such closes; the combine then puts its rate in force. While
not engaged the stored value and the rate stay. The run counts of automatic activation count on under AUTO with an
activation group and an O_m, and return to 0 otherwise; the close decides an automatic start in DARK and an automatic
stop in METERING by them. With no plan pending, the events of the close are those of the counter, the DET_RECOVERED
entries in ascending input number, the queue-floor event and RATE_FALLBACK, in that order: the order of the blocks is
DEDUCED (log entry 8) and that of the inputs the model's choice (log entry 32).
The floor: no plan, no queue group or no QUEUE input makes it inactive; every QUEUE input EXCLUDED makes it active; else
the greatest usable occupancy makes it active from q_on up, inactive from q_off down, and leaves it as it was between. -/
def Obligations.FeedbackAndQueueFloorAtAClose : Prop :=
  (∀ (c : Instr) (cause : Cause) (next : Nat) (s : State), ClosesInterval c cause next s → s.counter.waiting = none →
    ∃ t w, exec c s = .next t ∧ t.counter.waiting = some w ∧
      (let floor := judgedFloor t.plans.plan w.record.dets s.rate.floorActive
       t.rate.floorActive = floor.1 ∧
        (s.plans.pendingSlot = none → t.events =
          (((closePosts cause next s).postEach
            (if floor.1 = s.rate.floorActive then []
              else [(if floor.1 then .queueFloorOn else .queueFloorOff, 0, floor.2)])).postEach
            (if engaged s = true ∧ w.record.om = none ∧ s.rate.fallbackMark = false then
              (s.plans.plan.map fun p => (.rateFallback, 0, planRFixed p)).toList else [])).events)) ∧
      (∀ p, engaged s = true → t.plans.plan = some p →
        (let f := (feedbackAtClose w.record.om { s with plans := t.plans }).rate
         t.rate.rFb = f.rFb ∧ t.rate.basis = f.basis ∧ t.rate.fallbackMark = f.fallbackMark) ∧
        (let o := combineOut t.rate s.limits p (workingLanes t).length
         t.rate.inForce = some o ∧ t.rate.rPrev = o.rate ∧
          (s.rate.inForce.map RateOut.headway ≠ some o.headway → t.sched.headway = o.headway))) ∧
      (engaged s = false → t.rate.rFb = s.rate.rFb ∧ t.rate.basis = s.rate.basis ∧ t.rate.inForce = s.rate.inForce ∧
        t.rate.rPrev = s.rate.rPrev ∧ t.rate.fallbackMark = s.rate.fallbackMark) ∧
      (∀ p m, s.meter.resolved = .auto → t.plans.plan = some p → planActivationGroup p = true → w.record.om = some m →
        t.meter.onRun = (if planOnThr p ≤ m then min (s.meter.onRun + 1) 10 else 0) ∧
        t.meter.offRun = (if m ≤ planOffThr p then min (s.meter.offRun + 1) 10 else 0)) ∧
      (s.meter.resolved ≠ .auto ∨ hasActivation t = false ∨ w.record.om = none → t.meter.onRun = 0 ∧ t.meter.offRun = 0) ∧
      (w.autoStart = true ↔ s.meter.resolved = .auto ∧ s.mode = .dark ∧
        ∃ p, t.plans.plan = some p ∧ planActivationGroup p = true ∧ planOnCount p ≤ t.meter.onRun) ∧
      (w.autoStop = true ↔ s.meter.resolved = .auto ∧ s.mode = .metering ∧
        ∃ p, t.plans.plan = some p ∧ planActivationGroup p = true ∧ planOffCount p ≤ t.meter.offRun)) ∧
  (∀ (s : State) (p : List Byte), s.plans.plan = some p →
    (∀ m : Nat, (feedbackAtClose (some m) s).rate.basis = .feedback ∧
      (feedbackAtClose (some m) s).rate.fallbackMark = false ∧ (feedbackAtClose (some m) s).events = s.events ∧
      (planRMin p ≤ planRMax p →
        planRMin p ≤ (feedbackAtClose (some m) s).rate.rFb ∧ (feedbackAtClose (some m) s).rate.rFb ≤ planRMax p) ∧
      (∀ q : Nat, m ≤ planTarget p → 8 * q ≤ planGain p * (planTarget p - m) →
        planGain p * (planTarget p - m) < 8 * (q + 1) →
        (feedbackAtClose (some m) s).rate.rFb = max (planRMin p) (min (s.rate.rPrev + q) (planRMax p))) ∧
      (∀ q : Nat, planTarget p ≤ m → 8 * q ≤ planGain p * (m - planTarget p) →
        planGain p * (m - planTarget p) < 8 * (q + 1) →
        (feedbackAtClose (some m) s).rate.rFb = max (planRMin p) (min (s.rate.rPrev - q) (planRMax p)))) ∧
    (feedbackAtClose none s).rate.rFb = planRFixed p ∧ (feedbackAtClose none s).rate.basis = .fixed ∧
    (feedbackAtClose none s).rate.fallbackMark = true ∧
    (s.rate.fallbackMark = true → (feedbackAtClose none s).events = s.events) ∧
    (s.rate.fallbackMark = false →
      (feedbackAtClose none s).events = (s.post .rateFallback 0 (planRFixed p)).events)) ∧
  (∀ (p : List Byte) (dets : List DetEntry) (old : Bool),
    judgedFloor none dets old = (false, 65535) ∧
    (planQueueGroup p = false → judgedFloor (some p) dets old = (false, 65535)) ∧
    ((∀ e ∈ dets, e.role ≠ .queue) → judgedFloor (some p) dets old = (false, 65535)) ∧
    (planQueueGroup p = true → (∃ e ∈ dets, e.role = .queue) → (∀ e ∈ dets, e.role = .queue → e.health = .excluded) →
      judgedFloor (some p) dets old = (true, 65535)) ∧
    (∀ e ∈ dets, planQueueGroup p = true → e.role = .queue → e.health ≠ .excluded →
      (∀ f ∈ dets, f.role = .queue → f.health ≠ .excluded → f.occupancy ≤ e.occupancy) →
        judgedFloor (some p) dets old =
          (if planQOn p ≤ e.occupancy then true else if e.occupancy ≤ planQOff p then false else old, e.occupancy)))

/-- RECORD_PLACED puts a copy of the waiting record last into each link's queue, a queue that holds its depth losing
its oldest; with no automatic start or stop decided and no wish to act on, nothing else changes. While AUTO with an
activation group stands, an automatic start that the close decided takes DARK to STARTUP with cause AUTO_START if the
start conditions hold and changes nothing otherwise, and an automatic stop takes METERING or HOLD to SHUTDOWN with cause
AUTO_STOP. With no record waiting nothing changes. That the placing is a command of its own, which does nothing with no
record waiting, and that a start or stop is judged then against the request as it stands, are the model's choices (log
entries 4 and 19). -/
def Obligations.RecordPlacedAppendsToBothQueues : Prop :=
  (∀ s : State,
    (∀ w, s.counter.waiting = some w → (∀ l, 1 ≤ (s.link l).depth ∧ (s.records.get l).length ≤ (s.link l).depth) →
      ∃ t, exec .recordPlaced s = .next t ∧ t.counter = { s.counter with waiting := none } ∧
        (∀ l, ((s.records.get l).length < (s.link l).depth → t.records.get l = s.records.get l ++ [w.record]) ∧
          ((s.records.get l).length = (s.link l).depth → t.records.get l = (s.records.get l).tail ++ [w.record])) ∧
        (w.autoStart = false → w.autoStop = false → wanted s = .neither →
          t.meter = s.meter ∧ t.sched = s.sched ∧ t.drives = s.drives ∧ t.rate = s.rate ∧ t.events = s.events) ∧
        t.plans = s.plans ∧ t.limits = s.limits ∧ t.inputs = s.inputs) ∧
    (s.counter.waiting = none → exec .recordPlaced s = .next s.judgeLines)) ∧
  (∀ (w : Waiting) (p : List Byte) (s : State), s.counter.waiting = some w → s.meter.resolved = .auto →
    s.plans.plan = some p → planActivationGroup p = true →
    (w.autoStart = true → s.mode = .dark →
      let starts := s.locked = true ∧ (∃ k, s.plans.active = some k ∧ (s.slot k).status = .valid) ∧
        ∃ i, planEnables p i = true ∧ (s.lane i).state ≠ .faulted
      ∃ t, exec .recordPlaced s = .next t ∧
        (starts → t.mode = .startup ∧ t.meter.phase = .rest ∧ t.meter.seqTimer = planStartupGreen p * 100 ∧
          t.meter.beacon = true ∧ t.events = (s.post .modeChange 0 (1 * 256 + 2)).events) ∧
        (¬ starts → t.meter = s.meter ∧ t.sched = s.sched ∧ t.drives = s.drives ∧ t.events = s.events)) ∧
    (w.autoStart = false → w.autoStop = true → s.mode = .metering ∨ s.mode = .hold →
      ∃ t, exec .recordPlaced s = .next t ∧ t.mode = .shutdown ∧ t.meter.beacon = false ∧ t.meter.hold = none ∧
        t.rate.inForce = none ∧ t.sched.ring = [] ∧ t.events = (s.post .modeChange 0 (4 * 256 + 4)).events))

/-! ### Detectors and spill -/

/-- The filter of an input: a raw change that returns to the conditioned state drops the filter timer; one with a
filter time above 0 starts it; one with filter time 0, and a timer that has run out, give the conditioned edge at that
moment. An edge of an input of any role, in any mode, gives it the new conditioned state, drops its filter timer and
returns its stuck timer to 0; a rising edge adds one to its volume, up to 65535, and to its chatter count, up to 256; the
other inputs keep theirs, and their spill runs where runs and map agree (`RunsCount`, which every step keeps). On an input of role UNUSED outside METERING nothing else changes. On a mapped input with chatter detection running, the rising
edge that takes the chatter count past chatter_limit raises CHATTER with DET_FAULT and the fault-seen mark, and no other
edge does; on a lane's DEMAND input under EXCLUDE it brings the lane's demand substitution into force and sets the
lane's mark, and under WARN it does neither. A filter expiry whose timer has not run out changes nothing, which is the model's choice (log entry 4). -/
def Obligations.DetectorsFollowTheirFilters : Prop :=
  ∀ (d : Fin 16) (level : Bool) (s : State),
    let x := s.input d
    ((s.input d).raw = level → exec (.detectorRawChange d level) s = .next s.judgeLines) ∧
    (x.raw ≠ level → level = x.cond →
      exec (.detectorRawChange d level) s = .next (s.setInput d { x with raw := level, filter := none }).judgeLines) ∧
    (x.raw ≠ level → level ≠ x.cond → x.entry.filterTime level ≠ 0 →
      exec (.detectorRawChange d level) s =
        .next (s.setInput d { x with raw := level, filter := some (x.entry.filterTime level) }).judgeLines) ∧
    (x.raw ≠ level → level ≠ x.cond → x.entry.filterTime level = 0 →
      exec (.detectorRawChange d level) s = .next (edge d level (s.setInput d { x with raw := level, filter := none })).judgeLines) ∧
    (x.filter = some 0 → exec (.filterTimerExpiry d) s = .next (edge d x.raw s).judgeLines) ∧
    (x.filter ≠ some 0 → exec (.filterTimerExpiry d) s = .next s.judgeLines) ∧
    (let t := edge d level s
     (t.input d).cond = level ∧ (t.input d).filter = none ∧ (t.input d).stuck = 0 ∧
      (t.input d).volume = (if level then min (x.volume + 1) 65535 else x.volume) ∧
      (t.input d).chatter = (if level then min (x.chatter + 1) 256 else x.chatter) ∧
      (t.input d).raw = x.raw ∧ (t.input d).entry = x.entry ∧ (t.input d).onTime = x.onTime ∧
      (∀ e, e ≠ d → (t.input e).cond = (s.input e).cond ∧ (t.input e).raw = (s.input e).raw ∧
        (t.input e).filter = (s.input e).filter ∧ (t.input e).stuck = (s.input e).stuck ∧
        (t.input e).volume = (s.input e).volume ∧ (t.input e).chatter = (s.input e).chatter ∧
        (t.input e).entry = (s.input e).entry ∧ (t.input e).onTime = (s.input e).onTime ∧
        (RunsCount s → (t.input e).run = (s.input e).run)) ∧
      t.counter = s.counter ∧ t.records = s.records ∧ t.plans = s.plans ∧ t.limits = s.limits) ∧
    (x.entry.role = .unused → s.mode ≠ .metering → x.faultStuck = false →
      edge d true s = s.setInput d { x with
        cond := true, filter := none, stuck := 0, volume := min (x.volume + 1) 65535,
        chatter := min (x.chatter + 1) 256, run := none } ∧
      edge d false s = s.setInput d { x with cond := false, filter := none, stuck := 0, run := none }) ∧
    (let past := x.entry.role ≠ .unused ∧ x.entry.faultMode ≠ .ignore ∧ x.entry.chatterLimit ≠ 0 ∧
       x.chatter = x.entry.chatterLimit
     (((edge d true s).input d).faultChatter = true ↔ x.faultChatter = true ∨ past) ∧
      ((edge d false s).input d).faultChatter = x.faultChatter ∧
      (x.faultChatter = false → past → ((edge d true s).input d).seen = true ∧
        (x.entry.role ≠ .passage → x.entry.role ≠ .spillback → x.faultOff = false →
          (edge d true s).events =
            (s.post .detFault (d.val + 1) (2 * 256 + x.entry.faultMode.code)).events)) ∧
      (∀ i, demandInput s i = some d → x.faultChatter = false → past → x.faultStuck = false → x.faultOff = false →
        let t := edge d true s
        hasDemand t i = true ∧
          (x.entry.faultMode = .exclude → substitutionInForce t i = true ∧ (t.dfeLane i).substituted = true) ∧
          (x.entry.faultMode = .warn → substitutionInForce t i = false ∧
            (t.dfeLane i).substituted = (s.dfeLane i).substituted)))

/-- The class of a passage edge, by the lane's state and its counting window. A rising edge of a lane's PASSAGE input,
from its raw change or its filter timer, that raises no chatter fault and finds no pending release counts one release,
extra release or red violation of its lane, up to 255, and sends one passage notice: a release marks its window as one in
which a release has been counted, an extra release or a violation leaves the window, and the lane's other counts stay; with
a DEMAND input of the lane conditioned off the failed-off count rises, to 3 at most, and the notice that brings it to 3
raises FAILED_OFF where fault detection runs on that input and the fault is not present. A rising edge of the lane's DEMAND input returns the count to 0 and ends a failed-off fault with
DET_RECOVERED, cause INPUT. -/
def Obligations.PassagesAreClassedAndCounted : Prop :=
  (∀ (x : Lane) (counted : Bool) (left : Nat),
    let opened := if counted then PassageClass.extra else PassageClass.release
    ((x.state = .green ∨ x.state = .amber) → x.window = .opened counted → classify x = opened) ∧
    ((x.state = .red ∨ x.state = .ready) → x.window = .inGrace counted left → classify x = opened) ∧
    ((x.state = .red ∨ x.state = .ready) → x.window = .closed → x.sinceRest = none → classify x = .violation) ∧
    ((x.state = .red ∨ x.state = .ready) → x.window = .closed → x.sinceRest ≠ none → classify x = .uncounted) ∧
    (x.state = .amber → x.window = .closed → classify x = .uncounted) ∧
    ((x.state = .restGreen ∨ x.state = .off ∨ x.state = .faulted) → x.window = .closed → classify x = .uncounted)) ∧
  (∀ (i : Fin 3) (s : State),
    (classify (s.lane i) = .uncounted → passage i s = s) ∧
    (classify (s.lane i) ≠ .uncounted → demandInput s i = none →
      passage i s = s.setLane i ((s.lane i).pass (classify (s.lane i)))) ∧
    (∀ d, classify (s.lane i) ≠ .uncounted → demandInput s i = some d → (s.input d).cond = true →
      passage i s = s.setLane i ((s.lane i).pass (classify (s.lane i)))) ∧
    (∀ d, classify (s.lane i) ≠ .uncounted → demandInput s i = some d → (s.input d).cond = false →
      (s.dfeLane i).failedOff ≠ 2 ∨ (s.input d).detects = false ∨ (s.input d).faultOff = true →
      passage i s = (s.setLane i ((s.lane i).pass (classify (s.lane i)))).setDfeLane i
        { s.dfeLane i with failedOff := min ((s.dfeLane i).failedOff + 1) 3 }) ∧
    (∀ d, classify (s.lane i) ≠ .uncounted → demandInput s i = some d → (s.input d).cond = false →
      (s.dfeLane i).failedOff = 2 → (s.input d).detects = true → (s.input d).faultOff = false →
      ((passage i s).input d).faultOff = true ∧ ((passage i s).input d).seen = true ∧
        ((passage i s).dfeLane i).failedOff = 3 ∧ substitutionInForce (passage i s) i = true ∧
        ((passage i s).dfeLane i).substituted = true ∧ hasDemand (passage i s) i = true ∧
        (passage i s).events = (s.post .detFault (d.val + 1) (3 * 256 + (s.input d).entry.faultMode.code)).events) ∧
    (let x := s.lane i
     x.pass .release = { x with
        releases := min (x.releases + 1) 255
        window := match x.window with
          | .opened _ => .opened true
          | .inGrace _ left => .inGrace true left
          | .closed => .closed } ∧
      x.pass .extra = { x with extras := min (x.extras + 1) 255 } ∧
      x.pass .violation = { x with violations := min (x.violations + 1) 255 })) ∧
  (∀ (d : Fin 16) (i : Fin 3) (s : State),
    let x := s.input d
    let quiet := x.entry.faultMode = .ignore ∨ x.entry.chatterLimit = 0 ∨ x.faultChatter = true ∨
      x.chatter ≠ x.entry.chatterLimit
    let risen := fun raw => s.setInput d { x with
      raw := raw, cond := true, filter := none, stuck := 0, volume := min (x.volume + 1) 65535,
      chatter := min (x.chatter + 1) 256, run := none }
    (x.entry.role = .passage → x.entry.lane = some i → quiet →
      (s.mode ≠ .metering ∨ s.sched.releasePending = false) →
      (x.raw = false → x.cond = false → x.entry.onFilter = 0 →
        exec (.detectorRawChange d true) s = .next (passage i (risen true)).judgeLines) ∧
      (x.raw = true → x.filter = some 0 →
        exec (.filterTimerExpiry d) s = .next (passage i (risen true)).judgeLines)) ∧
    (x.entry.role = .demand → x.entry.lane = some i → quiet →
      x.raw = false → x.cond = false → x.entry.onFilter = 0 →
        ∃ t, exec (.detectorRawChange d true) s = .next t ∧ (t.dfeLane i).failedOff = 0 ∧
          (t.input d).faultOff = false ∧ (t.input d).cond = true ∧
          t.events = if x.faultOff then (s.post .detRecovered (d.val + 1) (3 * 256 + 1)).events else s.events))

/-- A stuck timer that reaches stuck_time on an input that is conditioned on, with stuck detection running and no
stuck-on fault present, raises STUCK with DET_FAULT and the fault-seen mark; otherwise the expiry changes nothing, which
is the model's choice (log entry 4). A SPILLBACK input under EXCLUDE that has had no fault is then excluded: its spill
run ends, and an active spill that no other input counts for becomes inactive with SPILL_OFF, detail 3, after the
DET_FAULT (that order: log entry 32). The next falling edge ends the fault with DET_RECOVERED, cause INPUT. On a lane's
DEMAND input the fault brings the lane's demand substitution into force and sets its mark, and the falling edge ends the
substitution where no other fault keeps it, with the mark kept. A substitution is in force exactly while the lane's DEMAND
input, under WARN or EXCLUDE, holds a failed-off or stuck-on fault, or under EXCLUDE a chatter fault; the lane has demand
exactly while it has no DEMAND input, or that input is on, or the substitution is in force. -/
def Obligations.StuckFaultsAreRaisedAndEndAtTheFallingEdge : Prop :=
  ∀ (d : Fin 16) (s : State),
    (stuckDue (s.input d) = true ↔ (s.input d).entry.role ≠ .unused ∧ (s.input d).entry.faultMode ≠ .ignore ∧
      (s.input d).entry.stuckTime ≠ 0 ∧ (s.input d).cond = true ∧ (s.input d).faultStuck = false ∧
      (s.input d).entry.stuckTime * 100 ≤ (s.input d).stuck) ∧
    (stuckDue (s.input d) = false → exec (.stuckTimerExpiry d) s = .next s.judgeLines) ∧
    (stuckDue (s.input d) = true →
      ∃ t, exec (.stuckTimerExpiry d) s = .next t ∧ (t.input d).faultStuck = true ∧ (t.input d).seen = true ∧
        (t.input d).stuck = (s.input d).stuck ∧ (t.input d).entry = (s.input d).entry ∧ (t.input d).cond = true ∧
        (∀ e, e ≠ d → t.input e = s.input e) ∧ t.plans = s.plans ∧ t.limits = s.limits ∧ t.counter = s.counter ∧
        t.records = s.records) ∧
    (stuckDue (s.input d) = true → (s.input d).entry.role ≠ .spillback → s.mode ≠ .metering →
      ∃ t, exec (.stuckTimerExpiry d) s = .next t ∧
        t.events = (s.post .detFault (d.val + 1) (1 * 256 + (s.input d).entry.faultMode.code)).events ∧
        t.sched = s.sched ∧ t.meter = s.meter ∧ t.rate = s.rate ∧ t.counter = s.counter ∧ t.plans = s.plans ∧
        t.drives = s.drives) ∧
    (∀ p, stuckDue (s.input d) = true → (s.input d).entry.role = .spillback → (s.input d).entry.faultMode = .exclude →
      (s.input d).anyFault = false → s.plans.plan = some p → planSpillGroup p = true →
      ∃ t, exec (.stuckTimerExpiry d) s = .next t ∧ (t.input d).run = none ∧
        (let posted := s.post .detFault (d.val + 1) (1 * 256 + 2)
         if s.rate.spillActive = true ∧ ∀ e, e ≠ d → (s.input e).run = none then
          t.rate.spillActive = false ∧ t.events = (posted.post .spillOff 0 3).events
        else EventsContinue posted t)) ∧
    ((s.input d).faultStuck = true →
      ((fallingEdge d s).input d).faultStuck = false ∧ ((fallingEdge d s).input d).cond = false ∧
        (fallingEdge d s).events = (s.post .detRecovered (d.val + 1) (1 * 256 + 1)).events) ∧
    (∀ i, demandInput s i = some d →
      let x := s.input d
      x.entry.role = .demand ∧ x.entry.lane = some i ∧
        (substitutionInForce s i = true ↔ x.entry.faultMode ≠ .ignore ∧
          (x.faultOff = true ∨ x.faultStuck = true ∨ x.faultChatter = true ∧ x.entry.faultMode = .exclude)) ∧
        (hasDemand s i = true ↔ x.cond = true ∨ substitutionInForce s i = true) ∧
        (stuckDue x = true →
          ∃ t, exec (.stuckTimerExpiry d) s = .next t ∧ substitutionInForce t i = true ∧
            (t.dfeLane i).substituted = true ∧ hasDemand t i = true) ∧
        (x.faultStuck = true →
          let t := fallingEdge d s
          (t.dfeLane i).substituted = (s.dfeLane i).substituted ∧ hasDemand t i = substitutionInForce t i ∧
            (substitutionInForce t i = true ↔ x.entry.faultMode ≠ .ignore ∧
              (x.faultOff = true ∨ x.faultChatter = true ∧ x.entry.faultMode = .exclude)))) ∧
    (∀ i, demandInput s i = none → substitutionInForce s i = false ∧ hasDemand s i = true)

/-- WRITE DETECTOR MAP from Link L in DARK or FAULT_DARK with a payload that passes its checks replaces all 16
entries: conditioned states, volumes and chatter counts are kept, every fault ends with DET_RECOVERED, cause MAP_WRITTEN,
input by input and kind by kind in ascending order, a running filter timer restarts with its new filter time, stuck
timers and failed-off counts return to 0, and the inputs that are then SPILLBACK have a spill run. A SPILL_OFF follows
those events (log entry 32). In another mode it is answered WRONG_MODE, with another length RANGE 255, and at the first
failing field RANGE with its offset, nothing changed. The checks pass exactly if every field is in its range and no role
has more inputs than it may; the first field out of range, in byte order, gives the index, and with none the first input
that is one too many. -/
def Obligations.WriteDetectorMapReplacesTheMap : Prop :=
  (∀ (tag : Byte) (p : List Byte) (s : State), SteadyFrame .L false s →
    let r := received .L false s
    ((s.mode = .dark ∨ s.mode = .faultDark) → p.length = 128 → firstFailure (mapChecks p) = none →
      ∃ t, exec (.writeDetectorMap .L tag p) s = .next t ∧ (t.link .L).lastReply = ⟨0x42, tag, .accepted, []⟩ ∧
        (∀ d : Fin 16, (t.input d).entry.role.code = byteAt p (8 * d.val) ∧
          ((t.input d).entry.lane.map fun i => i.val + 1).getD 0 = byteAt p (8 * d.val + 1) ∧
          (t.input d).entry.onFilter = byteAt p (8 * d.val + 2) ∧
          (t.input d).entry.offFilter = byteAt p (8 * d.val + 3) ∧
          (t.input d).entry.stuckTime = word16At p (8 * d.val + 4) ∧
          (t.input d).entry.chatterLimit = byteAt p (8 * d.val + 6) ∧
          (t.input d).entry.faultMode.code = byteAt p (8 * d.val + 7)) ∧
        (∀ d, (t.input d).cond = (s.input d).cond ∧ (t.input d).raw = (s.input d).raw ∧
          (t.input d).volume = (s.input d).volume ∧ (t.input d).onTime = (s.input d).onTime ∧
          (t.input d).chatter = (s.input d).chatter ∧ (t.input d).seen = (s.input d).seen ∧
          (t.input d).anyFault = false ∧ (t.input d).stuck = 0 ∧
          (t.input d).filter = (s.input d).filter.map (fun _ =>
            if (s.input d).raw then (t.input d).entry.onFilter else (t.input d).entry.offFilter) ∧
          ((t.input d).run.isSome = true ↔ (t.input d).entry.role = .spillback) ∧
          ((s.input d).anyFault = false → (t.input d).entry.role = .spillback →
            (t.input d).run = some ((s.input d).run.getD ⟨(s.input d).cond, 0⟩))) ∧
        (let ended := s.postEach ((allInputs.map fun d =>
           (if (s.input d).faultStuck then [(EventKind.detRecovered, d.val + 1, 1 * 256 + 2)] else []) ++
           (if (s.input d).faultChatter then [(EventKind.detRecovered, d.val + 1, 2 * 256 + 2)] else []) ++
           (if (s.input d).faultOff then [(EventKind.detRecovered, d.val + 1, 3 * 256 + 2)] else [])).flatten)
         EventsContinue ended t ∧ (s.rate.spillActive = false → t.events = ended.events)) ∧
        (∀ i, (t.dfeLane i).failedOff = 0) ∧ t.mode = s.mode ∧ t.counter = s.counter ∧ t.records = s.records ∧
        t.limits = s.limits ∧ t.plans = s.plans ∧ t.sched = s.sched ∧ t.drives = s.drives) ∧
    (s.mode ≠ .dark → s.mode ≠ .faultDark →
      exec (.writeDetectorMap .L tag p) s = .next (answered .L 0x42 tag .wrongMode [] r)) ∧
    ((s.mode = .dark ∨ s.mode = .faultDark) → p.length ≠ 128 →
      exec (.writeDetectorMap .L tag p) s = .next (answered .L 0x42 tag .range [255] r)) ∧
    (∀ k, (s.mode = .dark ∨ s.mode = .faultDark) → p.length = 128 → firstFailure (mapChecks p) = some k →
      exec (.writeDetectorMap .L tag p) s = .next (answered .L 0x42 tag .range [byte k] r))) ∧
  (∀ p : List Byte,
    (firstFailure (mapChecks p) = none ↔ (∀ d, ∀ j < 8, MapFieldOk p d j) ∧ ∀ d, MapTallyOk p d) ∧
    (∀ (d : Fin 16) (j : Nat), j < 8 → ¬ MapFieldOk p d j →
      (∀ (e : Fin 16) (n : Nat), n < 8 → 8 * e.val + n < 8 * d.val + j → MapFieldOk p e n) →
        firstFailure (mapChecks p) = some (8 * d.val + j)) ∧
    (∀ d : Fin 16, (∀ e, ∀ j < 8, MapFieldOk p e j) → ¬ MapTallyOk p d → (∀ e, e < d → MapTallyOk p e) →
      firstFailure (mapChecks p) = some (8 * d.val)))

/-- Spill becomes active with SPILL_ON, subject the lowest counting input whose on-run has reached spill_time, and
inactive with SPILL_OFF: detail 1 when every counting input has been off for spill_clear, 3 when none counts, and 2 with
no plan in force or a plan without a spill group. Each recombines the rate while engaged. In HOLD a SPILL_ON ends the
hold: HOLD_ENDED_SPILL with the owner and the input, then the MODE_CHANGE to METERING. An edge of a SPILLBACK input that
is not excluded starts its run anew from 0. A SPILL_ON or SPILL_OFF that is not due changes nothing, which is the model's
choice (log entry 4). -/
def Obligations.SpillIsTimedOnAndOff : Prop :=
  (∀ (s : State) (p : List Byte), s.plans.plan = some p → planSpillGroup p = true →
    (∀ d : Fin 16, s.rate.spillActive = false →
      (∃ x, (s.input d).run = some x ∧ x.on = true ∧ planSpillTime p * 100 ≤ x.time) →
      (∀ e x, e < d → (s.input e).run = some x → x.on = false ∨ x.time < planSpillTime p * 100) →
      let risen := ({ s with rate := { s.rate with spillActive := true } }).post .spillOn (d.val + 1) 0
      (s.mode ≠ .hold → exec .spillOn s = .next (recombine risen).judgeLines) ∧
      (∀ h, s.mode = .hold → s.meter.hold = some h →
        ∃ t, exec .spillOn s = .next t ∧ t.mode = .metering ∧ t.meter.hold = none ∧ t.rate.spillActive = true ∧
          t.rate = (recombine risen).rate ∧ t.events = ((risen.post .holdEndedSpill (linkNumber h.owner) (d.val + 1)).post
            .modeChange 0 (2 * 256 + 8)).events)) ∧
    ((∀ d x, (s.input d).run = some x → x.on = false ∨ x.time < planSpillTime p * 100) →
        exec .spillOn s = .next s.judgeLines) ∧
    (s.rate.spillActive = true → (∃ d, (s.input d).run ≠ none) →
      (∀ d x, (s.input d).run = some x → x.on = false ∧ planSpillClear p * 100 ≤ x.time) →
        exec .spillOff s = .next (recombine
          (({ s with rate := { s.rate with spillActive := false } }).post .spillOff 0 1)).judgeLines) ∧
    (∀ d x, (s.input d).run = some x →
      (x.on = true ∨ x.time < planSpillClear p * 100) → exec .spillOff s = .next s.judgeLines) ∧
    (s.rate.spillActive = true → (∀ d, (s.input d).run = none) →
      exec .spillOff s = .next (recombine
        (({ s with rate := { s.rate with spillActive := false } }).post .spillOff 0 3)).judgeLines)) ∧
  (∀ s : State, (∀ p, s.plans.plan = some p → planSpillGroup p = false) →
    exec .spillOn s = .next s.judgeLines ∧
    (s.rate.spillActive = true → exec .spillOff s = .next (recombine
      (({ s with rate := { s.rate with spillActive := false } }).post .spillOff 0 2)).judgeLines)) ∧
  (∀ s : State, (s.rate.spillActive = true → exec .spillOn s = .next s.judgeLines) ∧
    (s.rate.spillActive = false → exec .spillOff s = .next s.judgeLines)) ∧
  (∀ (d : Fin 16) (level : Bool) (s : State), (s.input d).entry.role = .spillback →
    ((s.input d).entry.faultMode ≠ .exclude ∨ (s.input d).anyFault = false ∧ (s.input d).entry.chatterLimit = 0) →
      ((edge d level s).input d).run = some ⟨level, 0⟩)

/-! ### Lanes, headway and sequences -/

/-- The release cycle in METERING and HOLD: a green whose timer runs out goes AMBER for plan amber, an amber without a
stop or rest order RED for plan red_min with the grace of an open window started, and a red READY; a working lane does the
same in SHUTDOWN, where no start stands. The lane's drives follow at the same moment, and no other
lane changes. A grace timer that has run out closes the window; a held clear or stop order whose green age has reached
green_min is carried out, in MANUAL with the site amber. In MANUAL an amber and a red that end bring the lane on toward
its pending aspect, and the aspect ends where the lane shows it (R103). In every mode, in another lane state or where its
timer has not run out, each expiry command changes nothing, which is the model's choice (log entry 4). -/
def Obligations.LaneTimersFollowTheCycle : Prop :=
  (∀ (i : Fin 3) (p : List Byte) (s : State), s.plans.plan = some p → s.mode = .metering ∨ s.mode = .hold →
    wanted s ≠ .stop →
    ((s.lane i).state = .green → (s.lane i).timer = some 0 → (s.lane i).held = none →
      exec (.greenTimerExpiry i) s =
        .next (enterLane i ((s.lane i).toAmber (planAmber p * 10) false) s).judgeLines) ∧
    ((s.lane i).state = .amber → (s.lane i).timer = some 0 → (s.lane i).toOff = false → (s.lane i).restAwaits = false →
      exec (.amberTimerExpiry i) s = .next (enterLane i ((s.lane i).toRed (planRedMin p * 10)) s).judgeLines) ∧
    ((s.lane i).state = .red → (s.lane i).timer = some 0 →
      exec (.redTimerExpiry i) s = .next (takePending (enterLane i (s.lane i).toReady s)).judgeLines)) ∧
  (∀ (i : Fin 3) (p : List Byte) (s : State), s.plans.plan = some p → s.mode = .shutdown → working s i = true →
    wanted s ≠ .start →
    ((s.lane i).state = .green → (s.lane i).timer = some 0 → (s.lane i).held = none →
      exec (.greenTimerExpiry i) s =
        .next (enterLane i ((s.lane i).toAmber (planAmber p * 10) false) s).judgeLines) ∧
    ((s.lane i).state = .amber → (s.lane i).timer = some 0 → (s.lane i).toOff = false → (s.lane i).restAwaits = false →
      exec (.amberTimerExpiry i) s = .next (enterLane i ((s.lane i).toRed (planRedMin p * 10)) s).judgeLines) ∧
    ((s.lane i).state = .red → (s.lane i).timer = some 0 →
      exec (.redTimerExpiry i) s = .next (enterLane i (s.lane i).toReady s).judgeLines)) ∧
  (∀ (i : Fin 3) (s : State),
    ((s.lane i).state ≠ .green ∨ (s.lane i).timer ≠ some 0 → exec (.greenTimerExpiry i) s = .next s.judgeLines) ∧
    ((s.lane i).state ≠ .amber ∨ (s.lane i).timer ≠ some 0 → exec (.amberTimerExpiry i) s = .next s.judgeLines) ∧
    ((s.lane i).state ≠ .red ∨ (s.lane i).timer ≠ some 0 → exec (.redTimerExpiry i) s = .next s.judgeLines) ∧
    (∀ c, (s.lane i).window = .inGrace c 0 →
      exec (.graceExpiry i) s = .next (s.setLane i { s.lane i with window := .closed }).judgeLines) ∧
    ((∀ c, (s.lane i).window ≠ .inGrace c 0) → exec (.graceExpiry i) s = .next s.judgeLines) ∧
    (∀ h, s.mode = .manual → (s.lane i).held = some h → ((s.lane i).state = .green ∨ (s.lane i).state = .restGreen) →
      s.limits.greenMin * 10 ≤ (s.lane i).age →
        ∃ t, exec (.greenMinReached i) s = .next t ∧
          t.lane i = (s.lane i).toAmber (s.limits.amberMin * 10) (h == .stop) ∧ t.aspect i = s.aspect i ∧
          (∀ j, j ≠ i → t.lane j = s.lane j) ∧ (t.drive (driveOf i .amber)).commanded = true ∧
          (t.drive (driveOf i .green)).commanded = false ∧ t.mode = .manual ∧ t.rate = s.rate ∧ t.events = s.events ∧
          KeepsSite s t ∧ KeepsLinks s t) ∧
    (∀ h p, (s.mode = .metering ∨ s.mode = .hold) ∧ h = .clear ∨
        s.mode = .startup ∧ s.meter.phase = .stopping ∧ h = .stop →
      (s.lane i).held = some h → ((s.lane i).state = .green ∨ (s.lane i).state = .restGreen) →
      s.limits.greenMin * 10 ≤ (s.lane i).age → s.plans.plan = some p →
        exec (.greenMinReached i) s =
          .next (enterLane i ((s.lane i).toAmber (planAmber p * 10) (h == .stop)) s).judgeLines) ∧
    ((s.lane i).held = none ∨ (s.lane i).age < s.limits.greenMin * 10 →
      exec (.greenMinReached i) s = .next s.judgeLines)) ∧
  (∀ (i : Fin 3) (s : State), s.mode = .manual → (s.lane i).timer = some 0 → (s.lane i).restAwaits = false →
    let red := fun (x : Lane) => x.toRed (s.limits.redMin * 10)
    let others := fun (t : State) => (∀ j, j ≠ i → t.lane j = s.lane j ∧ t.aspect j = s.aspect j) ∧ t.mode = .manual ∧
      t.rate = s.rate ∧ t.events = s.events ∧ KeepsSite s t ∧ KeepsLinks s t
    ((s.lane i).state = .amber →
      ∃ t, exec (.amberTimerExpiry i) s = .next t ∧ others t ∧
        (t.lane i, t.aspect i) = (match s.aspect i, (s.lane i).toOff with
          | none, false => (red (s.lane i), none)
          | none, true => ((s.lane i).toOFF, none)
          | some .red, false => (red (s.lane i), none)
          | some .red, true => (red (s.lane i).toOFF, none)
          | some .green, false => (red (s.lane i), some .green)
          | some .green, true => (red (s.lane i).toOFF, some .green)
          | some .off, false => ((red (s.lane i)).toOFF, none)
          | some .off, true => ((s.lane i).toOFF, none))) ∧
    ((s.lane i).state = .red →
      ∃ t, exec (.redTimerExpiry i) s = .next t ∧ others t ∧
        (t.lane i, t.aspect i) = (match s.aspect i with
          | some .green => ((s.lane i).toReady.toGreen none, none)
          | some .off => ((s.lane i).toReady.toOFF, none)
          | _ => ((s.lane i).toReady, none))))

/-- A lane's state commands exactly the drive of its colour, all three drives at one moment, and an AMBER, a RED and a
release GREEN hold their duration, counted from the onset. READY, REST_GREEN, OFF and FAULTED have no phase timer; a
GREEN opens the window, a RED starts the grace of 100 cs of an open one, an AMBER and a READY leave it, and REST_GREEN, OFF
and FAULTED close it; a GREEN and a REST_GREEN start their green age from 0, and every state keeps the lane's counts. OFF,
REST_GREEN, FAULTED and GREEN drop an awaited rest order and a held order; AMBER and RED drop a held order and keep an
awaited rest order; READY keeps all but the state and the timer, and that it keeps the duration and the green age is the
model's choice (log entry 25). A hand-over that changes a drive starts its
blanking: while it is blanked a SUSPECT watch returns to CLEAR and a LATCHED one stays LATCHED without a proof timer; with
lamp_blank 0 the same holds of the watch that the change makes irrelevant, and the other compares at once. A hand-over
that changes no command changes nothing of the drive. -/
def Obligations.EnteringALaneStateHandsOverItsDrives : Prop :=
  ∀ (i : Fin 3) (x : Lane) (s : State), s.mode ≠ .faultDark →
    (enterLane i x s).lane i = x ∧ (∀ j, j ≠ i → (enterLane i x s).lane j = s.lane j) ∧
    (∀ c, ((enterLane i x s).drive (driveOf i c)).commanded =
      decide ((c = .green ∧ (x.state = .green ∨ x.state = .restGreen)) ∨ (c = .amber ∧ x.state = .amber) ∨
        (c = .red ∧ (x.state = .red ∨ x.state = .ready)))) ∧
    (∀ c, (s.drive (driveOf i c)).commanded = commands x.state c →
      (enterLane i x s).drive (driveOf i c) = s.drive (driveOf i c)) ∧
    (∀ c, (s.drive (driveOf i c)).commanded ≠ commands x.state c →
      ((enterLane i x s).drive (driveOf i c)).blank = startBlank s.limits.lampBlank) ∧
    (∀ c, (s.drive (driveOf i c)).commanded ≠ commands x.state c →
      let old := s.drive (driveOf i c)
      let new := (enterLane i x s).drive (driveOf i c)
      let silenced := fun (w w' : WatchState) => (w = .clear → w' = .clear) ∧
        (∀ e m, w = .suspect e m → w' = .clear) ∧ (∀ proof, w = .latched proof → w' = .latched none)
      new.sensed = old.sensed ∧
        ((new.commanded = true ∨ s.limits.lampBlank ≠ 0) → silenced old.lit new.lit) ∧
        ((new.commanded = false ∨ s.limits.lampBlank ≠ 0) → silenced old.out new.out) ∧
        (new.commanded = true → s.limits.lampBlank = 0 →
          (old.out = .clear → new.out = if old.sensed then .clear else .suspect 0 s.limits.lampDeglitch) ∧
          (old.out = .latched none → new.out = .latched (if old.sensed then some (0, s.limits.lampDeglitch) else none))) ∧
        (new.commanded = false → s.limits.lampBlank = 0 →
          (old.lit = .clear → new.lit = if old.sensed then .suspect 0 s.limits.lampDeglitch else .clear) ∧
          (old.lit = .latched none → new.lit = .latched (if old.sensed then none else some (0, s.limits.lampDeglitch))))) ∧
    (∀ j c, j ≠ i → (enterLane i x s).drive (driveOf j c) = s.drive (driveOf j c)) ∧
    (enterLane i x s).drive 9 = s.drive 9 ∧ (enterLane i x s).inputs = s.inputs ∧ (enterLane i x s).meter = s.meter ∧
    (∀ n off, ((x.toAmber n off).state, (x.toAmber n off).timer, (x.toAmber n off).duration) = (.amber, some n, n)) ∧
    (∀ n, ((x.toRed n).state, (x.toRed n).timer, (x.toRed n).duration) = (.red, some n, n)) ∧
    (∀ n, ((x.toGreen (some n)).state, (x.toGreen (some n)).timer, (x.toGreen (some n)).age,
      (x.toGreen (some n)).window) = (.green, some n, 0, .opened false)) ∧
    ((x.toGreen none).state, (x.toGreen none).timer, (x.toGreen none).age, (x.toGreen none).window) =
      (.green, none, 0, .opened false) ∧
    (x.toReady = { x with state := .ready, timer := none }) ∧
    ((x.toRestGreen.state, x.toRestGreen.timer, x.toRestGreen.age, x.toRestGreen.window) = (.restGreen, none, 0, .closed)) ∧
    ((x.toOFF.state, x.toOFF.timer, x.toOFF.window) = (.off, none, .closed)) ∧
    ((x.toFaulted.state, x.toFaulted.timer, x.toFaulted.window) = (.faulted, none, .closed)) ∧
    (∀ n off, (x.toAmber n off).window = x.window ∧ (x.toAmber n off).toOff = off ∧ (x.toAmber n off).held = none ∧
      (x.toAmber n off).restAwaits = x.restAwaits ∧ (x.toRed n).restAwaits = x.restAwaits) ∧
    (∀ n, (∀ c, x.window = .opened c → (x.toRed n).window = .inGrace c 100) ∧
      (x.window = .closed → (x.toRed n).window = .closed) ∧ (x.toRed n).toOff = false ∧ (x.toRed n).held = none ∧
      (x.state = .amber → x.afterRest = true → (x.toRed n).sinceRest = some 0)) ∧
    (∀ y ∈ [x.toOFF, x.toRestGreen, x.toFaulted, x.toGreen none],
      y.held = none ∧ y.restAwaits = false ∧ y.toOff = false) ∧
    (∀ n off, ∀ y ∈ [x.toOFF, x.toRestGreen, x.toFaulted, x.toReady, x.toRed n, x.toAmber n off, x.toGreen (some n),
        x.toGreen none],
      y.releases = x.releases ∧ y.extras = x.extras ∧ y.violations = x.violations)

/-- When a lane is chosen for a release it goes GREEN for plan g_rel, is removed from its place in the ring and
appended at the tail, the other lanes keeping their order, and the headway timer restarts from 0. At an expiry of the
headway timer the release goes to the first lane of the ring that is READY with demand; one that no lane can take becomes
pending. A HEADWAY_EXPIRY before the timer has expired, or with a release pending, changes nothing, which is the model's
choice (log entry 4). A pending release is taken so at the end of a minimum red, when the DEMAND input of a READY lane comes
on, at a raw change or a filter expiry, and when a failed-off fault raised by a passage of a READY lane gives it demand. A
recombination that changes H in METERING leaves a pending flag set and the timer alone; with none pending it makes a
release due at once where the elapsed time is at or beyond the new H, and else the timer runs on to it. -/
def Obligations.AReleaseGoesToTheFirstReadyLaneWithDemand : Prop :=
  ∀ (s : State) (p : List Byte), s.mode = .metering → s.plans.plan = some p →
    let can := fun (s : State) (j : Fin 3) => (s.lane j).state = .ready ∧ hasDemand s j = true
    let taken := fun (s : State) (i : Fin 3) (ring : List (Fin 3)) =>
      { enterLane i ((s.lane i).toGreen (some (planGRel p * 10))) s with
        sched := { (s.setLane i ((s.lane i).toGreen (some (planGRel p * 10)))).sched with
          ring := ring, elapsed := 0, releasePending := false } }
    (s.sched.releasePending = false → s.sched.headway ≤ s.sched.elapsed →
      (∀ (front back : List (Fin 3)) (i : Fin 3), s.sched.ring = front ++ i :: back → (∀ j ∈ front, ¬ can s j) →
        can s i → exec .headwayExpiry s = .next (taken s i (front ++ back ++ [i])).judgeLines) ∧
      ((∀ j ∈ s.sched.ring, ¬ can s j) →
        exec .headwayExpiry s = .next ({ s with sched := { s.sched with releasePending := true } }).judgeLines)) ∧
    (s.sched.releasePending = true ∨ s.sched.elapsed < s.sched.headway →
      exec .headwayExpiry s = .next s.judgeLines) ∧
    (s.sched.releasePending = true → ∀ i, (s.lane i).state = .red → (s.lane i).timer = some 0 →
      let r := enterLane i (s.lane i).toReady s
      wanted s ≠ .stop →
      (∀ (front back : List (Fin 3)) (j : Fin 3), s.sched.ring = front ++ j :: back → (∀ k ∈ front, ¬ can r k) →
        can r j → exec (.redTimerExpiry i) s = .next (taken r j (front ++ back ++ [j])).judgeLines) ∧
      ((∀ j ∈ s.sched.ring, ¬ can r j) → exec (.redTimerExpiry i) s = .next r.judgeLines)) ∧
    (∀ (e d : Fin 16) (i : Fin 3) (front back : List (Fin 3)), s.sched.releasePending = true →
      demandInput s i = some d → (s.input d).cond = false → (s.dfeLane i).failedOff = 2 → (s.input d).detects = true →
      (s.input d).faultOff = false → (s.input e).entry.role = .passage → (s.input e).entry.lane = some i →
      (s.input e).raw = false → (s.input e).cond = false → (s.input e).entry.onFilter = 0 →
      s.sched.ring = front ++ i :: back → (∀ j ∈ front, j ≠ i ∧ ¬ can s j) → (s.lane i).state = .ready →
      classify (s.lane i) ≠ .uncounted →
        ∃ t, exec (.detectorRawChange e true) s = .next t ∧ (t.input d).faultOff = true ∧
          t.lane i = ((s.lane i).pass (classify (s.lane i))).toGreen (some (planGRel p * 10)) ∧
          (∀ j, j ≠ i → t.lane j = s.lane j) ∧ t.sched.ring = front ++ back ++ [i] ∧ t.sched.elapsed = 0 ∧
          t.sched.releasePending = false ∧ t.sched.headway = s.sched.headway ∧ t.meter = s.meter) ∧
    (∀ (c : Instr) (d : Fin 16) (i : Fin 3) (front back : List (Fin 3)), s.sched.releasePending = true →
      (c = .detectorRawChange d true ∧ (s.input d).raw = false ∧ (s.input d).entry.onFilter = 0 ∨
        c = .filterTimerExpiry d ∧ (s.input d).raw = true ∧ (s.input d).filter = some 0) →
      demandInput s i = some d → (s.input d).cond = false →
      s.sched.ring = front ++ i :: back → (∀ j ∈ front, j ≠ i ∧ ¬ can s j) → (s.lane i).state = .ready →
        ∃ t, exec c s = .next t ∧
          t.lane i = (s.lane i).toGreen (some (planGRel p * 10)) ∧ (∀ j, j ≠ i → t.lane j = s.lane j) ∧
          t.sched.ring = front ++ back ++ [i] ∧ t.sched.elapsed = 0 ∧ t.sched.releasePending = false ∧
          t.sched.headway = s.sched.headway ∧ t.meter = s.meter ∧ t.rate = s.rate) ∧
    (let o := combineOut s.rate s.limits p (workingLanes s).length
     s.rate.inForce.map RateOut.headway ≠ some o.headway →
      let r : State := { s with
        rate := { s.rate with inForce := some o, rPrev := o.rate }, sched := { s.sched with headway := o.headway } }
      (s.sched.releasePending = true ∨ s.sched.elapsed < o.headway → recombine s = r) ∧
      (s.sched.releasePending = false → o.headway ≤ s.sched.elapsed →
        (∀ (front back : List (Fin 3)) (i : Fin 3), s.sched.ring = front ++ i :: back → (∀ j ∈ front, ¬ can s j) →
          can s i → recombine s = taken r i (front ++ back ++ [i])) ∧
        ((∀ j ∈ s.sched.ring, ¬ can s j) →
          recombine s = { r with sched := { r.sched with releasePending := true } })))

/-- The orders outside the release cycle: what each of rest, clear, stop, go and cut makes of a lane in each state, a
clear or a stop given to a green below green_min being held; a FAULTED lane takes none. A rest order to a lane that rests
keeps the rest, and it, like a go order outside READY, discards a held order: for the rest order DEDUCED (log entry 17). -/
def Obligations.LaneOrdersFollowTheTable : Prop :=
  ∀ (i : Fin 3) (s : State),
    let x := s.lane i
    let green := x.state = .restGreen ∨ x.state = .green
    let young := x.age < s.limits.greenMin * 10
    ((x.state = .off ∨ x.state = .red ∨ x.state = .ready) → (orderRest i s).lane i = x.toRestGreen) ∧
    ((x.state = .green ∨ x.state = .amber) → (orderRest i s).lane i = { x with held := none, restAwaits := true }) ∧
    (x.state = .restGreen → (orderRest i s).lane i = { x with held := none }) ∧
    (green → young → (orderClear i s).lane i = { x with held := some .clear } ∧
      (orderStop i s).lane i = { x with held := some .stop }) ∧
    (green → ¬ young → (orderClear i s).lane i = x.toAmber (amberTime s) false ∧
      (orderStop i s).lane i = x.toAmber (amberTime s) true) ∧
    (x.state = .off → (orderClear i s).lane i = x.toRed (redTime s)) ∧
    ((x.state = .amber ∨ x.state = .red ∨ x.state = .ready) → orderClear i s = s) ∧
    (x.state = .amber → (orderStop i s).lane i = { x with toOff := true }) ∧
    ((x.state = .red ∨ x.state = .ready ∨ x.state = .off) → (orderStop i s).lane i = x.toOFF) ∧
    (x.state = .ready → (orderGo i s).lane i = x.toGreen none) ∧
    (x.state ≠ .ready → x.state ≠ .faulted → (orderGo i s).lane i = { x with held := none }) ∧
    (x.state ≠ .faulted → (orderCut i s).lane i = x.toOFF ∧ ((orderCut i s).lane i).state = .off) ∧
    (x.state = .faulted → orderRest i s = s ∧ orderClear i s = s ∧ orderStop i s = s ∧ orderGo i s = s ∧ orderCut i s = s) ∧
    (∀ order ∈ [orderRest, orderClear, orderStop, orderGo, orderCut], ∀ j, j ≠ i → (order i s).lane j = s.lane j)

/-- The end of a startup rest clears the resting lanes and sets phase CLEARING; the end of the last clearance amber
enters METERING with r_fixed as the stored feedback value, the ring formed and the headway timer from 0; the end of a
shutdown rest turns every lane off and enters DARK, and the end of the last amber of an interrupted startup enters DARK
with cause STOP. An amber of CLEARING that is not the last ends in RED with the phase as it was. In SHUTDOWN an amber whose
lane's rest order awaits its red ends in REST_GREEN, and where every other working lane rests phase FINISHING becomes
RESTING with the plan's shutdown_green on its timer. A start that stands at either entry to DARK, with the limits locked,
the active slot VALID and a lane in the lane set, starts the meter afresh at that moment, with a second MODE_CHANGE. Before a rest has run out its expiry command changes nothing, which is the model's choice (log entry
4). -/
def Obligations.SequencesAdvanceWithTheirTimers : Prop :=
  ∀ (s : State) (p : List Byte), s.plans.plan = some p →
    let starts := s.locked = true ∧ StartStands s (fun i => enabled s i = true)
    let started := fun (cause : Nat) (t : State) => Started p (fun i => planEnables p i = true) t ∧
      (∀ i, planEnables p i = false → (t.lane i).state = .off) ∧ t.rate.inForce = none ∧ KeepsSite s t ∧ KeepsLinks s t ∧
      t.events = ((s.post .modeChange 0 (0 * 256 + cause)).post .modeChange 0 (1 * 256 + 1)).events
    (s.mode = .startup → s.meter.phase = .rest → s.meter.seqTimer = 0 →
      (∀ i, (s.lane i).state = .restGreen → s.limits.greenMin * 10 ≤ (s.lane i).age) →
        ∃ t, exec .startupRestExpiry s = .next t ∧ t.mode = .startup ∧ t.meter.phase = .clearing ∧
          (∀ i, (s.lane i).state = .restGreen → t.lane i = (s.lane i).toAmber (planAmber p * 10) false ∧
            (t.drive (driveOf i .amber)).commanded = true ∧ (t.drive (driveOf i .green)).commanded = false) ∧
          (∀ i, (s.lane i).state ≠ .restGreen → t.lane i = s.lane i) ∧ t.meter.beacon = s.meter.beacon ∧
          t.rate = s.rate ∧ t.events = s.events ∧ KeepsSite s t ∧ KeepsLinks s t) ∧
    (s.mode = .shutdown → s.meter.phase = .resting → s.meter.seqTimer = 0 → starts →
      (∀ i, (s.lane i).state = .restGreen ∨ (s.lane i).state = .off ∨ (s.lane i).state = .faulted) →
        ∃ t, exec .shutdownRestExpiry s = .next t ∧ started 5 t) ∧
    (s.mode = .shutdown → s.meter.phase = .resting → s.meter.seqTimer = 0 → ¬ starts →
      (∀ i, (s.lane i).state = .restGreen ∨ (s.lane i).state = .off ∨ (s.lane i).state = .faulted) →
        ∃ t, exec .shutdownRestExpiry s = .next t ∧ t.mode = .dark ∧ t.meter.phase = .idle ∧
          (∀ i, (t.lane i).state = .off) ∧ t.meter.beacon = false ∧ (t.drive 9).commanded = false ∧
          (∀ i, (s.lane i).state = .restGreen → ∀ c, (t.drive (driveOf i c)).commanded = false) ∧
          t.rate.inForce = none ∧ KeepsSite s t ∧ KeepsLinks s t ∧
          t.events = (s.post .modeChange 0 (0 * 256 + 5)).events) ∧
    (s.meter.seqTimer ≠ 0 → exec .startupRestExpiry s = .next s.judgeLines ∧ exec .shutdownRestExpiry s = .next s.judgeLines) ∧
    (∀ i, s.mode = .startup → s.meter.phase = .clearing → planEnables p i = true → (s.lane i).state = .amber →
      (s.lane i).timer = some 0 → (s.lane i).toOff = false → (s.lane i).restAwaits = false →
      (∀ j, j ≠ i → working s j = true → (s.lane j).state = .red ∨ (s.lane j).state = .ready) → wanted s ≠ .stop →
      let r := { s.rate with rFb := planRFixed p, basis := .fixed, fallbackMark := false }
      let o := combineOut r s.limits p (workingLanes s).length
      1 ≤ o.headway →
        ∃ t, exec (.amberTimerExpiry i) s = .next t ∧ t.mode = .metering ∧ t.meter.phase = .idle ∧
          t.meter.beacon = s.meter.beacon ∧ t.lane i = (s.lane i).toRed (planRedMin p * 10) ∧
          (∀ j, j ≠ i → t.lane j = s.lane j) ∧ t.sched.ring = workingLanes s ∧ t.sched.elapsed = 0 ∧
          t.sched.headway = o.headway ∧ t.sched.releasePending = false ∧
          t.rate = { r with inForce := some o, rPrev := o.rate } ∧
          t.events = (s.post .modeChange 0 (2 * 256 + 5)).events ∧ KeepsSite s t ∧ KeepsLinks s t) ∧
    (∀ i, s.mode = .startup → s.meter.phase = .stopping → (s.lane i).state = .amber → (s.lane i).timer = some 0 →
      (s.lane i).toOff = true →
      (starts → (∀ j, j ≠ i → (s.lane j).state = .off ∨ (s.lane j).state = .faulted) →
        ∃ t, exec (.amberTimerExpiry i) s = .next t ∧ started 3 t) ∧
      (¬ starts → (∀ j, j ≠ i → (s.lane j).state = .off ∨ (s.lane j).state = .faulted) →
        ∃ t, exec (.amberTimerExpiry i) s = .next t ∧ t.mode = .dark ∧ t.meter.phase = .idle ∧ t.meter.beacon = false ∧
          (∀ j, (t.lane j).state = .off) ∧ t.events = (s.post .modeChange 0 (0 * 256 + 3)).events ∧ KeepsSite s t ∧
          KeepsLinks s t) ∧
      ((∃ j, j ≠ i ∧ (s.lane j).state ≠ .off ∧ (s.lane j).state ≠ .faulted) →
        exec (.amberTimerExpiry i) s = .next (enterLane i (s.lane i).toOFF s).judgeLines)) ∧
    (∀ i, s.mode = .startup → s.meter.phase = .clearing → planEnables p i = true → (s.lane i).state = .amber →
      (s.lane i).timer = some 0 → (s.lane i).toOff = false → (s.lane i).restAwaits = false → wanted s ≠ .stop →
      (∃ j, j ≠ i ∧ working s j = true ∧ (s.lane j).state ≠ .red ∧ (s.lane j).state ≠ .ready) →
        exec (.amberTimerExpiry i) s = .next (enterLane i ((s.lane i).toRed (planRedMin p * 10)) s).judgeLines) ∧
    (∀ i, s.mode = .shutdown → working s i = true → (s.lane i).state = .amber → (s.lane i).timer = some 0 →
      (s.lane i).toOff = false → (s.lane i).restAwaits = true → wanted s ≠ .start →
      let last := s.meter.phase = .finishing ∧ ∀ j, j ≠ i → working s j = true → (s.lane j).state = .restGreen
        ∃ t, exec (.amberTimerExpiry i) s = .next t ∧ t.mode = .shutdown ∧
          t.lane i = ((s.lane i).toRed (planRedMin p * 10)).toRestGreen ∧ (∀ j, j ≠ i → t.lane j = s.lane j) ∧
          (∀ c, (t.drive (driveOf i c)).commanded = decide (c = .green)) ∧ t.meter.beacon = s.meter.beacon ∧
          (last → t.meter.phase = .resting ∧ t.meter.seqTimer = planShutdownGreen p * 100) ∧
          (¬ last → t.meter = s.meter) ∧ t.sched.ring = s.sched.ring ∧ t.rate = s.rate ∧ t.events = s.events ∧
          KeepsSite s t ∧ KeepsLinks s t)

/-! ### Lamp proving -/

/-- A watch under a sense change, the end of blanking and a proof expiry: disagreement makes a comparing CLEAR watch
SUSPECT with its timer at 0, agreement returns a SUSPECT one to CLEAR and starts the proof of a LATCHED one, disagreement
drops a proof that runs, a blanked drive compares nothing, and a proof that has run returns the watch to CLEAR without an event. At the end of blanking the
watch that the command makes relevant compares with the sensed state at that moment, CLEAR or LATCHED, and the other stays
as it was. Nothing but the drive changes. A blanking or proof expiry whose timer has not run out changes nothing, which is the model's choice (log entry
4). -/
def Obligations.WatchesFollowTheSense : Prop :=
  ∀ (k : Fin 10) (lit : Bool) (s : State),
    let dg := s.limits.lampDeglitch
    (∃ x, exec (.lampSenseChange k lit) s = .next (s.setDrive k x).judgeLines ∧ x.sensed = lit ∧
      x.commanded = (s.drive k).commanded ∧ x.blank = (s.drive k).blank ∧
      ((s.drive k).blank = none → (s.drive k).commanded = true →
        ((s.drive k).out = .clear → x.out = if lit then .clear else .suspect 0 dg) ∧
        (∀ e m, (s.drive k).out = .suspect e m → x.out = if lit then .clear else .suspect e m) ∧
        ((s.drive k).out = .latched none → x.out = .latched (if lit then some (0, dg) else none)) ∧
        (∀ e m, (s.drive k).out = .latched (some (e, m)) → x.out = .latched (if lit then some (e, m) else none))) ∧
      ((s.drive k).blank = none → (s.drive k).commanded = false →
        ((s.drive k).lit = .clear → x.lit = if lit then .suspect 0 dg else .clear) ∧
        (∀ e m, (s.drive k).lit = .suspect e m → x.lit = if lit then .suspect e m else .clear) ∧
        ((s.drive k).lit = .latched none → x.lit = .latched (if lit then none else some (0, dg))) ∧
        (∀ e m, (s.drive k).lit = .latched (some (e, m)) → x.lit = .latched (if lit then none else some (e, m)))) ∧
      ((s.drive k).blank ≠ none →
        ((s.drive k).out = .clear ∨ (s.drive k).out = .latched none → x.out = (s.drive k).out) ∧
        ((s.drive k).lit = .clear ∨ (s.drive k).lit = .latched none → x.lit = (s.drive k).lit))) ∧
    ((s.drive k).blank = some 0 →
      ∃ x, exec (.blankingExpiry k) s = .next (s.setDrive k x).judgeLines ∧ x.blank = none ∧
        x.commanded = (s.drive k).commanded ∧ x.sensed = (s.drive k).sensed ∧
        ((s.drive k).out = .clear →
          x.out = if (s.drive k).commanded ∧ ¬(s.drive k).sensed then .suspect 0 dg else .clear) ∧
        ((s.drive k).lit = .clear →
          x.lit = if ¬(s.drive k).commanded ∧ (s.drive k).sensed then .suspect 0 dg else .clear) ∧
        ((s.drive k).out = .latched none →
          x.out = .latched (if (s.drive k).commanded ∧ (s.drive k).sensed then some (0, dg) else none)) ∧
        ((s.drive k).lit = .latched none →
          x.lit = .latched (if ¬(s.drive k).commanded ∧ ¬(s.drive k).sensed then some (0, dg) else none))) ∧
    ((s.drive k).blank ≠ some 0 → exec (.blankingExpiry k) s = .next s.judgeLines) ∧
    (∀ w e m, (s.drive k).watch w = .latched (some (e, m)) → m ≤ e →
      exec (.proofExpiry k w) s = .next (s.setDrive k ((s.drive k).setWatch w .clear)).judgeLines) ∧
    (∀ w, ((s.drive k).watch w = .clear ∨ (s.drive k).watch w = .latched none) →
      exec (.proofExpiry k w) s = .next s.judgeLines) ∧
    (∀ w e m, (s.drive k).watch w = .suspect e m → exec (.proofExpiry k w) s = .next s.judgeLines) ∧
    (∀ w e m, (s.drive k).watch w = .latched (some (e, m)) → e < m → exec (.proofExpiry k w) s = .next s.judgeLines)

/-- A SUSPECT watch whose deglitch time has run latches and takes its consequence: on the beacon LAMP_WARN alone; on a
green that is lit while off METER_FAULT cause CONFLICT, and on a red out under red_scope ALL cause RED_OUT, with the
meter in FAULT_DARK and every drive off; on an amber out under amber_mode WARN LAMP_WARN alone; else a lane fault,
which in MANUAL makes the lane FAULTED with LANE_FAULT. A lane fault in METERING or HOLD that leaves another lane of
the lane set working, with no stop standing: LANE_FAULT is posted first, the lane becomes FAULTED and leaves the ring,
and the rate recombines with the lanes left. In STARTUP and SHUTDOWN the sequence goes on with the lanes left: a clearance
that only the faulted lane kept open ends in METERING, an interrupted startup that it alone kept lit ends in DARK, from which
a standing start starts the meter afresh, and a shutdown whose other lanes all rest begins its rest time. In those four modes a fault that leaves no lane of the lane set
working is a meter fault, cause NO_LANE; that it is judged before the sequence, in STARTUP, phase STOPPING, too, is DEDUCED
(log entry 11). In DARK and FAULT_DARK the lane becomes FAULTED and the mode stays. On a lane that
is already FAULTED, LANE_FAULT alone is posted. A deglitch expiry whose time has not run changes nothing, which is the model's choice (log entry 4). -/
def Obligations.LatchedMismatchesTakeTheirConsequence : Prop :=
  (∀ (k : Fin 10) (w : WatchKind) (e m : Nat) (s : State), (s.drive k).watch w = .suspect e m →
    let latched := s.setDrive k ((s.drive k).setWatch w (.latched none))
    (m ≤ e → k = 9 → exec (.deglitchExpiry k w) s =
      .next (latched.post .lampWarn 0 (4 * 256 + watchCode w)).judgeLines) ∧
    (∀ i, m ≤ e → k = driveOf i .amber → w = .out → s.limits.amberMode = .warn →
      exec (.deglitchExpiry k w) s = .next (latched.post .lampWarn (i.val + 1) (2 * 256 + 1)).judgeLines) ∧
    (∀ (i : Fin 3) (cause : Nat), m ≤ e → s.mode ≠ .faultDark →
      (k = driveOf i .green ∧ w = .lit ∧ cause = 1 ∨
        k = driveOf i .red ∧ w = .out ∧ s.limits.redScope = .all ∧ cause = 2) →
        ∃ t, exec (.deglitchExpiry k w) s = .next t ∧ t.mode = .faultDark ∧ t.meter.phase = .idle ∧
          t.meter.hold = none ∧ t.meter.beacon = false ∧ (∀ j, (t.drive j).commanded = false) ∧
          (∀ j, (s.lane j).state ≠ .faulted → (t.lane j).state = .off) ∧
          (∀ j, (s.lane j).state = .faulted → t.lane j = s.lane j) ∧ t.rate.inForce = none ∧ t.sched.ring = [] ∧
          t.events = ((s.post .meterFault (i.val + 1) (cause * 256)).post .modeChange 0 (6 * 256 + 12)).events ∧
          KeepsSite s t ∧ KeepsLinks s t ∧ t.meter.requests = s.meter.requests ∧ t.rate.orders = s.rate.orders) ∧
    (∀ (i : Fin 3) (c : Colour), m ≤ e → s.mode = .manual → (s.lane i).state ≠ .faulted → k = driveOf i c →
      (c = .green ∧ w = .out ∨ c = .red ∧ w = .lit ∨ c = .amber ∧ w = .lit ∨
        c = .red ∧ w = .out ∧ s.limits.redScope = .lane ∨ c = .amber ∧ w = .out ∧ s.limits.amberMode = .fault) →
        ∃ t, exec (.deglitchExpiry k w) s = .next t ∧ t.mode = .manual ∧ (t.lane i).state = .faulted ∧
          t.aspect i = none ∧ (∀ j, j ≠ i → t.lane j = s.lane j) ∧
          (∀ c', (t.drive (driveOf i c')).commanded = false) ∧
          t.events = (s.post .laneFault (i.val + 1) (c.code * 256 + watchCode w)).events ∧ t.rate = s.rate ∧
          KeepsSite s t ∧ KeepsLinks s t) ∧
    (∀ i : Fin 3, m ≤ e → s.mode = .faultDark → k = driveOf i .green → w = .lit →
      exec (.deglitchExpiry k w) s = .next (latched.post .meterFault (i.val + 1) (1 * 256)).judgeLines) ∧
    (e < m → exec (.deglitchExpiry k w) s = .next s.judgeLines)) ∧
  (∀ (k : Fin 10) (i : Fin 3) (c : Colour) (w : WatchKind) (e m : Nat) (p : List Byte) (s : State), k = driveOf i c →
    (c = .green ∧ w = .out ∨ c = .red ∧ w = .lit ∨ c = .amber ∧ w = .lit ∨
      c = .red ∧ w = .out ∧ s.limits.redScope = .lane ∨ c = .amber ∧ w = .out ∧ s.limits.amberMode = .fault) →
    (s.drive k).watch w = .suspect e m → m ≤ e → s.mode = .metering ∨ s.mode = .hold → s.plans.plan = some p →
    (s.lane i).state ≠ .faulted → wanted s ≠ .stop →
    ((∃ j, j ≠ i ∧ working s j = true) →
      ∃ t, exec (.deglitchExpiry k w) s = .next t ∧ t.mode = s.mode ∧ (t.lane i).state = .faulted ∧
        (∀ j, j ≠ i → t.lane j = s.lane j ∨
          (s.mode = .metering ∧ (s.lane j).state = .ready ∧ (t.lane j).state = .green)) ∧
        t.sched.ring.Perm (s.sched.ring.erase i) ∧ (s.mode = .hold → t.sched.ring = s.sched.ring.erase i) ∧
        (∀ c', (t.drive (driveOf i c')).commanded = false) ∧
        t.rate.inForce = some (combineOut s.rate s.limits p ((workingLanes s).erase i).length) ∧
        t.events = (s.post .laneFault (i.val + 1) (c.code * 256 + watchCode w)).events ∧ t.meter.hold = s.meter.hold ∧
        t.meter.beacon = s.meter.beacon ∧ KeepsSite s t ∧ KeepsLinks s t)) ∧
  (∀ (k : Fin 10) (i : Fin 3) (c : Colour) (w : WatchKind) (e m : Nat) (s : State), k = driveOf i c →
    (c = .green ∧ w = .out ∨ c = .red ∧ w = .lit ∨ c = .amber ∧ w = .lit ∨
      c = .red ∧ w = .out ∧ s.limits.redScope = .lane ∨ c = .amber ∧ w = .out ∧ s.limits.amberMode = .fault) →
    (s.drive k).watch w = .suspect e m → m ≤ e →
    let posted := s.post .laneFault (i.val + 1) (c.code * 256 + watchCode w)
    let faults := fun (t : State) => (t.lane i).state = .faulted ∧ (∀ j, j ≠ i → t.lane j = s.lane j) ∧
      (∀ c', (t.drive (driveOf i c')).commanded = false) ∧ (∀ j c', j ≠ i → t.drive (driveOf j c') = s.drive (driveOf j c')) ∧
      t.meter.beacon = s.meter.beacon ∧ KeepsSite s t ∧ KeepsLinks s t
    ((s.lane i).state = .faulted → exec (.deglitchExpiry k w) s =
      .next ((s.setDrive k ((s.drive k).setWatch w (.latched none))).post .laneFault (i.val + 1)
        (c.code * 256 + watchCode w)).judgeLines) ∧
    ((s.lane i).state ≠ .faulted → (s.mode = .dark ∧ ¬ (s.locked = true ∧ StartStands s fun j => j ≠ i ∧ working s j = true)) ∨ s.mode = .faultDark →
      ∃ t, exec (.deglitchExpiry k w) s = .next t ∧ faults t ∧ t.mode = s.mode ∧ t.rate = s.rate ∧
        t.events = posted.events) ∧
    ((s.lane i).state ≠ .faulted →
      s.mode = .startup ∨ s.mode = .metering ∨ s.mode = .hold ∨ s.mode = .shutdown → (∀ j, j ≠ i → working s j = false) →
      ∃ t, exec (.deglitchExpiry k w) s = .next t ∧ t.mode = .faultDark ∧ t.meter.phase = .idle ∧ t.meter.hold = none ∧
        (t.lane i).state = .faulted ∧ (∀ j, (t.drive j).commanded = false) ∧ t.rate.inForce = none ∧ t.sched.ring = [] ∧
        t.events = ((posted.post .meterFault (i.val + 1) (3 * 256)).post .modeChange 0 (6 * 256 + 12)).events ∧
        KeepsSite s t ∧ KeepsLinks s t) ∧
    (∀ p, (s.lane i).state ≠ .faulted → s.plans.plan = some p → (∃ j, j ≠ i ∧ working s j = true) →
      let past := fun j => (s.lane j).state = .red ∨ (s.lane j).state = .ready
      let out := fun j => (s.lane j).state = .off ∨ (s.lane j).state = .faulted
      (s.mode = .startup → s.meter.phase ≠ .stopping → wanted s ≠ .stop →
        (s.meter.phase = .clearing → ∃ j, j ≠ i ∧ working s j = true ∧ ¬ past j) →
          ∃ t, exec (.deglitchExpiry k w) s = .next t ∧ faults t ∧ t.mode = .startup ∧ t.meter.phase = s.meter.phase ∧
            t.meter.seqTimer = s.meter.seqTimer ∧ t.rate = s.rate ∧ t.events = posted.events) ∧
      (s.mode = .startup → s.meter.phase = .clearing → wanted s ≠ .stop → (∀ j, j ≠ i → working s j = true → past j) →
        let r := { s.rate with rFb := planRFixed p, basis := .fixed, fallbackMark := false }
        let o := combineOut r s.limits p ((workingLanes s).erase i).length
        1 ≤ o.headway →
          ∃ t, exec (.deglitchExpiry k w) s = .next t ∧ faults t ∧ t.mode = .metering ∧ t.meter.phase = .idle ∧
            t.sched.ring = (workingLanes s).erase i ∧ t.sched.elapsed = 0 ∧ t.sched.headway = o.headway ∧
            t.rate = { r with inForce := some o, rPrev := o.rate } ∧
            t.events = (posted.post .modeChange 0 (2 * 256 + 5)).events) ∧
      (s.mode = .startup → s.meter.phase = .stopping → (∃ j, j ≠ i ∧ ¬ out j) →
        ∃ t, exec (.deglitchExpiry k w) s = .next t ∧ faults t ∧ t.mode = .startup ∧ t.meter.phase = .stopping ∧
          t.rate = s.rate ∧ t.events = posted.events) ∧
      let starts := s.locked = true ∧ StartStands s (fun j => enabled s j = true)
      (s.mode = .startup → s.meter.phase = .stopping → starts → (∀ j, j ≠ i → out j) →
        ∃ t, exec (.deglitchExpiry k w) s = .next t ∧ Started p (fun j => planEnables p j = true) t ∧
          (∀ j, planEnables p j = false → (t.lane j).state = .off) ∧
          t.events = ((posted.post .modeChange 0 (0 * 256 + 3)).post .modeChange 0 (1 * 256 + 1)).events ∧
          KeepsSite s t ∧ KeepsLinks s t) ∧
      (s.mode = .startup → s.meter.phase = .stopping → ¬ starts → (∀ j, j ≠ i → out j) →
        ∃ t, exec (.deglitchExpiry k w) s = .next t ∧ t.mode = .dark ∧ t.meter.phase = .idle ∧ t.meter.beacon = false ∧
          (∀ j, (t.lane j).state = .off) ∧ t.events = (posted.post .modeChange 0 (0 * 256 + 3)).events ∧
          KeepsSite s t ∧ KeepsLinks s t) ∧
      (s.mode = .shutdown → wanted s ≠ .start →
        ∃ t, exec (.deglitchExpiry k w) s = .next t ∧ faults t ∧ t.mode = .shutdown ∧ t.rate = s.rate ∧
          t.events = posted.events ∧
          (if s.meter.phase = .finishing ∧ ∀ j, j ≠ i → working s j = true → (s.lane j).state = .restGreen then
            t.meter.phase = .resting ∧ t.meter.seqTimer = planShutdownGreen p * 100
          else t.meter.phase = s.meter.phase ∧ t.meter.seqTimer = s.meter.seqTimer))))
end

