-- ==== Sys2Proof/Laws/State.lean ====
section
/-! SUPPORT. The small lemmas of the state: what each setter leaves as it was, and what it sets. -/

namespace Sys2Proof.Machine

/-! ### What a setter leaves as it was -/

@[simp] theorem State.setInput_frame (s : State) (d : Fin 16) (x : Input) :
    (State.setInput s d x).dfeLanes = s.dfeLanes ∧ (State.setInput s d x).counter = s.counter ∧
    (State.setInput s d x).records = s.records ∧ (State.setInput s d x).rate = s.rate ∧
    (State.setInput s d x).sched = s.sched ∧ (State.setInput s d x).meter = s.meter ∧
    (State.setInput s d x).drives = s.drives ∧ (State.setInput s d x).plans = s.plans ∧
    (State.setInput s d x).limits = s.limits ∧ (State.setInput s d x).locked = s.locked ∧
    (State.setInput s d x).links = s.links ∧ (State.setInput s d x).events = s.events ∧
    (State.setInput s d x).pending = s.pending ∧ (State.setInput s d x).choices = s.choices := by
  simp [State.setInput]

@[simp] theorem State.setLane_frame (s : State) (i : Fin 3) (x : Lane) :
    (State.setLane s i x).inputs = s.inputs ∧ (State.setLane s i x).dfeLanes = s.dfeLanes ∧
    (State.setLane s i x).counter = s.counter ∧ (State.setLane s i x).records = s.records ∧
    (State.setLane s i x).rate = s.rate ∧ (State.setLane s i x).meter = s.meter ∧
    (State.setLane s i x).drives = s.drives ∧ (State.setLane s i x).plans = s.plans ∧
    (State.setLane s i x).limits = s.limits ∧ (State.setLane s i x).locked = s.locked ∧
    (State.setLane s i x).links = s.links ∧ (State.setLane s i x).events = s.events ∧
    (State.setLane s i x).pending = s.pending ∧ (State.setLane s i x).choices = s.choices := by
  simp [State.setLane]

@[simp] theorem State.setDrive_frame (s : State) (k : Fin 10) (x : Drive) :
    (State.setDrive s k x).inputs = s.inputs ∧ (State.setDrive s k x).dfeLanes = s.dfeLanes ∧
    (State.setDrive s k x).counter = s.counter ∧ (State.setDrive s k x).records = s.records ∧
    (State.setDrive s k x).rate = s.rate ∧ (State.setDrive s k x).sched = s.sched ∧
    (State.setDrive s k x).meter = s.meter ∧ (State.setDrive s k x).plans = s.plans ∧
    (State.setDrive s k x).limits = s.limits ∧ (State.setDrive s k x).locked = s.locked ∧
    (State.setDrive s k x).links = s.links ∧ (State.setDrive s k x).events = s.events ∧
    (State.setDrive s k x).pending = s.pending ∧ (State.setDrive s k x).choices = s.choices := by
  simp [State.setDrive]

@[simp] theorem State.setDfeLane_frame (s : State) (i : Fin 3) (x : DfeLane) :
    (State.setDfeLane s i x).inputs = s.inputs ∧ (State.setDfeLane s i x).counter = s.counter ∧
    (State.setDfeLane s i x).records = s.records ∧ (State.setDfeLane s i x).rate = s.rate ∧
    (State.setDfeLane s i x).sched = s.sched ∧ (State.setDfeLane s i x).meter = s.meter ∧
    (State.setDfeLane s i x).drives = s.drives ∧ (State.setDfeLane s i x).plans = s.plans ∧
    (State.setDfeLane s i x).limits = s.limits ∧ (State.setDfeLane s i x).locked = s.locked ∧
    (State.setDfeLane s i x).links = s.links ∧ (State.setDfeLane s i x).events = s.events ∧
    (State.setDfeLane s i x).pending = s.pending ∧ (State.setDfeLane s i x).choices = s.choices := by
  simp [State.setDfeLane]

@[simp] theorem State.setLink_frame (s : State) (l : LinkId) (x : LinkInterface) :
    (State.setLink s l x).inputs = s.inputs ∧ (State.setLink s l x).dfeLanes = s.dfeLanes ∧
    (State.setLink s l x).counter = s.counter ∧ (State.setLink s l x).records = s.records ∧
    (State.setLink s l x).rate = s.rate ∧ (State.setLink s l x).sched = s.sched ∧
    (State.setLink s l x).meter = s.meter ∧ (State.setLink s l x).drives = s.drives ∧
    (State.setLink s l x).plans = s.plans ∧ (State.setLink s l x).limits = s.limits ∧
    (State.setLink s l x).locked = s.locked ∧ (State.setLink s l x).events = s.events ∧
    (State.setLink s l x).pending = s.pending ∧ (State.setLink s l x).choices = s.choices := by
  simp [State.setLink]

@[simp] theorem State.setAspectOf_frame (s : State) (i : Fin 3) (a : Option Aspect) :
    (State.setAspectOf s i a).inputs = s.inputs ∧ (State.setAspectOf s i a).dfeLanes = s.dfeLanes ∧
    (State.setAspectOf s i a).counter = s.counter ∧ (State.setAspectOf s i a).records = s.records ∧
    (State.setAspectOf s i a).rate = s.rate ∧ (State.setAspectOf s i a).sched = s.sched ∧
    (State.setAspectOf s i a).drives = s.drives ∧ (State.setAspectOf s i a).plans = s.plans ∧
    (State.setAspectOf s i a).limits = s.limits ∧ (State.setAspectOf s i a).locked = s.locked ∧
    (State.setAspectOf s i a).links = s.links ∧ (State.setAspectOf s i a).events = s.events ∧
    (State.setAspectOf s i a).pending = s.pending ∧ (State.setAspectOf s i a).choices = s.choices := by
  simp [State.setAspectOf]

@[simp] theorem State.postEntry_frame (s : State) (e : Event) :
    (State.postEntry s e).inputs = s.inputs ∧ (State.postEntry s e).dfeLanes = s.dfeLanes ∧
    (State.postEntry s e).counter = s.counter ∧ (State.postEntry s e).records = s.records ∧
    (State.postEntry s e).rate = s.rate ∧ (State.postEntry s e).sched = s.sched ∧
    (State.postEntry s e).meter = s.meter ∧ (State.postEntry s e).drives = s.drives ∧
    (State.postEntry s e).plans = s.plans ∧ (State.postEntry s e).limits = s.limits ∧
    (State.postEntry s e).locked = s.locked ∧ (State.postEntry s e).links = s.links ∧
    (State.postEntry s e).pending = s.pending ∧ (State.postEntry s e).choices = s.choices := by
  simp [State.postEntry]

@[simp] theorem State.post_frame (s : State) (kind : EventKind) (subject detail : Nat) :
    (State.post s kind subject detail).inputs = s.inputs ∧ (State.post s kind subject detail).dfeLanes = s.dfeLanes ∧
    (State.post s kind subject detail).counter = s.counter ∧ (State.post s kind subject detail).records = s.records ∧
    (State.post s kind subject detail).rate = s.rate ∧ (State.post s kind subject detail).sched = s.sched ∧
    (State.post s kind subject detail).meter = s.meter ∧ (State.post s kind subject detail).drives = s.drives ∧
    (State.post s kind subject detail).plans = s.plans ∧ (State.post s kind subject detail).limits = s.limits ∧
    (State.post s kind subject detail).locked = s.locked ∧ (State.post s kind subject detail).links = s.links ∧
    (State.post s kind subject detail).pending = s.pending ∧
    (State.post s kind subject detail).choices = s.choices := by
  simp [State.post]

@[simp] theorem State.judgeLines_frame (s : State) :
    (State.judgeLines s).inputs = s.inputs ∧ (State.judgeLines s).dfeLanes = s.dfeLanes ∧
    (State.judgeLines s).counter = s.counter ∧ (State.judgeLines s).records = s.records ∧
    (State.judgeLines s).rate = s.rate ∧ (State.judgeLines s).sched = s.sched ∧ (State.judgeLines s).meter = s.meter ∧
    (State.judgeLines s).drives = s.drives ∧ (State.judgeLines s).plans = s.plans ∧
    (State.judgeLines s).limits = s.limits ∧ (State.judgeLines s).locked = s.locked ∧
    (State.judgeLines s).events = s.events ∧ (State.judgeLines s).pending = s.pending ∧
    (State.judgeLines s).choices = s.choices := by
  simp [State.judgeLines]

@[simp] theorem State.setRelease_frame (s : State) (ring : List (Fin 3)) (elapsed : Nat) (due : Bool) :
    (State.setRelease s ring elapsed due).inputs = s.inputs ∧
    (State.setRelease s ring elapsed due).dfeLanes = s.dfeLanes ∧
    (State.setRelease s ring elapsed due).counter = s.counter ∧
    (State.setRelease s ring elapsed due).records = s.records ∧ (State.setRelease s ring elapsed due).rate = s.rate ∧
    (State.setRelease s ring elapsed due).meter = s.meter ∧ (State.setRelease s ring elapsed due).drives = s.drives ∧
    (State.setRelease s ring elapsed due).plans = s.plans ∧ (State.setRelease s ring elapsed due).limits = s.limits ∧
    (State.setRelease s ring elapsed due).locked = s.locked ∧ (State.setRelease s ring elapsed due).links = s.links ∧
    (State.setRelease s ring elapsed due).events = s.events ∧
    (State.setRelease s ring elapsed due).pending = s.pending ∧
    (State.setRelease s ring elapsed due).choices = s.choices := by
  simp [State.setRelease]

@[simp] theorem State.setHeadway_frame (s : State) (h : Nat) :
    (State.setHeadway s h).inputs = s.inputs ∧ (State.setHeadway s h).dfeLanes = s.dfeLanes ∧
    (State.setHeadway s h).counter = s.counter ∧ (State.setHeadway s h).records = s.records ∧
    (State.setHeadway s h).rate = s.rate ∧ (State.setHeadway s h).meter = s.meter ∧
    (State.setHeadway s h).drives = s.drives ∧ (State.setHeadway s h).plans = s.plans ∧
    (State.setHeadway s h).limits = s.limits ∧ (State.setHeadway s h).locked = s.locked ∧
    (State.setHeadway s h).links = s.links ∧ (State.setHeadway s h).events = s.events ∧
    (State.setHeadway s h).pending = s.pending ∧ (State.setHeadway s h).choices = s.choices := by
  simp [State.setHeadway]

@[simp] theorem State.putRate_frame (s : State) (o : RateOut) :
    (State.putRate s o).inputs = s.inputs ∧ (State.putRate s o).dfeLanes = s.dfeLanes ∧
    (State.putRate s o).counter = s.counter ∧ (State.putRate s o).records = s.records ∧
    (State.putRate s o).sched = s.sched ∧ (State.putRate s o).meter = s.meter ∧
    (State.putRate s o).drives = s.drives ∧ (State.putRate s o).plans = s.plans ∧
    (State.putRate s o).limits = s.limits ∧ (State.putRate s o).locked = s.locked ∧
    (State.putRate s o).links = s.links ∧ (State.putRate s o).events = s.events ∧
    (State.putRate s o).pending = s.pending ∧ (State.putRate s o).choices = s.choices := by
  simp [State.putRate]

@[simp] theorem State.putMode_frame (s : State) (m : Mode) :
    (State.putMode s m).inputs = s.inputs ∧ (State.putMode s m).dfeLanes = s.dfeLanes ∧
    (State.putMode s m).counter = s.counter ∧ (State.putMode s m).records = s.records ∧
    (State.putMode s m).rate = s.rate ∧ (State.putMode s m).sched = s.sched ∧ (State.putMode s m).drives = s.drives ∧
    (State.putMode s m).plans = s.plans ∧ (State.putMode s m).limits = s.limits ∧
    (State.putMode s m).locked = s.locked ∧ (State.putMode s m).links = s.links ∧
    (State.putMode s m).events = s.events ∧ (State.putMode s m).pending = s.pending ∧
    (State.putMode s m).choices = s.choices := by
  simp [State.putMode]

@[simp] theorem State.putPhase_frame (s : State) (p : Phase) (timer : Nat) :
    (State.putPhase s p timer).inputs = s.inputs ∧ (State.putPhase s p timer).dfeLanes = s.dfeLanes ∧
    (State.putPhase s p timer).counter = s.counter ∧ (State.putPhase s p timer).records = s.records ∧
    (State.putPhase s p timer).rate = s.rate ∧ (State.putPhase s p timer).sched = s.sched ∧
    (State.putPhase s p timer).drives = s.drives ∧ (State.putPhase s p timer).plans = s.plans ∧
    (State.putPhase s p timer).limits = s.limits ∧ (State.putPhase s p timer).locked = s.locked ∧
    (State.putPhase s p timer).links = s.links ∧ (State.putPhase s p timer).events = s.events ∧
    (State.putPhase s p timer).pending = s.pending ∧ (State.putPhase s p timer).choices = s.choices := by
  simp [State.putPhase]

@[simp] theorem State.putHold_frame (s : State) (h : Option HoldRecord) :
    (State.putHold s h).inputs = s.inputs ∧ (State.putHold s h).dfeLanes = s.dfeLanes ∧
    (State.putHold s h).counter = s.counter ∧ (State.putHold s h).records = s.records ∧
    (State.putHold s h).rate = s.rate ∧ (State.putHold s h).sched = s.sched ∧ (State.putHold s h).drives = s.drives ∧
    (State.putHold s h).plans = s.plans ∧ (State.putHold s h).limits = s.limits ∧
    (State.putHold s h).locked = s.locked ∧ (State.putHold s h).links = s.links ∧
    (State.putHold s h).events = s.events ∧ (State.putHold s h).pending = s.pending ∧
    (State.putHold s h).choices = s.choices := by
  simp [State.putHold]

@[simp] theorem State.putSpill_frame (s : State) (v : Bool) :
    (State.putSpill s v).inputs = s.inputs ∧ (State.putSpill s v).dfeLanes = s.dfeLanes ∧
    (State.putSpill s v).counter = s.counter ∧ (State.putSpill s v).records = s.records ∧
    (State.putSpill s v).sched = s.sched ∧ (State.putSpill s v).meter = s.meter ∧
    (State.putSpill s v).drives = s.drives ∧ (State.putSpill s v).plans = s.plans ∧
    (State.putSpill s v).limits = s.limits ∧ (State.putSpill s v).locked = s.locked ∧
    (State.putSpill s v).links = s.links ∧ (State.putSpill s v).events = s.events ∧
    (State.putSpill s v).pending = s.pending ∧ (State.putSpill s v).choices = s.choices := by
  simp [State.putSpill]

@[simp] theorem State.putFloor_frame (s : State) (v : Bool) :
    (State.putFloor s v).inputs = s.inputs ∧ (State.putFloor s v).dfeLanes = s.dfeLanes ∧
    (State.putFloor s v).counter = s.counter ∧ (State.putFloor s v).records = s.records ∧
    (State.putFloor s v).sched = s.sched ∧ (State.putFloor s v).meter = s.meter ∧
    (State.putFloor s v).drives = s.drives ∧ (State.putFloor s v).plans = s.plans ∧
    (State.putFloor s v).limits = s.limits ∧ (State.putFloor s v).locked = s.locked ∧
    (State.putFloor s v).links = s.links ∧ (State.putFloor s v).events = s.events ∧
    (State.putFloor s v).pending = s.pending ∧ (State.putFloor s v).choices = s.choices := by
  simp [State.putFloor]

@[simp] theorem State.putRuns_frame (s : State) (onRun offRun : Nat) :
    (State.putRuns s onRun offRun).inputs = s.inputs ∧ (State.putRuns s onRun offRun).dfeLanes = s.dfeLanes ∧
    (State.putRuns s onRun offRun).counter = s.counter ∧ (State.putRuns s onRun offRun).records = s.records ∧
    (State.putRuns s onRun offRun).rate = s.rate ∧ (State.putRuns s onRun offRun).sched = s.sched ∧
    (State.putRuns s onRun offRun).drives = s.drives ∧ (State.putRuns s onRun offRun).plans = s.plans ∧
    (State.putRuns s onRun offRun).limits = s.limits ∧ (State.putRuns s onRun offRun).locked = s.locked ∧
    (State.putRuns s onRun offRun).links = s.links ∧ (State.putRuns s onRun offRun).events = s.events ∧
    (State.putRuns s onRun offRun).pending = s.pending ∧ (State.putRuns s onRun offRun).choices = s.choices := by
  simp [State.putRuns]

@[simp] theorem State.putClaim_frame (s : State) (c : Option Claim) :
    (State.putClaim s c).inputs = s.inputs ∧ (State.putClaim s c).dfeLanes = s.dfeLanes ∧
    (State.putClaim s c).counter = s.counter ∧ (State.putClaim s c).records = s.records ∧
    (State.putClaim s c).rate = s.rate ∧ (State.putClaim s c).sched = s.sched ∧ (State.putClaim s c).meter = s.meter ∧
    (State.putClaim s c).drives = s.drives ∧ (State.putClaim s c).limits = s.limits ∧
    (State.putClaim s c).locked = s.locked ∧ (State.putClaim s c).links = s.links ∧
    (State.putClaim s c).events = s.events ∧ (State.putClaim s c).pending = s.pending ∧
    (State.putClaim s c).choices = s.choices := by
  simp [State.putClaim]

@[simp] theorem State.putBuffer_frame (s : State) (b : List Byte) :
    (State.putBuffer s b).inputs = s.inputs ∧ (State.putBuffer s b).dfeLanes = s.dfeLanes ∧
    (State.putBuffer s b).counter = s.counter ∧ (State.putBuffer s b).records = s.records ∧
    (State.putBuffer s b).rate = s.rate ∧ (State.putBuffer s b).sched = s.sched ∧
    (State.putBuffer s b).meter = s.meter ∧ (State.putBuffer s b).drives = s.drives ∧
    (State.putBuffer s b).limits = s.limits ∧ (State.putBuffer s b).locked = s.locked ∧
    (State.putBuffer s b).links = s.links ∧ (State.putBuffer s b).events = s.events ∧
    (State.putBuffer s b).pending = s.pending ∧ (State.putBuffer s b).choices = s.choices := by
  simp [State.putBuffer]

@[simp] theorem State.putSlot_frame (s : State) (k : Fin 8) (x : Slot) :
    (State.putSlot s k x).inputs = s.inputs ∧ (State.putSlot s k x).dfeLanes = s.dfeLanes ∧
    (State.putSlot s k x).counter = s.counter ∧ (State.putSlot s k x).records = s.records ∧
    (State.putSlot s k x).rate = s.rate ∧ (State.putSlot s k x).sched = s.sched ∧
    (State.putSlot s k x).meter = s.meter ∧ (State.putSlot s k x).drives = s.drives ∧
    (State.putSlot s k x).limits = s.limits ∧ (State.putSlot s k x).locked = s.locked ∧
    (State.putSlot s k x).links = s.links ∧ (State.putSlot s k x).events = s.events ∧
    (State.putSlot s k x).pending = s.pending ∧ (State.putSlot s k x).choices = s.choices := by
  simp [State.putSlot]

@[simp] theorem State.putPending_frame (s : State) (k : Option (Fin 8)) :
    (State.putPending s k).inputs = s.inputs ∧ (State.putPending s k).dfeLanes = s.dfeLanes ∧
    (State.putPending s k).counter = s.counter ∧ (State.putPending s k).records = s.records ∧
    (State.putPending s k).rate = s.rate ∧ (State.putPending s k).sched = s.sched ∧
    (State.putPending s k).meter = s.meter ∧ (State.putPending s k).drives = s.drives ∧
    (State.putPending s k).limits = s.limits ∧ (State.putPending s k).locked = s.locked ∧
    (State.putPending s k).links = s.links ∧ (State.putPending s k).events = s.events ∧
    (State.putPending s k).pending = s.pending ∧ (State.putPending s k).choices = s.choices := by
  simp [State.putPending]

end Sys2Proof.Machine
end

