-- ==== Sys2Proof/Laws/Elements.lean ====
section
/-! SUPPORT. Reading one element back: what the setters of inputs, lanes, drives and links do to each element, and what
a hand-over commands. -/

namespace Sys2Proof.Machine

/-! ### One element of a family -/

@[simp] theorem PerLink.get_set {α : Type} (p : PerLink α) (l m : LinkId) (x : α) :
    (p.set l x).get m = if m = l then x else p.get m := by
  cases l <;> cases m <;> rfl

theorem PerLink.ext_get {α : Type} {p q : PerLink α} (h : ∀ l, p.get l = q.get l) : p = q := by
  have hL := h .L
  have hC := h .C
  cases p
  cases q
  simp_all [PerLink.get]

@[simp] theorem input_setInput (s : State) (d e : Fin 16) (x : Input) :
    (s.setInput d x).input e = if e = d then x else s.input e := by
  simp [State.input, State.setInput, Vector.getElem_set, Fin.ext_iff, eq_comm]

@[simp] theorem lane_setLane (s : State) (i j : Fin 3) (x : Lane) :
    (s.setLane i x).lane j = if j = i then x else s.lane j := by
  simp [State.lane, State.setLane, Vector.getElem_set, Fin.ext_iff, eq_comm]

@[simp] theorem drive_setDrive (s : State) (k j : Fin 10) (x : Drive) :
    (s.setDrive k x).drive j = if j = k then x else s.drive j := by
  simp [State.drive, State.setDrive, Vector.getElem_set, Fin.ext_iff, eq_comm]

@[simp] theorem dfeLane_setDfeLane (s : State) (i j : Fin 3) (x : DfeLane) :
    (s.setDfeLane i x).dfeLane j = if j = i then x else s.dfeLane j := by
  simp [State.dfeLane, State.setDfeLane, Vector.getElem_set, Fin.ext_iff, eq_comm]

@[simp] theorem aspect_setAspectOf (s : State) (i j : Fin 3) (a : Option Aspect) :
    (s.setAspectOf i a).aspect j = if j = i then a else s.aspect j := by
  simp [State.aspect, State.setAspectOf, Vector.getElem_set, Fin.ext_iff, eq_comm]

@[simp] theorem slot_putSlot (s : State) (k j : Fin 8) (x : Slot) :
    (s.putSlot k x).slot j = if j = k then x else s.slot j := by
  simp [State.slot, State.putSlot, Vector.getElem_set, Fin.ext_iff, eq_comm]

@[simp] theorem link_setLink (s : State) (l m : LinkId) (x : LinkInterface) :
    (s.setLink l x).link m = if m = l then x else s.link m := by
  simp [State.link, State.setLink]

@[simp] theorem mapAll_get {α : Type} {n : Nat} (f : α → α) (v : Vector α n) (k : Nat) (h : k < n) :
    (mapAll f v)[k] = f v[k] := by
  simp [mapAll]

/-! ### Hand-overs to the drives -/

@[simp] theorem Drive.judge_commanded (n : Nat) (d : Drive) : (d.judge n).commanded = d.commanded := rfl

@[simp] theorem Drive.judge_sensed (n : Nat) (d : Drive) : (d.judge n).sensed = d.sensed := rfl

@[simp] theorem Drive.judge_blank (n : Nat) (d : Drive) : (d.judge n).blank = d.blank := rfl

@[simp] theorem Drive.command_commanded (lim : SiteLimits) (on : Bool) (d : Drive) :
    (d.command lim on).commanded = on := by
  unfold Drive.command
  split
  · assumption
  · rfl

@[simp] theorem Drive.command_sensed (lim : SiteLimits) (on : Bool) (d : Drive) :
    (d.command lim on).sensed = d.sensed := by
  unfold Drive.command
  split <;> rfl

@[simp] theorem Drive.command_same (lim : SiteLimits) (d : Drive) : d.command lim d.commanded = d := by
  simp [Drive.command]

@[simp] theorem Drive.reprove_commanded (lim : SiteLimits) (d : Drive) : (d.reprove lim).commanded = d.commanded := rfl

@[simp] theorem Drive.clearWatches_commanded (lim : SiteLimits) (d : Drive) :
    (d.clearWatches lim).commanded = d.commanded := rfl

@[simp] theorem Drive.setWatch_commanded (d : Drive) (w : WatchKind) (x : WatchState) :
    (d.setWatch w x).commanded = d.commanded := by cases w <;> rfl

@[simp] theorem drive_handDrive (s : State) (k j : Fin 10) (on : Bool) :
    (handDrive k on s).drive j = if j = k then (s.drive k).command s.limits (driverOutput s on) else s.drive j := by
  simp [handDrive]

/-- The drives are numbered so that a drive belongs to one lane and colour (6.). -/
@[simp] theorem driveOf_inj (i j : Fin 3) (c d : Colour) : driveOf i c = driveOf j d ↔ i = j ∧ c = d := by
  revert i j c d
  have : ∀ i j : Fin 3, ∀ c ∈ [Colour.red, .amber, .green], ∀ d ∈ [Colour.red, .amber, .green],
      (driveOf i c = driveOf j d ↔ i = j ∧ c = d) := by decide
  intro i j c d
  exact this i j c (by cases c <;> simp) d (by cases d <;> simp)

@[simp] theorem driveOf_ne_beacon (i : Fin 3) (c : Colour) : driveOf i c ≠ beaconDrive := by
  revert i
  cases c <;> decide

@[simp] theorem beacon_ne_driveOf (i : Fin 3) (c : Colour) : beaconDrive ≠ driveOf i c := (driveOf_ne_beacon i c).symm

@[simp] theorem handDrive_mode (s : State) (k : Fin 10) (on : Bool) : (handDrive k on s).mode = s.mode := rfl

@[simp] theorem driverOutput_handDrive (s : State) (k : Fin 10) (on b : Bool) :
    driverOutput (handDrive k on s) b = driverOutput s b := rfl

/-- A hand-over of a lane state commands the lane's three drives by it and leaves every other drive alone (R69, R111). -/
theorem drive_handLane (s : State) (i j : Fin 3) (c : Colour) (st : LaneState) :
    (handLane i st s).drive (driveOf j c) =
      if j = i then (s.drive (driveOf i c)).command s.limits (driverOutput s (commands st c)) else s.drive (driveOf j c) := by
  have hl : ∀ k on, (handDrive k on s).limits = s.limits := fun _ _ => rfl
  by_cases h : j = i
  · subst h
    cases c <;> simp [handLane, handDrive]  <;> rfl
  · simp [handLane, h]

@[simp] theorem drive_handLane_beacon (s : State) (i : Fin 3) (st : LaneState) :
    (handLane i st s).drive beaconDrive = s.drive beaconDrive := by simp [handLane]

@[simp] theorem handLane_mode (s : State) (i : Fin 3) (st : LaneState) : (handLane i st s).mode = s.mode := rfl

@[simp] theorem lane_handLane (s : State) (i j : Fin 3) (st : LaneState) : (handLane i st s).lane j = s.lane j := rfl

/-- Entering a lane state changes that lane alone. -/
@[simp] theorem lane_enterLane (s : State) (i j : Fin 3) (x : Lane) :
    (enterLane i x s).lane j = if j = i then x else s.lane j := by
  simp [enterLane]

@[simp] theorem enterLane_mode (s : State) (i : Fin 3) (x : Lane) : (enterLane i x s).mode = s.mode := rfl

/-- Entering a lane state hands its three drive states over at the same moment (R69). -/
theorem drive_enterLane (s : State) (i j : Fin 3) (c : Colour) (x : Lane) :
    (enterLane i x s).drive (driveOf j c) =
      if j = i then (s.drive (driveOf i c)).command s.limits (driverOutput s (commands x.state c))
      else s.drive (driveOf j c) := by
  rw [enterLane, drive_handLane]
  rfl

@[simp] theorem drive_enterLane_beacon (s : State) (i : Fin 3) (x : Lane) :
    (enterLane i x s).drive beaconDrive = s.drive beaconDrive := by
  rw [enterLane, drive_handLane_beacon]
  rfl

end Sys2Proof.Machine
end

