-- ==== Sys2Proof/Laws/Frames.lean ====
section
/-! SUPPORT. The frame of every operation: the blocks it leaves as they were. -/

namespace Sys2Proof.Machine

@[simp] theorem foldl_inputs {β : Type} (f : State → β → State) (h : ∀ s b, (f s b).inputs = s.inputs) (l : List β) (s : State) :
    (l.foldl f s).inputs = s.inputs := by
  induction l generalizing s with
  | nil => rfl
  | cons b l ih => simp [ih, h]

@[simp] theorem orderEach_inputs (f : Fin 3 → State → State) (h : ∀ i s, (f i s).inputs = s.inputs) (l : List (Fin 3)) (s : State) :
    (orderEach f l s).inputs = s.inputs := foldl_inputs _ (fun s b => h b s) l s

@[simp] theorem foldl_dfeLanes {β : Type} (f : State → β → State) (h : ∀ s b, (f s b).dfeLanes = s.dfeLanes) (l : List β) (s : State) :
    (l.foldl f s).dfeLanes = s.dfeLanes := by
  induction l generalizing s with
  | nil => rfl
  | cons b l ih => simp [ih, h]

@[simp] theorem orderEach_dfeLanes (f : Fin 3 → State → State) (h : ∀ i s, (f i s).dfeLanes = s.dfeLanes) (l : List (Fin 3)) (s : State) :
    (orderEach f l s).dfeLanes = s.dfeLanes := foldl_dfeLanes _ (fun s b => h b s) l s

@[simp] theorem foldl_counter {β : Type} (f : State → β → State) (h : ∀ s b, (f s b).counter = s.counter) (l : List β) (s : State) :
    (l.foldl f s).counter = s.counter := by
  induction l generalizing s with
  | nil => rfl
  | cons b l ih => simp [ih, h]

@[simp] theorem orderEach_counter (f : Fin 3 → State → State) (h : ∀ i s, (f i s).counter = s.counter) (l : List (Fin 3)) (s : State) :
    (orderEach f l s).counter = s.counter := foldl_counter _ (fun s b => h b s) l s

@[simp] theorem foldl_records {β : Type} (f : State → β → State) (h : ∀ s b, (f s b).records = s.records) (l : List β) (s : State) :
    (l.foldl f s).records = s.records := by
  induction l generalizing s with
  | nil => rfl
  | cons b l ih => simp [ih, h]

@[simp] theorem orderEach_records (f : Fin 3 → State → State) (h : ∀ i s, (f i s).records = s.records) (l : List (Fin 3)) (s : State) :
    (orderEach f l s).records = s.records := foldl_records _ (fun s b => h b s) l s

@[simp] theorem foldl_rate {β : Type} (f : State → β → State) (h : ∀ s b, (f s b).rate = s.rate) (l : List β) (s : State) :
    (l.foldl f s).rate = s.rate := by
  induction l generalizing s with
  | nil => rfl
  | cons b l ih => simp [ih, h]

@[simp] theorem orderEach_rate (f : Fin 3 → State → State) (h : ∀ i s, (f i s).rate = s.rate) (l : List (Fin 3)) (s : State) :
    (orderEach f l s).rate = s.rate := foldl_rate _ (fun s b => h b s) l s

@[simp] theorem foldl_sched {β : Type} (f : State → β → State) (h : ∀ s b, (f s b).sched = s.sched) (l : List β) (s : State) :
    (l.foldl f s).sched = s.sched := by
  induction l generalizing s with
  | nil => rfl
  | cons b l ih => simp [ih, h]

@[simp] theorem orderEach_sched (f : Fin 3 → State → State) (h : ∀ i s, (f i s).sched = s.sched) (l : List (Fin 3)) (s : State) :
    (orderEach f l s).sched = s.sched := foldl_sched _ (fun s b => h b s) l s

@[simp] theorem foldl_meter {β : Type} (f : State → β → State) (h : ∀ s b, (f s b).meter = s.meter) (l : List β) (s : State) :
    (l.foldl f s).meter = s.meter := by
  induction l generalizing s with
  | nil => rfl
  | cons b l ih => simp [ih, h]

@[simp] theorem orderEach_meter (f : Fin 3 → State → State) (h : ∀ i s, (f i s).meter = s.meter) (l : List (Fin 3)) (s : State) :
    (orderEach f l s).meter = s.meter := foldl_meter _ (fun s b => h b s) l s

@[simp] theorem foldl_drives {β : Type} (f : State → β → State) (h : ∀ s b, (f s b).drives = s.drives) (l : List β) (s : State) :
    (l.foldl f s).drives = s.drives := by
  induction l generalizing s with
  | nil => rfl
  | cons b l ih => simp [ih, h]

@[simp] theorem orderEach_drives (f : Fin 3 → State → State) (h : ∀ i s, (f i s).drives = s.drives) (l : List (Fin 3)) (s : State) :
    (orderEach f l s).drives = s.drives := foldl_drives _ (fun s b => h b s) l s

@[simp] theorem foldl_plans {β : Type} (f : State → β → State) (h : ∀ s b, (f s b).plans = s.plans) (l : List β) (s : State) :
    (l.foldl f s).plans = s.plans := by
  induction l generalizing s with
  | nil => rfl
  | cons b l ih => simp [ih, h]

@[simp] theorem orderEach_plans (f : Fin 3 → State → State) (h : ∀ i s, (f i s).plans = s.plans) (l : List (Fin 3)) (s : State) :
    (orderEach f l s).plans = s.plans := foldl_plans _ (fun s b => h b s) l s

@[simp] theorem foldl_limits {β : Type} (f : State → β → State) (h : ∀ s b, (f s b).limits = s.limits) (l : List β) (s : State) :
    (l.foldl f s).limits = s.limits := by
  induction l generalizing s with
  | nil => rfl
  | cons b l ih => simp [ih, h]

@[simp] theorem orderEach_limits (f : Fin 3 → State → State) (h : ∀ i s, (f i s).limits = s.limits) (l : List (Fin 3)) (s : State) :
    (orderEach f l s).limits = s.limits := foldl_limits _ (fun s b => h b s) l s

@[simp] theorem foldl_locked {β : Type} (f : State → β → State) (h : ∀ s b, (f s b).locked = s.locked) (l : List β) (s : State) :
    (l.foldl f s).locked = s.locked := by
  induction l generalizing s with
  | nil => rfl
  | cons b l ih => simp [ih, h]

@[simp] theorem orderEach_locked (f : Fin 3 → State → State) (h : ∀ i s, (f i s).locked = s.locked) (l : List (Fin 3)) (s : State) :
    (orderEach f l s).locked = s.locked := foldl_locked _ (fun s b => h b s) l s

@[simp] theorem foldl_links {β : Type} (f : State → β → State) (h : ∀ s b, (f s b).links = s.links) (l : List β) (s : State) :
    (l.foldl f s).links = s.links := by
  induction l generalizing s with
  | nil => rfl
  | cons b l ih => simp [ih, h]

@[simp] theorem orderEach_links (f : Fin 3 → State → State) (h : ∀ i s, (f i s).links = s.links) (l : List (Fin 3)) (s : State) :
    (orderEach f l s).links = s.links := foldl_links _ (fun s b => h b s) l s

@[simp] theorem foldl_events {β : Type} (f : State → β → State) (h : ∀ s b, (f s b).events = s.events) (l : List β) (s : State) :
    (l.foldl f s).events = s.events := by
  induction l generalizing s with
  | nil => rfl
  | cons b l ih => simp [ih, h]

@[simp] theorem orderEach_events (f : Fin 3 → State → State) (h : ∀ i s, (f i s).events = s.events) (l : List (Fin 3)) (s : State) :
    (orderEach f l s).events = s.events := foldl_events _ (fun s b => h b s) l s

@[simp] theorem foldl_pending {β : Type} (f : State → β → State) (h : ∀ s b, (f s b).pending = s.pending) (l : List β) (s : State) :
    (l.foldl f s).pending = s.pending := by
  induction l generalizing s with
  | nil => rfl
  | cons b l ih => simp [ih, h]

@[simp] theorem orderEach_pending (f : Fin 3 → State → State) (h : ∀ i s, (f i s).pending = s.pending) (l : List (Fin 3)) (s : State) :
    (orderEach f l s).pending = s.pending := foldl_pending _ (fun s b => h b s) l s

@[simp] theorem foldl_choices {β : Type} (f : State → β → State) (h : ∀ s b, (f s b).choices = s.choices) (l : List β) (s : State) :
    (l.foldl f s).choices = s.choices := by
  induction l generalizing s with
  | nil => rfl
  | cons b l ih => simp [ih, h]

@[simp] theorem orderEach_choices (f : Fin 3 → State → State) (h : ∀ i s, (f i s).choices = s.choices) (l : List (Fin 3)) (s : State) :
    (orderEach f l s).choices = s.choices := foldl_choices _ (fun s b => h b s) l s

@[simp] theorem ite_inputs (c : Prop) [Decidable c] (a b : State) : (if c then a else b).inputs = if c then a.inputs else b.inputs := by
  split <;> rfl

@[simp] theorem ite_dfeLanes (c : Prop) [Decidable c] (a b : State) : (if c then a else b).dfeLanes = if c then a.dfeLanes else b.dfeLanes := by
  split <;> rfl

@[simp] theorem ite_counter (c : Prop) [Decidable c] (a b : State) : (if c then a else b).counter = if c then a.counter else b.counter := by
  split <;> rfl

@[simp] theorem ite_records (c : Prop) [Decidable c] (a b : State) : (if c then a else b).records = if c then a.records else b.records := by
  split <;> rfl

@[simp] theorem ite_rate (c : Prop) [Decidable c] (a b : State) : (if c then a else b).rate = if c then a.rate else b.rate := by
  split <;> rfl

@[simp] theorem ite_sched (c : Prop) [Decidable c] (a b : State) : (if c then a else b).sched = if c then a.sched else b.sched := by
  split <;> rfl

@[simp] theorem ite_meter (c : Prop) [Decidable c] (a b : State) : (if c then a else b).meter = if c then a.meter else b.meter := by
  split <;> rfl

@[simp] theorem ite_drives (c : Prop) [Decidable c] (a b : State) : (if c then a else b).drives = if c then a.drives else b.drives := by
  split <;> rfl

@[simp] theorem ite_plans (c : Prop) [Decidable c] (a b : State) : (if c then a else b).plans = if c then a.plans else b.plans := by
  split <;> rfl

@[simp] theorem ite_limits (c : Prop) [Decidable c] (a b : State) : (if c then a else b).limits = if c then a.limits else b.limits := by
  split <;> rfl

@[simp] theorem ite_locked (c : Prop) [Decidable c] (a b : State) : (if c then a else b).locked = if c then a.locked else b.locked := by
  split <;> rfl

@[simp] theorem ite_links (c : Prop) [Decidable c] (a b : State) : (if c then a else b).links = if c then a.links else b.links := by
  split <;> rfl

@[simp] theorem ite_events (c : Prop) [Decidable c] (a b : State) : (if c then a else b).events = if c then a.events else b.events := by
  split <;> rfl

@[simp] theorem ite_pending (c : Prop) [Decidable c] (a b : State) : (if c then a else b).pending = if c then a.pending else b.pending := by
  split <;> rfl

@[simp] theorem ite_choices (c : Prop) [Decidable c] (a b : State) : (if c then a else b).choices = if c then a.choices else b.choices := by
  split <;> rfl

@[simp] theorem ite_state (c : Prop) [Decidable c] (a b : Answer) : (if c then a else b).state = if c then a.state else b.state := by
  split <;> rfl

@[simp] theorem accept_state (s : State) (p : List Byte) : (accept s p).state = s := rfl
@[simp] theorem refuse_state (s : State) (st : Status) : (refuse s st).state = s := rfl
@[simp] theorem refuseRange_state (s : State) (k : Nat) : (refuseRange s k).state = s := rfl

/-! ### Lamps -/

@[simp] theorem handDrive_frame (k : Fin 10) (on : Bool) (s : State) :
    (handDrive k on s).inputs = s.inputs ∧ (handDrive k on s).dfeLanes = s.dfeLanes ∧
    (handDrive k on s).counter = s.counter ∧ (handDrive k on s).records = s.records ∧
    (handDrive k on s).rate = s.rate ∧ (handDrive k on s).sched = s.sched ∧ (handDrive k on s).meter = s.meter ∧
    (handDrive k on s).plans = s.plans ∧ (handDrive k on s).limits = s.limits ∧ (handDrive k on s).locked = s.locked ∧
    (handDrive k on s).links = s.links ∧ (handDrive k on s).events = s.events ∧
    (handDrive k on s).pending = s.pending ∧ (handDrive k on s).choices = s.choices := by
  simp [handDrive]

@[simp] theorem handLane_frame (i : Fin 3) (st : LaneState) (s : State) :
    (handLane i st s).inputs = s.inputs ∧ (handLane i st s).dfeLanes = s.dfeLanes ∧
    (handLane i st s).counter = s.counter ∧ (handLane i st s).records = s.records ∧ (handLane i st s).rate = s.rate ∧
    (handLane i st s).sched = s.sched ∧ (handLane i st s).meter = s.meter ∧ (handLane i st s).plans = s.plans ∧
    (handLane i st s).limits = s.limits ∧ (handLane i st s).locked = s.locked ∧ (handLane i st s).links = s.links ∧
    (handLane i st s).events = s.events ∧ (handLane i st s).pending = s.pending ∧
    (handLane i st s).choices = s.choices := by
  simp [handLane]

@[simp] theorem commandBeacon_frame (on : Bool) (s : State) :
    (commandBeacon on s).inputs = s.inputs ∧ (commandBeacon on s).dfeLanes = s.dfeLanes ∧
    (commandBeacon on s).counter = s.counter ∧ (commandBeacon on s).records = s.records ∧
    (commandBeacon on s).rate = s.rate ∧ (commandBeacon on s).sched = s.sched ∧ (commandBeacon on s).plans = s.plans ∧
    (commandBeacon on s).limits = s.limits ∧ (commandBeacon on s).locked = s.locked ∧
    (commandBeacon on s).links = s.links ∧ (commandBeacon on s).events = s.events ∧
    (commandBeacon on s).pending = s.pending ∧ (commandBeacon on s).choices = s.choices := by
  simp [commandBeacon]

@[simp] theorem drivesOff_frame (s : State) :
    (drivesOff s).inputs = s.inputs ∧ (drivesOff s).dfeLanes = s.dfeLanes ∧ (drivesOff s).counter = s.counter ∧
    (drivesOff s).records = s.records ∧ (drivesOff s).rate = s.rate ∧ (drivesOff s).sched = s.sched ∧
    (drivesOff s).meter = s.meter ∧ (drivesOff s).plans = s.plans ∧ (drivesOff s).limits = s.limits ∧
    (drivesOff s).locked = s.locked ∧ (drivesOff s).links = s.links ∧ (drivesOff s).events = s.events ∧
    (drivesOff s).pending = s.pending ∧ (drivesOff s).choices = s.choices := by
  simp [drivesOff]

@[simp] theorem reproveAll_frame (s : State) :
    (reproveAll s).inputs = s.inputs ∧ (reproveAll s).dfeLanes = s.dfeLanes ∧ (reproveAll s).counter = s.counter ∧
    (reproveAll s).records = s.records ∧ (reproveAll s).rate = s.rate ∧ (reproveAll s).sched = s.sched ∧
    (reproveAll s).meter = s.meter ∧ (reproveAll s).plans = s.plans ∧ (reproveAll s).limits = s.limits ∧
    (reproveAll s).locked = s.locked ∧ (reproveAll s).links = s.links ∧ (reproveAll s).events = s.events ∧
    (reproveAll s).pending = s.pending ∧ (reproveAll s).choices = s.choices := by
  simp [reproveAll]

@[simp] theorem clearLaneWatches_frame (i : Fin 3) (s : State) :
    (clearLaneWatches i s).inputs = s.inputs ∧ (clearLaneWatches i s).dfeLanes = s.dfeLanes ∧
    (clearLaneWatches i s).counter = s.counter ∧ (clearLaneWatches i s).records = s.records ∧
    (clearLaneWatches i s).rate = s.rate ∧ (clearLaneWatches i s).sched = s.sched ∧
    (clearLaneWatches i s).meter = s.meter ∧ (clearLaneWatches i s).plans = s.plans ∧
    (clearLaneWatches i s).limits = s.limits ∧ (clearLaneWatches i s).locked = s.locked ∧
    (clearLaneWatches i s).links = s.links ∧ (clearLaneWatches i s).events = s.events ∧
    (clearLaneWatches i s).pending = s.pending ∧ (clearLaneWatches i s).choices = s.choices := by
  simp [clearLaneWatches]

/-! ### Lanes -/

@[simp] theorem enterLane_frame (i : Fin 3) (x : Lane) (s : State) :
    (enterLane i x s).inputs = s.inputs ∧ (enterLane i x s).dfeLanes = s.dfeLanes ∧
    (enterLane i x s).counter = s.counter ∧ (enterLane i x s).records = s.records ∧ (enterLane i x s).rate = s.rate ∧
    (enterLane i x s).meter = s.meter ∧ (enterLane i x s).plans = s.plans ∧ (enterLane i x s).limits = s.limits ∧
    (enterLane i x s).locked = s.locked ∧ (enterLane i x s).links = s.links ∧ (enterLane i x s).events = s.events ∧
    (enterLane i x s).pending = s.pending ∧ (enterLane i x s).choices = s.choices := by
  simp [enterLane]

@[simp] theorem orderRest_frame (i : Fin 3) (s : State) :
    (orderRest i s).inputs = s.inputs ∧ (orderRest i s).dfeLanes = s.dfeLanes ∧ (orderRest i s).counter = s.counter ∧
    (orderRest i s).records = s.records ∧ (orderRest i s).rate = s.rate ∧ (orderRest i s).meter = s.meter ∧
    (orderRest i s).plans = s.plans ∧ (orderRest i s).limits = s.limits ∧ (orderRest i s).locked = s.locked ∧
    (orderRest i s).links = s.links ∧ (orderRest i s).events = s.events ∧ (orderRest i s).pending = s.pending ∧
    (orderRest i s).choices = s.choices := by
  simp only [orderRest]; (repeat' split) <;> simp

@[simp] theorem orderClear_frame (i : Fin 3) (s : State) :
    (orderClear i s).inputs = s.inputs ∧ (orderClear i s).dfeLanes = s.dfeLanes ∧
    (orderClear i s).counter = s.counter ∧ (orderClear i s).records = s.records ∧ (orderClear i s).rate = s.rate ∧
    (orderClear i s).meter = s.meter ∧ (orderClear i s).plans = s.plans ∧ (orderClear i s).limits = s.limits ∧
    (orderClear i s).locked = s.locked ∧ (orderClear i s).links = s.links ∧ (orderClear i s).events = s.events ∧
    (orderClear i s).pending = s.pending ∧ (orderClear i s).choices = s.choices := by
  simp only [orderClear]; (repeat' split) <;> simp

@[simp] theorem orderStop_frame (i : Fin 3) (s : State) :
    (orderStop i s).inputs = s.inputs ∧ (orderStop i s).dfeLanes = s.dfeLanes ∧ (orderStop i s).counter = s.counter ∧
    (orderStop i s).records = s.records ∧ (orderStop i s).rate = s.rate ∧ (orderStop i s).meter = s.meter ∧
    (orderStop i s).plans = s.plans ∧ (orderStop i s).limits = s.limits ∧ (orderStop i s).locked = s.locked ∧
    (orderStop i s).links = s.links ∧ (orderStop i s).events = s.events ∧ (orderStop i s).pending = s.pending ∧
    (orderStop i s).choices = s.choices := by
  simp only [orderStop]; (repeat' split) <;> simp

@[simp] theorem orderGo_frame (i : Fin 3) (s : State) :
    (orderGo i s).inputs = s.inputs ∧ (orderGo i s).dfeLanes = s.dfeLanes ∧ (orderGo i s).counter = s.counter ∧
    (orderGo i s).records = s.records ∧ (orderGo i s).rate = s.rate ∧ (orderGo i s).meter = s.meter ∧
    (orderGo i s).plans = s.plans ∧ (orderGo i s).limits = s.limits ∧ (orderGo i s).locked = s.locked ∧
    (orderGo i s).links = s.links ∧ (orderGo i s).events = s.events ∧ (orderGo i s).pending = s.pending ∧
    (orderGo i s).choices = s.choices := by
  simp only [orderGo]; (repeat' split) <;> simp

@[simp] theorem orderCut_frame (i : Fin 3) (s : State) :
    (orderCut i s).inputs = s.inputs ∧ (orderCut i s).dfeLanes = s.dfeLanes ∧ (orderCut i s).counter = s.counter ∧
    (orderCut i s).records = s.records ∧ (orderCut i s).rate = s.rate ∧ (orderCut i s).meter = s.meter ∧
    (orderCut i s).plans = s.plans ∧ (orderCut i s).limits = s.limits ∧ (orderCut i s).locked = s.locked ∧
    (orderCut i s).links = s.links ∧ (orderCut i s).events = s.events ∧ (orderCut i s).pending = s.pending ∧
    (orderCut i s).choices = s.choices := by
  simp only [orderCut]; (repeat' split) <;> simp

@[simp] theorem withdrawRest_frame (i : Fin 3) (s : State) :
    (withdrawRest i s).inputs = s.inputs ∧ (withdrawRest i s).dfeLanes = s.dfeLanes ∧
    (withdrawRest i s).counter = s.counter ∧ (withdrawRest i s).records = s.records ∧
    (withdrawRest i s).rate = s.rate ∧ (withdrawRest i s).meter = s.meter ∧ (withdrawRest i s).drives = s.drives ∧
    (withdrawRest i s).plans = s.plans ∧ (withdrawRest i s).limits = s.limits ∧ (withdrawRest i s).locked = s.locked ∧
    (withdrawRest i s).links = s.links ∧ (withdrawRest i s).events = s.events ∧
    (withdrawRest i s).pending = s.pending ∧ (withdrawRest i s).choices = s.choices := by
  simp [withdrawRest]

@[simp] theorem carryOutHeld_frame (i : Fin 3) (s : State) :
    (carryOutHeld i s).inputs = s.inputs ∧ (carryOutHeld i s).dfeLanes = s.dfeLanes ∧
    (carryOutHeld i s).counter = s.counter ∧ (carryOutHeld i s).records = s.records ∧
    (carryOutHeld i s).rate = s.rate ∧ (carryOutHeld i s).meter = s.meter ∧ (carryOutHeld i s).plans = s.plans ∧
    (carryOutHeld i s).limits = s.limits ∧ (carryOutHeld i s).locked = s.locked ∧ (carryOutHeld i s).links = s.links ∧
    (carryOutHeld i s).events = s.events ∧ (carryOutHeld i s).pending = s.pending ∧
    (carryOutHeld i s).choices = s.choices := by
  simp only [carryOutHeld]; (repeat' split) <;> simp

@[simp] theorem endGreen_frame (i : Fin 3) (s : State) :
    (endGreen i s).inputs = s.inputs ∧ (endGreen i s).dfeLanes = s.dfeLanes ∧ (endGreen i s).counter = s.counter ∧
    (endGreen i s).records = s.records ∧ (endGreen i s).rate = s.rate ∧ (endGreen i s).meter = s.meter ∧
    (endGreen i s).plans = s.plans ∧ (endGreen i s).limits = s.limits ∧ (endGreen i s).locked = s.locked ∧
    (endGreen i s).links = s.links ∧ (endGreen i s).events = s.events ∧ (endGreen i s).pending = s.pending ∧
    (endGreen i s).choices = s.choices := by
  simp [endGreen]

@[simp] theorem endAmber_frame (i : Fin 3) (s : State) :
    (endAmber i s).inputs = s.inputs ∧ (endAmber i s).dfeLanes = s.dfeLanes ∧ (endAmber i s).counter = s.counter ∧
    (endAmber i s).records = s.records ∧ (endAmber i s).rate = s.rate ∧ (endAmber i s).meter = s.meter ∧
    (endAmber i s).plans = s.plans ∧ (endAmber i s).limits = s.limits ∧ (endAmber i s).locked = s.locked ∧
    (endAmber i s).links = s.links ∧ (endAmber i s).events = s.events ∧ (endAmber i s).pending = s.pending ∧
    (endAmber i s).choices = s.choices := by
  simp [endAmber]

@[simp] theorem endRed_frame (i : Fin 3) (s : State) :
    (endRed i s).inputs = s.inputs ∧ (endRed i s).dfeLanes = s.dfeLanes ∧ (endRed i s).counter = s.counter ∧
    (endRed i s).records = s.records ∧ (endRed i s).rate = s.rate ∧ (endRed i s).meter = s.meter ∧
    (endRed i s).plans = s.plans ∧ (endRed i s).limits = s.limits ∧ (endRed i s).locked = s.locked ∧
    (endRed i s).links = s.links ∧ (endRed i s).events = s.events ∧ (endRed i s).pending = s.pending ∧
    (endRed i s).choices = s.choices := by
  simp [endRed]

@[simp] theorem formRing_frame (s : State) :
    (formRing s).inputs = s.inputs ∧ (formRing s).dfeLanes = s.dfeLanes ∧ (formRing s).counter = s.counter ∧
    (formRing s).records = s.records ∧ (formRing s).rate = s.rate ∧ (formRing s).meter = s.meter ∧
    (formRing s).drives = s.drives ∧ (formRing s).plans = s.plans ∧ (formRing s).limits = s.limits ∧
    (formRing s).locked = s.locked ∧ (formRing s).links = s.links ∧ (formRing s).events = s.events ∧
    (formRing s).pending = s.pending ∧ (formRing s).choices = s.choices := by
  simp [formRing]

@[simp] theorem emptyRing_frame (s : State) :
    (emptyRing s).inputs = s.inputs ∧ (emptyRing s).dfeLanes = s.dfeLanes ∧ (emptyRing s).counter = s.counter ∧
    (emptyRing s).records = s.records ∧ (emptyRing s).rate = s.rate ∧ (emptyRing s).meter = s.meter ∧
    (emptyRing s).drives = s.drives ∧ (emptyRing s).plans = s.plans ∧ (emptyRing s).limits = s.limits ∧
    (emptyRing s).locked = s.locked ∧ (emptyRing s).links = s.links ∧ (emptyRing s).events = s.events ∧
    (emptyRing s).pending = s.pending ∧ (emptyRing s).choices = s.choices := by
  simp [emptyRing]

@[simp] theorem grant_frame (i : Fin 3) (s : State) :
    (grant i s).inputs = s.inputs ∧ (grant i s).dfeLanes = s.dfeLanes ∧ (grant i s).counter = s.counter ∧
    (grant i s).records = s.records ∧ (grant i s).rate = s.rate ∧ (grant i s).meter = s.meter ∧
    (grant i s).plans = s.plans ∧ (grant i s).limits = s.limits ∧ (grant i s).locked = s.locked ∧
    (grant i s).links = s.links ∧ (grant i s).events = s.events ∧ (grant i s).pending = s.pending ∧
    (grant i s).choices = s.choices := by
  simp [grant]

@[simp] theorem releaseDue_frame (s : State) :
    (releaseDue s).inputs = s.inputs ∧ (releaseDue s).dfeLanes = s.dfeLanes ∧ (releaseDue s).counter = s.counter ∧
    (releaseDue s).records = s.records ∧ (releaseDue s).rate = s.rate ∧ (releaseDue s).meter = s.meter ∧
    (releaseDue s).plans = s.plans ∧ (releaseDue s).limits = s.limits ∧ (releaseDue s).locked = s.locked ∧
    (releaseDue s).links = s.links ∧ (releaseDue s).events = s.events ∧ (releaseDue s).pending = s.pending ∧
    (releaseDue s).choices = s.choices := by
  simp only [releaseDue]; (repeat' split) <;> simp

@[simp] theorem takePending_frame (s : State) :
    (takePending s).inputs = s.inputs ∧ (takePending s).dfeLanes = s.dfeLanes ∧ (takePending s).counter = s.counter ∧
    (takePending s).records = s.records ∧ (takePending s).rate = s.rate ∧ (takePending s).meter = s.meter ∧
    (takePending s).plans = s.plans ∧ (takePending s).limits = s.limits ∧ (takePending s).locked = s.locked ∧
    (takePending s).links = s.links ∧ (takePending s).events = s.events ∧ (takePending s).pending = s.pending ∧
    (takePending s).choices = s.choices := by
  simp only [takePending]; (repeat' split) <;> simp

@[simp] theorem handHeadway_frame (h : Nat) (s : State) :
    (handHeadway h s).inputs = s.inputs ∧ (handHeadway h s).dfeLanes = s.dfeLanes ∧
    (handHeadway h s).counter = s.counter ∧ (handHeadway h s).records = s.records ∧ (handHeadway h s).rate = s.rate ∧
    (handHeadway h s).meter = s.meter ∧ (handHeadway h s).plans = s.plans ∧ (handHeadway h s).limits = s.limits ∧
    (handHeadway h s).locked = s.locked ∧ (handHeadway h s).links = s.links ∧ (handHeadway h s).events = s.events ∧
    (handHeadway h s).pending = s.pending ∧ (handHeadway h s).choices = s.choices := by
  simp [handHeadway]

@[simp] theorem resumeReleases_frame (s : State) :
    (resumeReleases s).inputs = s.inputs ∧ (resumeReleases s).dfeLanes = s.dfeLanes ∧
    (resumeReleases s).counter = s.counter ∧ (resumeReleases s).records = s.records ∧
    (resumeReleases s).rate = s.rate ∧ (resumeReleases s).meter = s.meter ∧ (resumeReleases s).plans = s.plans ∧
    (resumeReleases s).limits = s.limits ∧ (resumeReleases s).locked = s.locked ∧ (resumeReleases s).links = s.links ∧
    (resumeReleases s).events = s.events ∧ (resumeReleases s).pending = s.pending ∧
    (resumeReleases s).choices = s.choices := by
  simp [resumeReleases]

/-! ### Rate -/

@[simp] theorem runCombine_frame (entry : Bool) (s : State) :
    (runCombine entry s).inputs = s.inputs ∧ (runCombine entry s).dfeLanes = s.dfeLanes ∧
    (runCombine entry s).counter = s.counter ∧ (runCombine entry s).records = s.records ∧
    (runCombine entry s).meter = s.meter ∧ (runCombine entry s).plans = s.plans ∧
    (runCombine entry s).limits = s.limits ∧ (runCombine entry s).locked = s.locked ∧
    (runCombine entry s).links = s.links ∧ (runCombine entry s).events = s.events ∧
    (runCombine entry s).pending = s.pending ∧ (runCombine entry s).choices = s.choices := by
  simp only [runCombine]; (repeat' split) <;> simp

@[simp] theorem recombine_frame (s : State) :
    (recombine s).inputs = s.inputs ∧ (recombine s).dfeLanes = s.dfeLanes ∧ (recombine s).counter = s.counter ∧
    (recombine s).records = s.records ∧ (recombine s).meter = s.meter ∧ (recombine s).plans = s.plans ∧
    (recombine s).limits = s.limits ∧ (recombine s).locked = s.locked ∧ (recombine s).links = s.links ∧
    (recombine s).events = s.events ∧ (recombine s).pending = s.pending ∧ (recombine s).choices = s.choices := by
  simp [recombine]

@[simp] theorem recombineFault_frame (s : State) :
    (recombineFault s).inputs = s.inputs ∧ (recombineFault s).dfeLanes = s.dfeLanes ∧
    (recombineFault s).counter = s.counter ∧ (recombineFault s).records = s.records ∧
    (recombineFault s).meter = s.meter ∧ (recombineFault s).plans = s.plans ∧ (recombineFault s).limits = s.limits ∧
    (recombineFault s).locked = s.locked ∧ (recombineFault s).links = s.links ∧ (recombineFault s).events = s.events ∧
    (recombineFault s).pending = s.pending ∧ (recombineFault s).choices = s.choices := by
  simp [recombineFault]

@[simp] theorem disengage_frame (s : State) :
    (disengage s).inputs = s.inputs ∧ (disengage s).dfeLanes = s.dfeLanes ∧ (disengage s).counter = s.counter ∧
    (disengage s).records = s.records ∧ (disengage s).sched = s.sched ∧ (disengage s).meter = s.meter ∧
    (disengage s).drives = s.drives ∧ (disengage s).plans = s.plans ∧ (disengage s).limits = s.limits ∧
    (disengage s).locked = s.locked ∧ (disengage s).links = s.links ∧ (disengage s).events = s.events ∧
    (disengage s).pending = s.pending ∧ (disengage s).choices = s.choices := by
  simp [disengage]

@[simp] theorem entryFromStartup_frame (s : State) :
    (entryFromStartup s).inputs = s.inputs ∧ (entryFromStartup s).dfeLanes = s.dfeLanes ∧
    (entryFromStartup s).counter = s.counter ∧ (entryFromStartup s).records = s.records ∧
    (entryFromStartup s).meter = s.meter ∧ (entryFromStartup s).plans = s.plans ∧
    (entryFromStartup s).limits = s.limits ∧ (entryFromStartup s).locked = s.locked ∧
    (entryFromStartup s).links = s.links ∧ (entryFromStartup s).events = s.events ∧
    (entryFromStartup s).pending = s.pending ∧ (entryFromStartup s).choices = s.choices := by
  simp only [entryFromStartup]; (repeat' split) <;> simp

@[simp] theorem entryFromShutdown_frame (s : State) :
    (entryFromShutdown s).inputs = s.inputs ∧ (entryFromShutdown s).dfeLanes = s.dfeLanes ∧
    (entryFromShutdown s).counter = s.counter ∧ (entryFromShutdown s).records = s.records ∧
    (entryFromShutdown s).meter = s.meter ∧ (entryFromShutdown s).plans = s.plans ∧
    (entryFromShutdown s).limits = s.limits ∧ (entryFromShutdown s).locked = s.locked ∧
    (entryFromShutdown s).links = s.links ∧ (entryFromShutdown s).events = s.events ∧
    (entryFromShutdown s).pending = s.pending ∧ (entryFromShutdown s).choices = s.choices := by
  simp only [entryFromShutdown]; (repeat' split) <;> simp

@[simp] theorem feedbackAtClose_frame (om : Option Nat) (s : State) :
    (feedbackAtClose om s).inputs = s.inputs ∧ (feedbackAtClose om s).dfeLanes = s.dfeLanes ∧
    (feedbackAtClose om s).counter = s.counter ∧ (feedbackAtClose om s).records = s.records ∧
    (feedbackAtClose om s).sched = s.sched ∧ (feedbackAtClose om s).meter = s.meter ∧
    (feedbackAtClose om s).drives = s.drives ∧ (feedbackAtClose om s).plans = s.plans ∧
    (feedbackAtClose om s).limits = s.limits ∧ (feedbackAtClose om s).locked = s.locked ∧
    (feedbackAtClose om s).links = s.links ∧ (feedbackAtClose om s).pending = s.pending ∧
    (feedbackAtClose om s).choices = s.choices := by
  simp only [feedbackAtClose]; (repeat' split) <;> simp

/-! ### Modes -/

@[simp] theorem changeMode_frame (m : Mode) (cause : ModeCause) (s : State) :
    (changeMode m cause s).inputs = s.inputs ∧ (changeMode m cause s).dfeLanes = s.dfeLanes ∧
    (changeMode m cause s).counter = s.counter ∧ (changeMode m cause s).records = s.records ∧
    (changeMode m cause s).rate = s.rate ∧ (changeMode m cause s).sched = s.sched ∧
    (changeMode m cause s).drives = s.drives ∧ (changeMode m cause s).plans = s.plans ∧
    (changeMode m cause s).limits = s.limits ∧ (changeMode m cause s).locked = s.locked ∧
    (changeMode m cause s).links = s.links ∧ (changeMode m cause s).pending = s.pending ∧
    (changeMode m cause s).choices = s.choices := by
  simp [changeMode]

@[simp] theorem clearAspects_frame (s : State) :
    (clearAspects s).inputs = s.inputs ∧ (clearAspects s).dfeLanes = s.dfeLanes ∧
    (clearAspects s).counter = s.counter ∧ (clearAspects s).records = s.records ∧ (clearAspects s).rate = s.rate ∧
    (clearAspects s).sched = s.sched ∧ (clearAspects s).drives = s.drives ∧ (clearAspects s).plans = s.plans ∧
    (clearAspects s).limits = s.limits ∧ (clearAspects s).locked = s.locked ∧ (clearAspects s).links = s.links ∧
    (clearAspects s).events = s.events ∧ (clearAspects s).pending = s.pending ∧
    (clearAspects s).choices = s.choices := by
  simp [clearAspects]

@[simp] theorem leaveReleases_frame (s : State) :
    (leaveReleases s).inputs = s.inputs ∧ (leaveReleases s).dfeLanes = s.dfeLanes ∧
    (leaveReleases s).counter = s.counter ∧ (leaveReleases s).records = s.records ∧
    (leaveReleases s).meter = s.meter ∧ (leaveReleases s).drives = s.drives ∧ (leaveReleases s).plans = s.plans ∧
    (leaveReleases s).limits = s.limits ∧ (leaveReleases s).locked = s.locked ∧ (leaveReleases s).links = s.links ∧
    (leaveReleases s).events = s.events ∧ (leaveReleases s).pending = s.pending ∧
    (leaveReleases s).choices = s.choices := by
  simp [leaveReleases]

@[simp] theorem restoreDark_frame (i : Fin 3) (s : State) :
    (restoreDark i s).inputs = s.inputs ∧ (restoreDark i s).dfeLanes = s.dfeLanes ∧
    (restoreDark i s).counter = s.counter ∧ (restoreDark i s).records = s.records ∧ (restoreDark i s).rate = s.rate ∧
    (restoreDark i s).meter = s.meter ∧ (restoreDark i s).plans = s.plans ∧ (restoreDark i s).limits = s.limits ∧
    (restoreDark i s).locked = s.locked ∧ (restoreDark i s).links = s.links ∧ (restoreDark i s).events = s.events ∧
    (restoreDark i s).pending = s.pending ∧ (restoreDark i s).choices = s.choices := by
  simp [restoreDark]

@[simp] theorem enterDark_frame (cause : ModeCause) (s : State) :
    (enterDark cause s).inputs = s.inputs ∧ (enterDark cause s).dfeLanes = s.dfeLanes ∧
    (enterDark cause s).counter = s.counter ∧ (enterDark cause s).records = s.records ∧
    (enterDark cause s).plans = s.plans ∧ (enterDark cause s).limits = s.limits ∧
    (enterDark cause s).locked = s.locked ∧ (enterDark cause s).links = s.links ∧
    (enterDark cause s).pending = s.pending ∧ (enterDark cause s).choices = s.choices := by
  simp [enterDark]

@[simp] theorem startMeter_frame (cause : ModeCause) (s : State) :
    (startMeter cause s).inputs = s.inputs ∧ (startMeter cause s).dfeLanes = s.dfeLanes ∧
    (startMeter cause s).counter = s.counter ∧ (startMeter cause s).records = s.records ∧
    (startMeter cause s).rate = s.rate ∧ (startMeter cause s).plans = s.plans ∧
    (startMeter cause s).limits = s.limits ∧ (startMeter cause s).locked = s.locked ∧
    (startMeter cause s).links = s.links ∧ (startMeter cause s).pending = s.pending ∧
    (startMeter cause s).choices = s.choices := by
  simp [startMeter]

@[simp] theorem tryStart_frame (cause : ModeCause) (s : State) :
    (tryStart cause s).inputs = s.inputs ∧ (tryStart cause s).dfeLanes = s.dfeLanes ∧
    (tryStart cause s).counter = s.counter ∧ (tryStart cause s).records = s.records ∧
    (tryStart cause s).rate = s.rate ∧ (tryStart cause s).plans = s.plans ∧ (tryStart cause s).limits = s.limits ∧
    (tryStart cause s).locked = s.locked ∧ (tryStart cause s).links = s.links ∧
    (tryStart cause s).pending = s.pending ∧ (tryStart cause s).choices = s.choices := by
  simp [tryStart]

@[simp] theorem enterMetering_frame (s : State) :
    (enterMetering s).inputs = s.inputs ∧ (enterMetering s).dfeLanes = s.dfeLanes ∧
    (enterMetering s).counter = s.counter ∧ (enterMetering s).records = s.records ∧
    (enterMetering s).plans = s.plans ∧ (enterMetering s).limits = s.limits ∧ (enterMetering s).locked = s.locked ∧
    (enterMetering s).links = s.links ∧ (enterMetering s).pending = s.pending ∧
    (enterMetering s).choices = s.choices := by
  simp [enterMetering]

@[simp] theorem checkCleared_frame (s : State) :
    (checkCleared s).inputs = s.inputs ∧ (checkCleared s).dfeLanes = s.dfeLanes ∧
    (checkCleared s).counter = s.counter ∧ (checkCleared s).records = s.records ∧ (checkCleared s).plans = s.plans ∧
    (checkCleared s).limits = s.limits ∧ (checkCleared s).locked = s.locked ∧ (checkCleared s).links = s.links ∧
    (checkCleared s).pending = s.pending ∧ (checkCleared s).choices = s.choices := by
  simp [checkCleared]

@[simp] theorem judgeStart_frame (s : State) :
    (judgeStart s).inputs = s.inputs ∧ (judgeStart s).dfeLanes = s.dfeLanes ∧ (judgeStart s).counter = s.counter ∧
    (judgeStart s).records = s.records ∧ (judgeStart s).rate = s.rate ∧ (judgeStart s).plans = s.plans ∧
    (judgeStart s).limits = s.limits ∧ (judgeStart s).locked = s.locked ∧ (judgeStart s).links = s.links ∧
    (judgeStart s).pending = s.pending ∧ (judgeStart s).choices = s.choices := by
  simp [judgeStart]

@[simp] theorem enterDarkJudged_frame (cause : ModeCause) (s : State) :
    (enterDarkJudged cause s).inputs = s.inputs ∧ (enterDarkJudged cause s).dfeLanes = s.dfeLanes ∧
    (enterDarkJudged cause s).counter = s.counter ∧ (enterDarkJudged cause s).records = s.records ∧
    (enterDarkJudged cause s).plans = s.plans ∧ (enterDarkJudged cause s).limits = s.limits ∧
    (enterDarkJudged cause s).locked = s.locked ∧ (enterDarkJudged cause s).links = s.links ∧
    (enterDarkJudged cause s).pending = s.pending ∧ (enterDarkJudged cause s).choices = s.choices := by
  simp [enterDarkJudged]

@[simp] theorem checkStopped_frame (s : State) :
    (checkStopped s).inputs = s.inputs ∧ (checkStopped s).dfeLanes = s.dfeLanes ∧
    (checkStopped s).counter = s.counter ∧ (checkStopped s).records = s.records ∧ (checkStopped s).plans = s.plans ∧
    (checkStopped s).limits = s.limits ∧ (checkStopped s).locked = s.locked ∧ (checkStopped s).links = s.links ∧
    (checkStopped s).pending = s.pending ∧ (checkStopped s).choices = s.choices := by
  simp [checkStopped]

@[simp] theorem interruptStartup_frame (s : State) :
    (interruptStartup s).inputs = s.inputs ∧ (interruptStartup s).dfeLanes = s.dfeLanes ∧
    (interruptStartup s).counter = s.counter ∧ (interruptStartup s).records = s.records ∧
    (interruptStartup s).plans = s.plans ∧ (interruptStartup s).limits = s.limits ∧
    (interruptStartup s).locked = s.locked ∧ (interruptStartup s).links = s.links ∧
    (interruptStartup s).pending = s.pending ∧ (interruptStartup s).choices = s.choices := by
  simp [interruptStartup]

@[simp] theorem checkResting_frame (s : State) :
    (checkResting s).inputs = s.inputs ∧ (checkResting s).dfeLanes = s.dfeLanes ∧
    (checkResting s).counter = s.counter ∧ (checkResting s).records = s.records ∧ (checkResting s).rate = s.rate ∧
    (checkResting s).sched = s.sched ∧ (checkResting s).drives = s.drives ∧ (checkResting s).plans = s.plans ∧
    (checkResting s).limits = s.limits ∧ (checkResting s).locked = s.locked ∧ (checkResting s).links = s.links ∧
    (checkResting s).events = s.events ∧ (checkResting s).pending = s.pending ∧
    (checkResting s).choices = s.choices := by
  simp [checkResting]

@[simp] theorem shutdown_frame (cause : ModeCause) (s : State) :
    (shutdown cause s).inputs = s.inputs ∧ (shutdown cause s).dfeLanes = s.dfeLanes ∧
    (shutdown cause s).counter = s.counter ∧ (shutdown cause s).records = s.records ∧
    (shutdown cause s).plans = s.plans ∧ (shutdown cause s).limits = s.limits ∧ (shutdown cause s).locked = s.locked ∧
    (shutdown cause s).links = s.links ∧ (shutdown cause s).pending = s.pending ∧
    (shutdown cause s).choices = s.choices := by
  simp [shutdown]

@[simp] theorem returnLane_frame (i : Fin 3) (s : State) :
    (returnLane i s).inputs = s.inputs ∧ (returnLane i s).dfeLanes = s.dfeLanes ∧
    (returnLane i s).counter = s.counter ∧ (returnLane i s).records = s.records ∧ (returnLane i s).rate = s.rate ∧
    (returnLane i s).meter = s.meter ∧ (returnLane i s).plans = s.plans ∧ (returnLane i s).limits = s.limits ∧
    (returnLane i s).locked = s.locked ∧ (returnLane i s).links = s.links ∧ (returnLane i s).events = s.events ∧
    (returnLane i s).pending = s.pending ∧ (returnLane i s).choices = s.choices := by
  simp only [returnLane]; (repeat' split) <;> simp

@[simp] theorem returnToMetering_frame (s : State) :
    (returnToMetering s).inputs = s.inputs ∧ (returnToMetering s).dfeLanes = s.dfeLanes ∧
    (returnToMetering s).counter = s.counter ∧ (returnToMetering s).records = s.records ∧
    (returnToMetering s).plans = s.plans ∧ (returnToMetering s).limits = s.limits ∧
    (returnToMetering s).locked = s.locked ∧ (returnToMetering s).links = s.links ∧
    (returnToMetering s).pending = s.pending ∧ (returnToMetering s).choices = s.choices := by
  simp [returnToMetering]

@[simp] theorem actOnStop_frame (cause : ModeCause) (s : State) :
    (actOnStop cause s).inputs = s.inputs ∧ (actOnStop cause s).dfeLanes = s.dfeLanes ∧
    (actOnStop cause s).counter = s.counter ∧ (actOnStop cause s).records = s.records ∧
    (actOnStop cause s).plans = s.plans ∧ (actOnStop cause s).limits = s.limits ∧
    (actOnStop cause s).locked = s.locked ∧ (actOnStop cause s).links = s.links ∧
    (actOnStop cause s).pending = s.pending ∧ (actOnStop cause s).choices = s.choices := by
  simp only [actOnStop]; (repeat' split) <;> simp

@[simp] theorem actOnStart_frame (s : State) :
    (actOnStart s).inputs = s.inputs ∧ (actOnStart s).dfeLanes = s.dfeLanes ∧ (actOnStart s).counter = s.counter ∧
    (actOnStart s).records = s.records ∧ (actOnStart s).plans = s.plans ∧ (actOnStart s).limits = s.limits ∧
    (actOnStart s).locked = s.locked ∧ (actOnStart s).links = s.links ∧ (actOnStart s).pending = s.pending ∧
    (actOnStart s).choices = s.choices := by
  simp only [actOnStart]; (repeat' split) <;> simp

@[simp] theorem judgeWish_frame (s : State) :
    (judgeWish s).inputs = s.inputs ∧ (judgeWish s).dfeLanes = s.dfeLanes ∧ (judgeWish s).counter = s.counter ∧
    (judgeWish s).records = s.records ∧ (judgeWish s).plans = s.plans ∧ (judgeWish s).limits = s.limits ∧
    (judgeWish s).locked = s.locked ∧ (judgeWish s).links = s.links ∧ (judgeWish s).pending = s.pending ∧
    (judgeWish s).choices = s.choices := by
  simp only [judgeWish]; (repeat' split) <;> simp

@[simp] theorem advanceSequence_frame (s : State) :
    (advanceSequence s).inputs = s.inputs ∧ (advanceSequence s).dfeLanes = s.dfeLanes ∧
    (advanceSequence s).counter = s.counter ∧ (advanceSequence s).records = s.records ∧
    (advanceSequence s).plans = s.plans ∧ (advanceSequence s).limits = s.limits ∧
    (advanceSequence s).locked = s.locked ∧ (advanceSequence s).links = s.links ∧
    (advanceSequence s).pending = s.pending ∧ (advanceSequence s).choices = s.choices := by
  simp [advanceSequence]

@[simp] theorem formResolved_frame (s : State) :
    (formResolved s).inputs = s.inputs ∧ (formResolved s).dfeLanes = s.dfeLanes ∧
    (formResolved s).counter = s.counter ∧ (formResolved s).records = s.records ∧ (formResolved s).rate = s.rate ∧
    (formResolved s).sched = s.sched ∧ (formResolved s).drives = s.drives ∧ (formResolved s).plans = s.plans ∧
    (formResolved s).limits = s.limits ∧ (formResolved s).locked = s.locked ∧ (formResolved s).links = s.links ∧
    (formResolved s).events = s.events ∧ (formResolved s).pending = s.pending ∧
    (formResolved s).choices = s.choices := by
  simp [formResolved]

@[simp] theorem resolve_frame (s : State) :
    (resolve s).inputs = s.inputs ∧ (resolve s).dfeLanes = s.dfeLanes ∧ (resolve s).counter = s.counter ∧
    (resolve s).records = s.records ∧ (resolve s).plans = s.plans ∧ (resolve s).limits = s.limits ∧
    (resolve s).locked = s.locked ∧ (resolve s).links = s.links ∧ (resolve s).pending = s.pending ∧
    (resolve s).choices = s.choices := by
  simp [resolve]

@[simp] theorem putRequest_frame (l : LinkId) (a : Activation) (s : State) :
    (putRequest l a s).inputs = s.inputs ∧ (putRequest l a s).dfeLanes = s.dfeLanes ∧
    (putRequest l a s).counter = s.counter ∧ (putRequest l a s).records = s.records ∧
    (putRequest l a s).rate = s.rate ∧ (putRequest l a s).sched = s.sched ∧ (putRequest l a s).drives = s.drives ∧
    (putRequest l a s).plans = s.plans ∧ (putRequest l a s).limits = s.limits ∧ (putRequest l a s).locked = s.locked ∧
    (putRequest l a s).links = s.links ∧ (putRequest l a s).events = s.events ∧
    (putRequest l a s).pending = s.pending ∧ (putRequest l a s).choices = s.choices := by
  simp [putRequest]

@[simp] theorem enterHold_frame (owner : LinkId) (s : State) :
    (enterHold owner s).inputs = s.inputs ∧ (enterHold owner s).dfeLanes = s.dfeLanes ∧
    (enterHold owner s).counter = s.counter ∧ (enterHold owner s).records = s.records ∧
    (enterHold owner s).rate = s.rate ∧ (enterHold owner s).sched = s.sched ∧ (enterHold owner s).drives = s.drives ∧
    (enterHold owner s).plans = s.plans ∧ (enterHold owner s).limits = s.limits ∧
    (enterHold owner s).locked = s.locked ∧ (enterHold owner s).links = s.links ∧
    (enterHold owner s).pending = s.pending ∧ (enterHold owner s).choices = s.choices := by
  simp [enterHold]

@[simp] theorem leaveHold_frame (cause : ModeCause) (s : State) :
    (leaveHold cause s).inputs = s.inputs ∧ (leaveHold cause s).dfeLanes = s.dfeLanes ∧
    (leaveHold cause s).counter = s.counter ∧ (leaveHold cause s).records = s.records ∧
    (leaveHold cause s).rate = s.rate ∧ (leaveHold cause s).plans = s.plans ∧ (leaveHold cause s).limits = s.limits ∧
    (leaveHold cause s).locked = s.locked ∧ (leaveHold cause s).links = s.links ∧
    (leaveHold cause s).pending = s.pending ∧ (leaveHold cause s).choices = s.choices := by
  simp [leaveHold]

@[simp] theorem endHold_frame (kind : EventKind) (detail : Nat) (s : State) :
    (endHold kind detail s).inputs = s.inputs ∧ (endHold kind detail s).dfeLanes = s.dfeLanes ∧
    (endHold kind detail s).counter = s.counter ∧ (endHold kind detail s).records = s.records ∧
    (endHold kind detail s).rate = s.rate ∧ (endHold kind detail s).plans = s.plans ∧
    (endHold kind detail s).limits = s.limits ∧ (endHold kind detail s).locked = s.locked ∧
    (endHold kind detail s).links = s.links ∧ (endHold kind detail s).pending = s.pending ∧
    (endHold kind detail s).choices = s.choices := by
  simp only [endHold]; (repeat' split) <;> simp

@[simp] theorem handStop_frame (i : Fin 3) (s : State) :
    (handStop i s).inputs = s.inputs ∧ (handStop i s).dfeLanes = s.dfeLanes ∧ (handStop i s).counter = s.counter ∧
    (handStop i s).records = s.records ∧ (handStop i s).rate = s.rate ∧ (handStop i s).meter = s.meter ∧
    (handStop i s).plans = s.plans ∧ (handStop i s).limits = s.limits ∧ (handStop i s).locked = s.locked ∧
    (handStop i s).links = s.links ∧ (handStop i s).events = s.events ∧ (handStop i s).pending = s.pending ∧
    (handStop i s).choices = s.choices := by
  simp only [handStop]; split <;> simp

/-- All that a hand stop can do: nothing in AMBER, else what the stop order does (R72, R103). -/
theorem handStop_cases (i : Fin 3) (s : State) :
    ((s.lane i).state = .amber ∧ handStop i s = s) ∨ ((s.lane i).state ≠ .amber ∧ handStop i s = orderStop i s) := by
  by_cases h : (s.lane i).state = .amber <;> simp [handStop, h]

@[simp] theorem workOnce_frame (i : Fin 3) (s : State) :
    (workOnce i s).inputs = s.inputs ∧ (workOnce i s).dfeLanes = s.dfeLanes ∧ (workOnce i s).counter = s.counter ∧
    (workOnce i s).records = s.records ∧ (workOnce i s).rate = s.rate ∧ (workOnce i s).plans = s.plans ∧
    (workOnce i s).limits = s.limits ∧ (workOnce i s).locked = s.locked ∧ (workOnce i s).links = s.links ∧
    (workOnce i s).events = s.events ∧ (workOnce i s).pending = s.pending ∧ (workOnce i s).choices = s.choices := by
  simp only [workOnce]; (repeat' split) <;> simp

@[simp] theorem workLane_frame (i : Fin 3) (s : State) :
    (workLane i s).inputs = s.inputs ∧ (workLane i s).dfeLanes = s.dfeLanes ∧ (workLane i s).counter = s.counter ∧
    (workLane i s).records = s.records ∧ (workLane i s).rate = s.rate ∧ (workLane i s).plans = s.plans ∧
    (workLane i s).limits = s.limits ∧ (workLane i s).locked = s.locked ∧ (workLane i s).links = s.links ∧
    (workLane i s).events = s.events ∧ (workLane i s).pending = s.pending ∧ (workLane i s).choices = s.choices := by
  simp [workLane]

@[simp] theorem afterLaneChange_frame (i : Fin 3) (s : State) :
    (afterLaneChange i s).inputs = s.inputs ∧ (afterLaneChange i s).dfeLanes = s.dfeLanes ∧
    (afterLaneChange i s).counter = s.counter ∧ (afterLaneChange i s).records = s.records ∧
    (afterLaneChange i s).plans = s.plans ∧ (afterLaneChange i s).limits = s.limits ∧
    (afterLaneChange i s).locked = s.locked ∧ (afterLaneChange i s).links = s.links ∧
    (afterLaneChange i s).pending = s.pending ∧ (afterLaneChange i s).choices = s.choices := by
  simp [afterLaneChange]

@[simp] theorem takeManual_frame (i : Fin 3) (s : State) :
    (takeManual i s).inputs = s.inputs ∧ (takeManual i s).dfeLanes = s.dfeLanes ∧
    (takeManual i s).counter = s.counter ∧ (takeManual i s).records = s.records ∧ (takeManual i s).rate = s.rate ∧
    (takeManual i s).plans = s.plans ∧ (takeManual i s).limits = s.limits ∧ (takeManual i s).locked = s.locked ∧
    (takeManual i s).links = s.links ∧ (takeManual i s).events = s.events ∧ (takeManual i s).pending = s.pending ∧
    (takeManual i s).choices = s.choices := by
  simp [takeManual]

@[simp] theorem enterManual_frame (s : State) :
    (enterManual s).inputs = s.inputs ∧ (enterManual s).dfeLanes = s.dfeLanes ∧ (enterManual s).counter = s.counter ∧
    (enterManual s).records = s.records ∧ (enterManual s).plans = s.plans ∧ (enterManual s).limits = s.limits ∧
    (enterManual s).locked = s.locked ∧ (enterManual s).links = s.links ∧ (enterManual s).pending = s.pending ∧
    (enterManual s).choices = s.choices := by
  simp [enterManual]

@[simp] theorem endManual_frame (cause : ModeCause) (s : State) :
    (endManual cause s).inputs = s.inputs ∧ (endManual cause s).dfeLanes = s.dfeLanes ∧
    (endManual cause s).counter = s.counter ∧ (endManual cause s).records = s.records ∧
    (endManual cause s).plans = s.plans ∧ (endManual cause s).limits = s.limits ∧
    (endManual cause s).locked = s.locked ∧ (endManual cause s).links = s.links ∧
    (endManual cause s).pending = s.pending ∧ (endManual cause s).choices = s.choices := by
  simp [endManual]

@[simp] theorem enterFaultDark_frame (s : State) :
    (enterFaultDark s).inputs = s.inputs ∧ (enterFaultDark s).dfeLanes = s.dfeLanes ∧
    (enterFaultDark s).counter = s.counter ∧ (enterFaultDark s).records = s.records ∧
    (enterFaultDark s).plans = s.plans ∧ (enterFaultDark s).limits = s.limits ∧ (enterFaultDark s).locked = s.locked ∧
    (enterFaultDark s).links = s.links ∧ (enterFaultDark s).pending = s.pending ∧
    (enterFaultDark s).choices = s.choices := by
  simp [enterFaultDark]

@[simp] theorem meterFault_frame (i : Fin 3) (cause : MeterFaultCause) (s : State) :
    (meterFault i cause s).inputs = s.inputs ∧ (meterFault i cause s).dfeLanes = s.dfeLanes ∧
    (meterFault i cause s).counter = s.counter ∧ (meterFault i cause s).records = s.records ∧
    (meterFault i cause s).plans = s.plans ∧ (meterFault i cause s).limits = s.limits ∧
    (meterFault i cause s).locked = s.locked ∧ (meterFault i cause s).links = s.links ∧
    (meterFault i cause s).pending = s.pending ∧ (meterFault i cause s).choices = s.choices := by
  simp [meterFault]

/-! ### Detectors -/

@[simp] theorem spillRises_frame (recombining : Bool) (d : Fin 16) (s : State) :
    (spillRises recombining d s).inputs = s.inputs ∧ (spillRises recombining d s).dfeLanes = s.dfeLanes ∧
    (spillRises recombining d s).counter = s.counter ∧ (spillRises recombining d s).records = s.records ∧
    (spillRises recombining d s).plans = s.plans ∧ (spillRises recombining d s).limits = s.limits ∧
    (spillRises recombining d s).locked = s.locked ∧ (spillRises recombining d s).links = s.links ∧
    (spillRises recombining d s).pending = s.pending ∧ (spillRises recombining d s).choices = s.choices := by
  simp [spillRises]

@[simp] theorem spillFalls_frame (recombining : Bool) (detail : Nat) (s : State) :
    (spillFalls recombining detail s).inputs = s.inputs ∧ (spillFalls recombining detail s).dfeLanes = s.dfeLanes ∧
    (spillFalls recombining detail s).counter = s.counter ∧ (spillFalls recombining detail s).records = s.records ∧
    (spillFalls recombining detail s).meter = s.meter ∧ (spillFalls recombining detail s).plans = s.plans ∧
    (spillFalls recombining detail s).limits = s.limits ∧ (spillFalls recombining detail s).locked = s.locked ∧
    (spillFalls recombining detail s).links = s.links ∧ (spillFalls recombining detail s).pending = s.pending ∧
    (spillFalls recombining detail s).choices = s.choices := by
  simp [spillFalls]

@[simp] theorem judgeSpillOn_frame (recombining : Bool) (s : State) :
    (judgeSpillOn recombining s).inputs = s.inputs ∧ (judgeSpillOn recombining s).dfeLanes = s.dfeLanes ∧
    (judgeSpillOn recombining s).counter = s.counter ∧ (judgeSpillOn recombining s).records = s.records ∧
    (judgeSpillOn recombining s).plans = s.plans ∧ (judgeSpillOn recombining s).limits = s.limits ∧
    (judgeSpillOn recombining s).locked = s.locked ∧ (judgeSpillOn recombining s).links = s.links ∧
    (judgeSpillOn recombining s).pending = s.pending ∧ (judgeSpillOn recombining s).choices = s.choices := by
  simp only [judgeSpillOn]; (repeat' split) <;> simp

@[simp] theorem judgeSpillOff_frame (recombining : Bool) (s : State) :
    (judgeSpillOff recombining s).inputs = s.inputs ∧ (judgeSpillOff recombining s).dfeLanes = s.dfeLanes ∧
    (judgeSpillOff recombining s).counter = s.counter ∧ (judgeSpillOff recombining s).records = s.records ∧
    (judgeSpillOff recombining s).meter = s.meter ∧ (judgeSpillOff recombining s).plans = s.plans ∧
    (judgeSpillOff recombining s).limits = s.limits ∧ (judgeSpillOff recombining s).locked = s.locked ∧
    (judgeSpillOff recombining s).links = s.links ∧ (judgeSpillOff recombining s).pending = s.pending ∧
    (judgeSpillOff recombining s).choices = s.choices := by
  simp only [judgeSpillOff]; (repeat' split) <;> simp

@[simp] theorem judgeSpill_frame (recombining : Bool) (s : State) :
    (judgeSpill recombining s).inputs = s.inputs ∧ (judgeSpill recombining s).dfeLanes = s.dfeLanes ∧
    (judgeSpill recombining s).counter = s.counter ∧ (judgeSpill recombining s).records = s.records ∧
    (judgeSpill recombining s).plans = s.plans ∧ (judgeSpill recombining s).limits = s.limits ∧
    (judgeSpill recombining s).locked = s.locked ∧ (judgeSpill recombining s).links = s.links ∧
    (judgeSpill recombining s).pending = s.pending ∧ (judgeSpill recombining s).choices = s.choices := by
  simp [judgeSpill]

@[simp] theorem markSubstituted_frame (i : Fin 3) (s : State) :
    (markSubstituted i s).inputs = s.inputs ∧ (markSubstituted i s).counter = s.counter ∧
    (markSubstituted i s).records = s.records ∧ (markSubstituted i s).rate = s.rate ∧
    (markSubstituted i s).sched = s.sched ∧ (markSubstituted i s).meter = s.meter ∧
    (markSubstituted i s).drives = s.drives ∧ (markSubstituted i s).plans = s.plans ∧
    (markSubstituted i s).limits = s.limits ∧ (markSubstituted i s).locked = s.locked ∧
    (markSubstituted i s).links = s.links ∧ (markSubstituted i s).events = s.events ∧
    (markSubstituted i s).pending = s.pending ∧ (markSubstituted i s).choices = s.choices := by
  simp [markSubstituted]

@[simp] theorem markSubstitutions_frame (s : State) :
    (markSubstitutions s).inputs = s.inputs ∧ (markSubstitutions s).counter = s.counter ∧
    (markSubstitutions s).records = s.records ∧ (markSubstitutions s).rate = s.rate ∧
    (markSubstitutions s).sched = s.sched ∧ (markSubstitutions s).meter = s.meter ∧
    (markSubstitutions s).drives = s.drives ∧ (markSubstitutions s).plans = s.plans ∧
    (markSubstitutions s).limits = s.limits ∧ (markSubstitutions s).locked = s.locked ∧
    (markSubstitutions s).links = s.links ∧ (markSubstitutions s).events = s.events ∧
    (markSubstitutions s).pending = s.pending ∧ (markSubstitutions s).choices = s.choices := by
  simp [markSubstitutions]

@[simp] theorem raiseFault_frame (d : Fin 16) (k : FaultKind) (s : State) :
    (raiseFault d k s).counter = s.counter ∧ (raiseFault d k s).records = s.records ∧
    (raiseFault d k s).meter = s.meter ∧ (raiseFault d k s).plans = s.plans ∧ (raiseFault d k s).limits = s.limits ∧
    (raiseFault d k s).locked = s.locked ∧ (raiseFault d k s).links = s.links ∧
    (raiseFault d k s).pending = s.pending ∧ (raiseFault d k s).choices = s.choices := by
  simp [raiseFault]

@[simp] theorem endFault_frame (d : Fin 16) (k : FaultKind) (cause : Nat) (s : State) :
    (endFault d k cause s).dfeLanes = s.dfeLanes ∧ (endFault d k cause s).counter = s.counter ∧
    (endFault d k cause s).records = s.records ∧ (endFault d k cause s).rate = s.rate ∧
    (endFault d k cause s).sched = s.sched ∧ (endFault d k cause s).meter = s.meter ∧
    (endFault d k cause s).drives = s.drives ∧ (endFault d k cause s).plans = s.plans ∧
    (endFault d k cause s).limits = s.limits ∧ (endFault d k cause s).locked = s.locked ∧
    (endFault d k cause s).links = s.links ∧ (endFault d k cause s).pending = s.pending ∧
    (endFault d k cause s).choices = s.choices := by
  simp [endFault]

@[simp] theorem passageNotice_frame (i : Fin 3) (s : State) :
    (passageNotice i s).counter = s.counter ∧ (passageNotice i s).records = s.records ∧
    (passageNotice i s).meter = s.meter ∧ (passageNotice i s).plans = s.plans ∧
    (passageNotice i s).limits = s.limits ∧ (passageNotice i s).locked = s.locked ∧
    (passageNotice i s).links = s.links ∧ (passageNotice i s).pending = s.pending ∧
    (passageNotice i s).choices = s.choices := by
  simp only [passageNotice]; (repeat' split) <;> simp

@[simp] theorem passage_frame (i : Fin 3) (s : State) :
    (passage i s).counter = s.counter ∧ (passage i s).records = s.records ∧ (passage i s).meter = s.meter ∧
    (passage i s).plans = s.plans ∧ (passage i s).limits = s.limits ∧ (passage i s).locked = s.locked ∧
    (passage i s).links = s.links ∧ (passage i s).pending = s.pending ∧ (passage i s).choices = s.choices := by
  simp only [passage]; (repeat' split) <;> simp

@[simp] theorem risingEdge_frame (d : Fin 16) (s : State) :
    (risingEdge d s).counter = s.counter ∧ (risingEdge d s).records = s.records ∧ (risingEdge d s).meter = s.meter ∧
    (risingEdge d s).plans = s.plans ∧ (risingEdge d s).limits = s.limits ∧ (risingEdge d s).locked = s.locked ∧
    (risingEdge d s).links = s.links ∧ (risingEdge d s).pending = s.pending ∧
    (risingEdge d s).choices = s.choices := by
  simp only [risingEdge]; (repeat' split) <;> simp

@[simp] theorem fallingEdge_frame (d : Fin 16) (s : State) :
    (fallingEdge d s).dfeLanes = s.dfeLanes ∧ (fallingEdge d s).counter = s.counter ∧
    (fallingEdge d s).records = s.records ∧ (fallingEdge d s).rate = s.rate ∧ (fallingEdge d s).sched = s.sched ∧
    (fallingEdge d s).meter = s.meter ∧ (fallingEdge d s).drives = s.drives ∧ (fallingEdge d s).plans = s.plans ∧
    (fallingEdge d s).limits = s.limits ∧ (fallingEdge d s).locked = s.locked ∧ (fallingEdge d s).links = s.links ∧
    (fallingEdge d s).pending = s.pending ∧ (fallingEdge d s).choices = s.choices := by
  simp [fallingEdge]

@[simp] theorem edge_frame (d : Fin 16) (level : Bool) (s : State) :
    (edge d level s).counter = s.counter ∧ (edge d level s).records = s.records ∧ (edge d level s).meter = s.meter ∧
    (edge d level s).plans = s.plans ∧ (edge d level s).limits = s.limits ∧ (edge d level s).locked = s.locked ∧
    (edge d level s).links = s.links ∧ (edge d level s).pending = s.pending ∧
    (edge d level s).choices = s.choices := by
  simp [edge]

@[simp] theorem rawChange_frame (d : Fin 16) (level : Bool) (s : State) :
    (rawChange d level s).counter = s.counter ∧ (rawChange d level s).records = s.records ∧
    (rawChange d level s).meter = s.meter ∧ (rawChange d level s).plans = s.plans ∧
    (rawChange d level s).limits = s.limits ∧ (rawChange d level s).locked = s.locked ∧
    (rawChange d level s).links = s.links ∧ (rawChange d level s).pending = s.pending ∧
    (rawChange d level s).choices = s.choices := by
  simp [rawChange]

@[simp] theorem filterExpiry_frame (d : Fin 16) (s : State) :
    (filterExpiry d s).counter = s.counter ∧ (filterExpiry d s).records = s.records ∧
    (filterExpiry d s).meter = s.meter ∧ (filterExpiry d s).plans = s.plans ∧ (filterExpiry d s).limits = s.limits ∧
    (filterExpiry d s).locked = s.locked ∧ (filterExpiry d s).links = s.links ∧
    (filterExpiry d s).pending = s.pending ∧ (filterExpiry d s).choices = s.choices := by
  simp [filterExpiry]

@[simp] theorem stuckExpiry_frame (d : Fin 16) (s : State) :
    (stuckExpiry d s).counter = s.counter ∧ (stuckExpiry d s).records = s.records ∧
    (stuckExpiry d s).meter = s.meter ∧ (stuckExpiry d s).plans = s.plans ∧ (stuckExpiry d s).limits = s.limits ∧
    (stuckExpiry d s).locked = s.locked ∧ (stuckExpiry d s).links = s.links ∧ (stuckExpiry d s).pending = s.pending ∧
    (stuckExpiry d s).choices = s.choices := by
  simp [stuckExpiry]

@[simp] theorem endFaultsByMap_frame (d : Fin 16) (s : State) :
    (endFaultsByMap d s).dfeLanes = s.dfeLanes ∧ (endFaultsByMap d s).counter = s.counter ∧
    (endFaultsByMap d s).records = s.records ∧ (endFaultsByMap d s).rate = s.rate ∧
    (endFaultsByMap d s).sched = s.sched ∧ (endFaultsByMap d s).meter = s.meter ∧
    (endFaultsByMap d s).drives = s.drives ∧ (endFaultsByMap d s).plans = s.plans ∧
    (endFaultsByMap d s).limits = s.limits ∧ (endFaultsByMap d s).locked = s.locked ∧
    (endFaultsByMap d s).links = s.links ∧ (endFaultsByMap d s).pending = s.pending ∧
    (endFaultsByMap d s).choices = s.choices := by
  simp [endFaultsByMap]

@[simp] theorem writeMap_frame (p : List Byte) (s : State) :
    (writeMap p s).counter = s.counter ∧ (writeMap p s).records = s.records ∧ (writeMap p s).meter = s.meter ∧
    (writeMap p s).plans = s.plans ∧ (writeMap p s).limits = s.limits ∧ (writeMap p s).locked = s.locked ∧
    (writeMap p s).links = s.links ∧ (writeMap p s).pending = s.pending ∧ (writeMap p s).choices = s.choices := by
  simp [writeMap]

/-! ### Prover -/

@[simp] theorem faultLane_frame (i : Fin 3) (s : State) :
    (faultLane i s).inputs = s.inputs ∧ (faultLane i s).dfeLanes = s.dfeLanes ∧ (faultLane i s).counter = s.counter ∧
    (faultLane i s).records = s.records ∧ (faultLane i s).rate = s.rate ∧ (faultLane i s).plans = s.plans ∧
    (faultLane i s).limits = s.limits ∧ (faultLane i s).locked = s.locked ∧ (faultLane i s).links = s.links ∧
    (faultLane i s).events = s.events ∧ (faultLane i s).pending = s.pending ∧
    (faultLane i s).choices = s.choices := by
  simp [faultLane]

@[simp] theorem laneFault_frame (i : Fin 3) (c : Colour) (w : WatchKind) (s : State) :
    (laneFault i c w s).inputs = s.inputs ∧ (laneFault i c w s).dfeLanes = s.dfeLanes ∧
    (laneFault i c w s).counter = s.counter ∧ (laneFault i c w s).records = s.records ∧
    (laneFault i c w s).plans = s.plans ∧ (laneFault i c w s).limits = s.limits ∧
    (laneFault i c w s).locked = s.locked ∧ (laneFault i c w s).links = s.links ∧
    (laneFault i c w s).pending = s.pending ∧ (laneFault i c w s).choices = s.choices := by
  simp [laneFault]

@[simp] theorem lampWarn_frame (subject colour : Nat) (w : WatchKind) (s : State) :
    (lampWarn subject colour w s).inputs = s.inputs ∧ (lampWarn subject colour w s).dfeLanes = s.dfeLanes ∧
    (lampWarn subject colour w s).counter = s.counter ∧ (lampWarn subject colour w s).records = s.records ∧
    (lampWarn subject colour w s).rate = s.rate ∧ (lampWarn subject colour w s).sched = s.sched ∧
    (lampWarn subject colour w s).meter = s.meter ∧ (lampWarn subject colour w s).drives = s.drives ∧
    (lampWarn subject colour w s).plans = s.plans ∧ (lampWarn subject colour w s).limits = s.limits ∧
    (lampWarn subject colour w s).locked = s.locked ∧ (lampWarn subject colour w s).links = s.links ∧
    (lampWarn subject colour w s).pending = s.pending ∧ (lampWarn subject colour w s).choices = s.choices := by
  simp [lampWarn]

@[simp] theorem consequence_frame (k : Fin 10) (w : WatchKind) (s : State) :
    (consequence k w s).inputs = s.inputs ∧ (consequence k w s).dfeLanes = s.dfeLanes ∧
    (consequence k w s).counter = s.counter ∧ (consequence k w s).records = s.records ∧
    (consequence k w s).plans = s.plans ∧ (consequence k w s).limits = s.limits ∧
    (consequence k w s).locked = s.locked ∧ (consequence k w s).links = s.links ∧
    (consequence k w s).pending = s.pending ∧ (consequence k w s).choices = s.choices := by
  simp only [consequence]; (repeat' split) <;> simp

@[simp] theorem latch_frame (k : Fin 10) (w : WatchKind) (s : State) :
    (latch k w s).inputs = s.inputs ∧ (latch k w s).dfeLanes = s.dfeLanes ∧ (latch k w s).counter = s.counter ∧
    (latch k w s).records = s.records ∧ (latch k w s).plans = s.plans ∧ (latch k w s).limits = s.limits ∧
    (latch k w s).locked = s.locked ∧ (latch k w s).links = s.links ∧ (latch k w s).pending = s.pending ∧
    (latch k w s).choices = s.choices := by
  simp [latch]

@[simp] theorem prove_frame (k : Fin 10) (w : WatchKind) (s : State) :
    (prove k w s).inputs = s.inputs ∧ (prove k w s).dfeLanes = s.dfeLanes ∧ (prove k w s).counter = s.counter ∧
    (prove k w s).records = s.records ∧ (prove k w s).rate = s.rate ∧ (prove k w s).sched = s.sched ∧
    (prove k w s).meter = s.meter ∧ (prove k w s).plans = s.plans ∧ (prove k w s).limits = s.limits ∧
    (prove k w s).locked = s.locked ∧ (prove k w s).links = s.links ∧ (prove k w s).events = s.events ∧
    (prove k w s).pending = s.pending ∧ (prove k w s).choices = s.choices := by
  simp [prove]

@[simp] theorem senseChange_frame (k : Fin 10) (v : Bool) (s : State) :
    (senseChange k v s).inputs = s.inputs ∧ (senseChange k v s).dfeLanes = s.dfeLanes ∧
    (senseChange k v s).counter = s.counter ∧ (senseChange k v s).records = s.records ∧
    (senseChange k v s).rate = s.rate ∧ (senseChange k v s).sched = s.sched ∧ (senseChange k v s).meter = s.meter ∧
    (senseChange k v s).plans = s.plans ∧ (senseChange k v s).limits = s.limits ∧
    (senseChange k v s).locked = s.locked ∧ (senseChange k v s).links = s.links ∧
    (senseChange k v s).events = s.events ∧ (senseChange k v s).pending = s.pending ∧
    (senseChange k v s).choices = s.choices := by
  simp [senseChange]

@[simp] theorem endBlanking_frame (k : Fin 10) (s : State) :
    (endBlanking k s).inputs = s.inputs ∧ (endBlanking k s).dfeLanes = s.dfeLanes ∧
    (endBlanking k s).counter = s.counter ∧ (endBlanking k s).records = s.records ∧ (endBlanking k s).rate = s.rate ∧
    (endBlanking k s).sched = s.sched ∧ (endBlanking k s).meter = s.meter ∧ (endBlanking k s).plans = s.plans ∧
    (endBlanking k s).limits = s.limits ∧ (endBlanking k s).locked = s.locked ∧ (endBlanking k s).links = s.links ∧
    (endBlanking k s).events = s.events ∧ (endBlanking k s).pending = s.pending ∧
    (endBlanking k s).choices = s.choices := by
  simp [endBlanking]

@[simp] theorem restoreLane_frame (i : Fin 3) (s : State) :
    (restoreLane i s).inputs = s.inputs ∧ (restoreLane i s).dfeLanes = s.dfeLanes ∧
    (restoreLane i s).counter = s.counter ∧ (restoreLane i s).records = s.records ∧ (restoreLane i s).rate = s.rate ∧
    (restoreLane i s).meter = s.meter ∧ (restoreLane i s).plans = s.plans ∧ (restoreLane i s).limits = s.limits ∧
    (restoreLane i s).locked = s.locked ∧ (restoreLane i s).links = s.links ∧ (restoreLane i s).events = s.events ∧
    (restoreLane i s).pending = s.pending ∧ (restoreLane i s).choices = s.choices := by
  simp [restoreLane]

@[simp] theorem clearLaneFault_frame (i : Fin 3) (s : State) :
    (clearLaneFault i s).inputs = s.inputs ∧ (clearLaneFault i s).dfeLanes = s.dfeLanes ∧
    (clearLaneFault i s).counter = s.counter ∧ (clearLaneFault i s).records = s.records ∧
    (clearLaneFault i s).meter = s.meter ∧ (clearLaneFault i s).plans = s.plans ∧
    (clearLaneFault i s).limits = s.limits ∧ (clearLaneFault i s).locked = s.locked ∧
    (clearLaneFault i s).links = s.links ∧ (clearLaneFault i s).pending = s.pending ∧
    (clearLaneFault i s).choices = s.choices := by
  simp [clearLaneFault]

/-! ### Interval -/

@[simp] theorem applySlot_frame (k : Fin 8) (s : State) :
    (applySlot k s).inputs = s.inputs ∧ (applySlot k s).dfeLanes = s.dfeLanes ∧ (applySlot k s).counter = s.counter ∧
    (applySlot k s).records = s.records ∧ (applySlot k s).rate = s.rate ∧ (applySlot k s).sched = s.sched ∧
    (applySlot k s).meter = s.meter ∧ (applySlot k s).drives = s.drives ∧ (applySlot k s).limits = s.limits ∧
    (applySlot k s).locked = s.locked ∧ (applySlot k s).links = s.links ∧ (applySlot k s).pending = s.pending ∧
    (applySlot k s).choices = s.choices := by
  simp [applySlot]

@[simp] theorem setFloor_frame (v : Bool) (detail : Nat) (s : State) :
    (setFloor v detail s).inputs = s.inputs ∧ (setFloor v detail s).dfeLanes = s.dfeLanes ∧
    (setFloor v detail s).counter = s.counter ∧ (setFloor v detail s).records = s.records ∧
    (setFloor v detail s).sched = s.sched ∧ (setFloor v detail s).meter = s.meter ∧
    (setFloor v detail s).drives = s.drives ∧ (setFloor v detail s).plans = s.plans ∧
    (setFloor v detail s).limits = s.limits ∧ (setFloor v detail s).locked = s.locked ∧
    (setFloor v detail s).links = s.links ∧ (setFloor v detail s).pending = s.pending ∧
    (setFloor v detail s).choices = s.choices := by
  simp [setFloor]

@[simp] theorem planChanged_frame (s : State) :
    (planChanged s).inputs = s.inputs ∧ (planChanged s).dfeLanes = s.dfeLanes ∧ (planChanged s).counter = s.counter ∧
    (planChanged s).records = s.records ∧ (planChanged s).plans = s.plans ∧ (planChanged s).limits = s.limits ∧
    (planChanged s).locked = s.locked ∧ (planChanged s).links = s.links ∧ (planChanged s).pending = s.pending ∧
    (planChanged s).choices = s.choices := by
  simp only [planChanged]; (repeat' split) <;> simp

@[simp] theorem planAtClose_frame (s : State) :
    (planAtClose s).inputs = s.inputs ∧ (planAtClose s).dfeLanes = s.dfeLanes ∧ (planAtClose s).counter = s.counter ∧
    (planAtClose s).records = s.records ∧ (planAtClose s).limits = s.limits ∧ (planAtClose s).locked = s.locked ∧
    (planAtClose s).links = s.links ∧ (planAtClose s).pending = s.pending ∧ (planAtClose s).choices = s.choices := by
  simp only [planAtClose]; (repeat' split) <;> simp

@[simp] theorem closeInput_frame (d : Fin 16) (s : State) :
    (closeInput d s).dfeLanes = s.dfeLanes ∧ (closeInput d s).counter = s.counter ∧
    (closeInput d s).records = s.records ∧ (closeInput d s).rate = s.rate ∧ (closeInput d s).sched = s.sched ∧
    (closeInput d s).meter = s.meter ∧ (closeInput d s).drives = s.drives ∧ (closeInput d s).plans = s.plans ∧
    (closeInput d s).limits = s.limits ∧ (closeInput d s).locked = s.locked ∧ (closeInput d s).links = s.links ∧
    (closeInput d s).pending = s.pending ∧ (closeInput d s).choices = s.choices := by
  simp [closeInput]

@[simp] theorem closeDfeLane_frame (i : Fin 3) (s : State) :
    (closeDfeLane i s).inputs = s.inputs ∧ (closeDfeLane i s).counter = s.counter ∧
    (closeDfeLane i s).records = s.records ∧ (closeDfeLane i s).rate = s.rate ∧ (closeDfeLane i s).sched = s.sched ∧
    (closeDfeLane i s).meter = s.meter ∧ (closeDfeLane i s).drives = s.drives ∧ (closeDfeLane i s).plans = s.plans ∧
    (closeDfeLane i s).limits = s.limits ∧ (closeDfeLane i s).locked = s.locked ∧ (closeDfeLane i s).links = s.links ∧
    (closeDfeLane i s).events = s.events ∧ (closeDfeLane i s).pending = s.pending ∧
    (closeDfeLane i s).choices = s.choices := by
  simp [closeDfeLane]

@[simp] theorem dfeAtClose_frame (s : State) :
    (dfeAtClose s).counter = s.counter ∧ (dfeAtClose s).records = s.records ∧ (dfeAtClose s).rate = s.rate ∧
    (dfeAtClose s).sched = s.sched ∧ (dfeAtClose s).meter = s.meter ∧ (dfeAtClose s).drives = s.drives ∧
    (dfeAtClose s).plans = s.plans ∧ (dfeAtClose s).limits = s.limits ∧ (dfeAtClose s).locked = s.locked ∧
    (dfeAtClose s).links = s.links ∧ (dfeAtClose s).pending = s.pending ∧ (dfeAtClose s).choices = s.choices := by
  simp [dfeAtClose]

@[simp] theorem schedAtClose_frame (s : State) :
    (schedAtClose s).inputs = s.inputs ∧ (schedAtClose s).dfeLanes = s.dfeLanes ∧
    (schedAtClose s).counter = s.counter ∧ (schedAtClose s).records = s.records ∧ (schedAtClose s).rate = s.rate ∧
    (schedAtClose s).meter = s.meter ∧ (schedAtClose s).drives = s.drives ∧ (schedAtClose s).plans = s.plans ∧
    (schedAtClose s).limits = s.limits ∧ (schedAtClose s).locked = s.locked ∧ (schedAtClose s).links = s.links ∧
    (schedAtClose s).events = s.events ∧ (schedAtClose s).pending = s.pending ∧
    (schedAtClose s).choices = s.choices := by
  simp [schedAtClose]

@[simp] theorem floorAtClose_frame (dets : List DetEntry) (s : State) :
    (floorAtClose dets s).inputs = s.inputs ∧ (floorAtClose dets s).dfeLanes = s.dfeLanes ∧
    (floorAtClose dets s).counter = s.counter ∧ (floorAtClose dets s).records = s.records ∧
    (floorAtClose dets s).sched = s.sched ∧ (floorAtClose dets s).meter = s.meter ∧
    (floorAtClose dets s).drives = s.drives ∧ (floorAtClose dets s).plans = s.plans ∧
    (floorAtClose dets s).limits = s.limits ∧ (floorAtClose dets s).locked = s.locked ∧
    (floorAtClose dets s).links = s.links ∧ (floorAtClose dets s).pending = s.pending ∧
    (floorAtClose dets s).choices = s.choices := by
  simp [floorAtClose]

@[simp] theorem rateAtClose_frame (dets : List DetEntry) (s : State) :
    (rateAtClose dets s).inputs = s.inputs ∧ (rateAtClose dets s).dfeLanes = s.dfeLanes ∧
    (rateAtClose dets s).counter = s.counter ∧ (rateAtClose dets s).records = s.records ∧
    (rateAtClose dets s).meter = s.meter ∧ (rateAtClose dets s).plans = s.plans ∧
    (rateAtClose dets s).limits = s.limits ∧ (rateAtClose dets s).locked = s.locked ∧
    (rateAtClose dets s).links = s.links ∧ (rateAtClose dets s).pending = s.pending ∧
    (rateAtClose dets s).choices = s.choices := by
  simp [rateAtClose]

@[simp] theorem runsAtClose_frame (om : Option Nat) (s : State) :
    (runsAtClose om s).inputs = s.inputs ∧ (runsAtClose om s).dfeLanes = s.dfeLanes ∧
    (runsAtClose om s).counter = s.counter ∧ (runsAtClose om s).records = s.records ∧
    (runsAtClose om s).rate = s.rate ∧ (runsAtClose om s).sched = s.sched ∧ (runsAtClose om s).drives = s.drives ∧
    (runsAtClose om s).plans = s.plans ∧ (runsAtClose om s).limits = s.limits ∧ (runsAtClose om s).locked = s.locked ∧
    (runsAtClose om s).links = s.links ∧ (runsAtClose om s).events = s.events ∧
    (runsAtClose om s).pending = s.pending ∧ (runsAtClose om s).choices = s.choices := by
  simp only [runsAtClose]; (repeat' split) <;> simp

@[simp] theorem placeRecord_frame (r : IntervalRecord) (s : State) :
    (placeRecord r s).inputs = s.inputs ∧ (placeRecord r s).dfeLanes = s.dfeLanes ∧ (placeRecord r s).rate = s.rate ∧
    (placeRecord r s).sched = s.sched ∧ (placeRecord r s).meter = s.meter ∧ (placeRecord r s).drives = s.drives ∧
    (placeRecord r s).plans = s.plans ∧ (placeRecord r s).limits = s.limits ∧ (placeRecord r s).locked = s.locked ∧
    (placeRecord r s).links = s.links ∧ (placeRecord r s).events = s.events ∧ (placeRecord r s).pending = s.pending ∧
    (placeRecord r s).choices = s.choices := by
  simp [placeRecord]

@[simp] theorem actOnAuto_frame (w : Waiting) (s : State) :
    (actOnAuto w s).inputs = s.inputs ∧ (actOnAuto w s).dfeLanes = s.dfeLanes ∧ (actOnAuto w s).counter = s.counter ∧
    (actOnAuto w s).records = s.records ∧ (actOnAuto w s).plans = s.plans ∧ (actOnAuto w s).limits = s.limits ∧
    (actOnAuto w s).locked = s.locked ∧ (actOnAuto w s).links = s.links ∧ (actOnAuto w s).pending = s.pending ∧
    (actOnAuto w s).choices = s.choices := by
  simp only [actOnAuto]; (repeat' split) <;> simp

@[simp] theorem placeWaiting_frame (s : State) :
    (placeWaiting s).inputs = s.inputs ∧ (placeWaiting s).dfeLanes = s.dfeLanes ∧ (placeWaiting s).plans = s.plans ∧
    (placeWaiting s).limits = s.limits ∧ (placeWaiting s).locked = s.locked ∧ (placeWaiting s).links = s.links ∧
    (placeWaiting s).pending = s.pending ∧ (placeWaiting s).choices = s.choices := by
  simp only [placeWaiting]; (repeat' split) <;> simp

@[simp] theorem postClosed_frame (cause : Cause) (next : Nat) (s : State) :
    (postClosed cause next s).inputs = s.inputs ∧ (postClosed cause next s).dfeLanes = s.dfeLanes ∧
    (postClosed cause next s).counter = s.counter ∧ (postClosed cause next s).records = s.records ∧
    (postClosed cause next s).rate = s.rate ∧ (postClosed cause next s).sched = s.sched ∧
    (postClosed cause next s).meter = s.meter ∧ (postClosed cause next s).drives = s.drives ∧
    (postClosed cause next s).plans = s.plans ∧ (postClosed cause next s).limits = s.limits ∧
    (postClosed cause next s).locked = s.locked ∧ (postClosed cause next s).links = s.links ∧
    (postClosed cause next s).pending = s.pending ∧ (postClosed cause next s).choices = s.choices := by
  simp only [postClosed]; (repeat' split) <;> simp

@[simp] theorem beginInterval_frame (next : Nat) (s : State) :
    (beginInterval next s).inputs = s.inputs ∧ (beginInterval next s).dfeLanes = s.dfeLanes ∧
    (beginInterval next s).records = s.records ∧ (beginInterval next s).rate = s.rate ∧
    (beginInterval next s).sched = s.sched ∧ (beginInterval next s).meter = s.meter ∧
    (beginInterval next s).drives = s.drives ∧ (beginInterval next s).plans = s.plans ∧
    (beginInterval next s).limits = s.limits ∧ (beginInterval next s).locked = s.locked ∧
    (beginInterval next s).links = s.links ∧ (beginInterval next s).events = s.events ∧
    (beginInterval next s).pending = s.pending ∧ (beginInterval next s).choices = s.choices := by
  simp [beginInterval]

@[simp] theorem closeInterval_frame (cause : Cause) (next : Nat) (s : State) :
    (closeInterval cause next s).limits = s.limits ∧ (closeInterval cause next s).locked = s.locked ∧
    (closeInterval cause next s).links = s.links ∧ (closeInterval cause next s).pending = s.pending ∧
    (closeInterval cause next s).choices = s.choices := by
  simp [closeInterval]

@[simp] theorem closeTimed_frame (s : State) :
    (closeTimed s).limits = s.limits ∧ (closeTimed s).locked = s.locked ∧ (closeTimed s).links = s.links ∧
    (closeTimed s).pending = s.pending ∧ (closeTimed s).choices = s.choices := by
  simp [closeTimed]

@[simp] theorem closeFreeRun_frame (s : State) :
    (closeFreeRun s).limits = s.limits ∧ (closeFreeRun s).locked = s.locked ∧ (closeFreeRun s).links = s.links ∧
    (closeFreeRun s).pending = s.pending ∧ (closeFreeRun s).choices = s.choices := by
  simp [closeFreeRun]

/-! ### Links -/

@[simp] theorem releaseClaim_frame (l : LinkId) (s : State) :
    (releaseClaim l s).inputs = s.inputs ∧ (releaseClaim l s).dfeLanes = s.dfeLanes ∧
    (releaseClaim l s).counter = s.counter ∧ (releaseClaim l s).records = s.records ∧
    (releaseClaim l s).rate = s.rate ∧ (releaseClaim l s).sched = s.sched ∧ (releaseClaim l s).meter = s.meter ∧
    (releaseClaim l s).drives = s.drives ∧ (releaseClaim l s).limits = s.limits ∧
    (releaseClaim l s).locked = s.locked ∧ (releaseClaim l s).links = s.links ∧ (releaseClaim l s).events = s.events ∧
    (releaseClaim l s).pending = s.pending ∧ (releaseClaim l s).choices = s.choices := by
  simp only [releaseClaim]; (repeat' split) <;> simp

@[simp] theorem putOrder_frame (l : LinkId) (o : Option RateOrder) (s : State) :
    (putOrder l o s).inputs = s.inputs ∧ (putOrder l o s).dfeLanes = s.dfeLanes ∧
    (putOrder l o s).counter = s.counter ∧ (putOrder l o s).records = s.records ∧ (putOrder l o s).sched = s.sched ∧
    (putOrder l o s).meter = s.meter ∧ (putOrder l o s).drives = s.drives ∧ (putOrder l o s).plans = s.plans ∧
    (putOrder l o s).limits = s.limits ∧ (putOrder l o s).locked = s.locked ∧ (putOrder l o s).links = s.links ∧
    (putOrder l o s).events = s.events ∧ (putOrder l o s).pending = s.pending ∧
    (putOrder l o s).choices = s.choices := by
  simp [putOrder]

@[simp] theorem removeOrder_frame (l : LinkId) (kind : EventKind) (s : State) :
    (removeOrder l kind s).inputs = s.inputs ∧ (removeOrder l kind s).dfeLanes = s.dfeLanes ∧
    (removeOrder l kind s).counter = s.counter ∧ (removeOrder l kind s).records = s.records ∧
    (removeOrder l kind s).meter = s.meter ∧ (removeOrder l kind s).plans = s.plans ∧
    (removeOrder l kind s).limits = s.limits ∧ (removeOrder l kind s).locked = s.locked ∧
    (removeOrder l kind s).links = s.links ∧ (removeOrder l kind s).pending = s.pending ∧
    (removeOrder l kind s).choices = s.choices := by
  simp only [removeOrder]; (repeat' split) <;> simp

@[simp] theorem withdrawHold_frame (l : LinkId) (s : State) :
    (withdrawHold l s).inputs = s.inputs ∧ (withdrawHold l s).dfeLanes = s.dfeLanes ∧
    (withdrawHold l s).counter = s.counter ∧ (withdrawHold l s).records = s.records ∧
    (withdrawHold l s).rate = s.rate ∧ (withdrawHold l s).plans = s.plans ∧ (withdrawHold l s).limits = s.limits ∧
    (withdrawHold l s).locked = s.locked ∧ (withdrawHold l s).links = s.links ∧
    (withdrawHold l s).pending = s.pending ∧ (withdrawHold l s).choices = s.choices := by
  simp only [withdrawHold]; (repeat' split) <;> simp

@[simp] theorem withdrawManual_frame (l : LinkId) (s : State) :
    (withdrawManual l s).inputs = s.inputs ∧ (withdrawManual l s).dfeLanes = s.dfeLanes ∧
    (withdrawManual l s).counter = s.counter ∧ (withdrawManual l s).records = s.records ∧
    (withdrawManual l s).plans = s.plans ∧ (withdrawManual l s).limits = s.limits ∧
    (withdrawManual l s).locked = s.locked ∧ (withdrawManual l s).links = s.links ∧
    (withdrawManual l s).pending = s.pending ∧ (withdrawManual l s).choices = s.choices := by
  simp [withdrawManual]

@[simp] theorem becomeAbsent_frame (l : LinkId) (s : State) :
    (becomeAbsent l s).inputs = s.inputs ∧ (becomeAbsent l s).dfeLanes = s.dfeLanes ∧
    (becomeAbsent l s).counter = s.counter ∧ (becomeAbsent l s).records = s.records ∧
    (becomeAbsent l s).limits = s.limits ∧ (becomeAbsent l s).locked = s.locked ∧
    (becomeAbsent l s).pending = s.pending ∧ (becomeAbsent l s).choices = s.choices := by
  simp [becomeAbsent]

@[simp] theorem violate_frame (l : LinkId) (code : Nat) (s : State) :
    (violate l code s).inputs = s.inputs ∧ (violate l code s).dfeLanes = s.dfeLanes ∧
    (violate l code s).counter = s.counter ∧ (violate l code s).records = s.records ∧
    (violate l code s).limits = s.limits ∧ (violate l code s).locked = s.locked ∧
    (violate l code s).pending = s.pending ∧ (violate l code s).choices = s.choices := by
  simp [violate]

@[simp] theorem becomePresent_frame (l : LinkId) (left : Nat) (s : State) :
    (becomePresent l left s).inputs = s.inputs ∧ (becomePresent l left s).dfeLanes = s.dfeLanes ∧
    (becomePresent l left s).counter = s.counter ∧ (becomePresent l left s).records = s.records ∧
    (becomePresent l left s).rate = s.rate ∧ (becomePresent l left s).sched = s.sched ∧
    (becomePresent l left s).meter = s.meter ∧ (becomePresent l left s).drives = s.drives ∧
    (becomePresent l left s).plans = s.plans ∧ (becomePresent l left s).limits = s.limits ∧
    (becomePresent l left s).locked = s.locked ∧ (becomePresent l left s).pending = s.pending ∧
    (becomePresent l left s).choices = s.choices := by
  simp [becomePresent]

@[simp] theorem takeFrame_frame (l : LinkId) (isKeepalive : Bool) (s : State) :
    (takeFrame l isKeepalive s).inputs = s.inputs ∧ (takeFrame l isKeepalive s).dfeLanes = s.dfeLanes ∧
    (takeFrame l isKeepalive s).counter = s.counter ∧ (takeFrame l isKeepalive s).records = s.records ∧
    (takeFrame l isKeepalive s).limits = s.limits ∧ (takeFrame l isKeepalive s).locked = s.locked ∧
    (takeFrame l isKeepalive s).pending = s.pending ∧ (takeFrame l isKeepalive s).choices = s.choices := by
  simp only [takeFrame]; (repeat' split) <;> simp

@[simp] theorem endTransaction_frame (l : LinkId) (s : State) :
    (endTransaction l s).inputs = s.inputs ∧ (endTransaction l s).dfeLanes = s.dfeLanes ∧
    (endTransaction l s).counter = s.counter ∧ (endTransaction l s).records = s.records ∧
    (endTransaction l s).rate = s.rate ∧ (endTransaction l s).sched = s.sched ∧ (endTransaction l s).meter = s.meter ∧
    (endTransaction l s).drives = s.drives ∧ (endTransaction l s).plans = s.plans ∧
    (endTransaction l s).limits = s.limits ∧ (endTransaction l s).locked = s.locked ∧
    (endTransaction l s).events = s.events ∧ (endTransaction l s).pending = s.pending ∧
    (endTransaction l s).choices = s.choices := by
  simp [endTransaction]

@[simp] theorem storeReply_frame (l : LinkId) (r : Reply) (s : State) :
    (storeReply l r s).inputs = s.inputs ∧ (storeReply l r s).dfeLanes = s.dfeLanes ∧
    (storeReply l r s).counter = s.counter ∧ (storeReply l r s).records = s.records ∧
    (storeReply l r s).rate = s.rate ∧ (storeReply l r s).sched = s.sched ∧ (storeReply l r s).meter = s.meter ∧
    (storeReply l r s).drives = s.drives ∧ (storeReply l r s).plans = s.plans ∧ (storeReply l r s).limits = s.limits ∧
    (storeReply l r s).locked = s.locked ∧ (storeReply l r s).events = s.events ∧
    (storeReply l r s).pending = s.pending ∧ (storeReply l r s).choices = s.choices := by
  simp [storeReply]

@[simp] theorem configureLink_frame (l : LinkId) (p : List Byte) (s : State) :
    (configureLink l p s).state.inputs = s.inputs ∧ (configureLink l p s).state.dfeLanes = s.dfeLanes ∧
    (configureLink l p s).state.counter = s.counter ∧ (configureLink l p s).state.rate = s.rate ∧
    (configureLink l p s).state.sched = s.sched ∧ (configureLink l p s).state.meter = s.meter ∧
    (configureLink l p s).state.drives = s.drives ∧ (configureLink l p s).state.plans = s.plans ∧
    (configureLink l p s).state.limits = s.limits ∧ (configureLink l p s).state.locked = s.locked ∧
    (configureLink l p s).state.events = s.events ∧ (configureLink l p s).state.pending = s.pending ∧
    (configureLink l p s).state.choices = s.choices := by
  simp [configureLink]

@[simp] theorem putEvents_frame (l : LinkId) (q : EventQueue) (s : State) :
    (putEvents l q s).inputs = s.inputs ∧ (putEvents l q s).dfeLanes = s.dfeLanes ∧
    (putEvents l q s).counter = s.counter ∧ (putEvents l q s).records = s.records ∧ (putEvents l q s).rate = s.rate ∧
    (putEvents l q s).sched = s.sched ∧ (putEvents l q s).meter = s.meter ∧ (putEvents l q s).drives = s.drives ∧
    (putEvents l q s).plans = s.plans ∧ (putEvents l q s).limits = s.limits ∧ (putEvents l q s).locked = s.locked ∧
    (putEvents l q s).links = s.links ∧ (putEvents l q s).pending = s.pending ∧
    (putEvents l q s).choices = s.choices := by
  simp [putEvents]

@[simp] theorem readEvents_frame (l : LinkId) (n : Nat) (s : State) :
    (readEvents l n s).state.inputs = s.inputs ∧ (readEvents l n s).state.dfeLanes = s.dfeLanes ∧
    (readEvents l n s).state.counter = s.counter ∧ (readEvents l n s).state.records = s.records ∧
    (readEvents l n s).state.rate = s.rate ∧ (readEvents l n s).state.sched = s.sched ∧
    (readEvents l n s).state.meter = s.meter ∧ (readEvents l n s).state.drives = s.drives ∧
    (readEvents l n s).state.plans = s.plans ∧ (readEvents l n s).state.limits = s.limits ∧
    (readEvents l n s).state.locked = s.locked ∧ (readEvents l n s).state.links = s.links ∧
    (readEvents l n s).state.pending = s.pending ∧ (readEvents l n s).state.choices = s.choices := by
  simp [readEvents]

@[simp] theorem flushEvents_frame (l : LinkId) (s : State) :
    (flushEvents l s).state.inputs = s.inputs ∧ (flushEvents l s).state.dfeLanes = s.dfeLanes ∧
    (flushEvents l s).state.counter = s.counter ∧ (flushEvents l s).state.records = s.records ∧
    (flushEvents l s).state.rate = s.rate ∧ (flushEvents l s).state.sched = s.sched ∧
    (flushEvents l s).state.meter = s.meter ∧ (flushEvents l s).state.drives = s.drives ∧
    (flushEvents l s).state.plans = s.plans ∧ (flushEvents l s).state.limits = s.limits ∧
    (flushEvents l s).state.locked = s.locked ∧ (flushEvents l s).state.links = s.links ∧
    (flushEvents l s).state.pending = s.pending ∧ (flushEvents l s).state.choices = s.choices := by
  simp [flushEvents]

@[simp] theorem putRecords_frame (l : LinkId) (q : List IntervalRecord) (s : State) :
    (putRecords l q s).inputs = s.inputs ∧ (putRecords l q s).dfeLanes = s.dfeLanes ∧
    (putRecords l q s).counter = s.counter ∧ (putRecords l q s).rate = s.rate ∧ (putRecords l q s).sched = s.sched ∧
    (putRecords l q s).meter = s.meter ∧ (putRecords l q s).drives = s.drives ∧ (putRecords l q s).plans = s.plans ∧
    (putRecords l q s).limits = s.limits ∧ (putRecords l q s).locked = s.locked ∧ (putRecords l q s).links = s.links ∧
    (putRecords l q s).events = s.events ∧ (putRecords l q s).pending = s.pending ∧
    (putRecords l q s).choices = s.choices := by
  simp [putRecords]

@[simp] theorem readRecord_frame (l : LinkId) (s : State) :
    (readRecord l s).state.inputs = s.inputs ∧ (readRecord l s).state.dfeLanes = s.dfeLanes ∧
    (readRecord l s).state.counter = s.counter ∧ (readRecord l s).state.rate = s.rate ∧
    (readRecord l s).state.sched = s.sched ∧ (readRecord l s).state.meter = s.meter ∧
    (readRecord l s).state.drives = s.drives ∧ (readRecord l s).state.plans = s.plans ∧
    (readRecord l s).state.limits = s.limits ∧ (readRecord l s).state.locked = s.locked ∧
    (readRecord l s).state.links = s.links ∧ (readRecord l s).state.events = s.events ∧
    (readRecord l s).state.pending = s.pending ∧ (readRecord l s).state.choices = s.choices := by
  simp only [readRecord]; (repeat' split) <;> simp

/-! ### Plans -/

@[simp] theorem restartClaim_frame (c : Claim) (s : State) :
    (restartClaim c s).inputs = s.inputs ∧ (restartClaim c s).dfeLanes = s.dfeLanes ∧
    (restartClaim c s).counter = s.counter ∧ (restartClaim c s).records = s.records ∧
    (restartClaim c s).rate = s.rate ∧ (restartClaim c s).sched = s.sched ∧ (restartClaim c s).meter = s.meter ∧
    (restartClaim c s).drives = s.drives ∧ (restartClaim c s).limits = s.limits ∧
    (restartClaim c s).locked = s.locked ∧ (restartClaim c s).links = s.links ∧ (restartClaim c s).events = s.events ∧
    (restartClaim c s).pending = s.pending ∧ (restartClaim c s).choices = s.choices := by
  simp [restartClaim]

@[simp] theorem openPlan_frame (l : LinkId) (k : Fin 8) (s : State) :
    (openPlan l k s).state.inputs = s.inputs ∧ (openPlan l k s).state.dfeLanes = s.dfeLanes ∧
    (openPlan l k s).state.counter = s.counter ∧ (openPlan l k s).state.records = s.records ∧
    (openPlan l k s).state.rate = s.rate ∧ (openPlan l k s).state.sched = s.sched ∧
    (openPlan l k s).state.meter = s.meter ∧ (openPlan l k s).state.drives = s.drives ∧
    (openPlan l k s).state.limits = s.limits ∧ (openPlan l k s).state.locked = s.locked ∧
    (openPlan l k s).state.links = s.links ∧ (openPlan l k s).state.events = s.events ∧
    (openPlan l k s).state.pending = s.pending ∧ (openPlan l k s).state.choices = s.choices := by
  simp [openPlan]

@[simp] theorem planData_frame (p : List Byte) (c : Claim) (s : State) :
    (planData p c s).state.inputs = s.inputs ∧ (planData p c s).state.dfeLanes = s.dfeLanes ∧
    (planData p c s).state.counter = s.counter ∧ (planData p c s).state.records = s.records ∧
    (planData p c s).state.rate = s.rate ∧ (planData p c s).state.sched = s.sched ∧
    (planData p c s).state.meter = s.meter ∧ (planData p c s).state.drives = s.drives ∧
    (planData p c s).state.limits = s.limits ∧ (planData p c s).state.locked = s.locked ∧
    (planData p c s).state.links = s.links ∧ (planData p c s).state.events = s.events ∧
    (planData p c s).state.pending = s.pending ∧ (planData p c s).state.choices = s.choices := by
  simp [planData]

@[simp] theorem commitPlan_frame (c : Claim) (s : State) :
    (commitPlan c s).state.inputs = s.inputs ∧ (commitPlan c s).state.dfeLanes = s.dfeLanes ∧
    (commitPlan c s).state.counter = s.counter ∧ (commitPlan c s).state.records = s.records ∧
    (commitPlan c s).state.rate = s.rate ∧ (commitPlan c s).state.sched = s.sched ∧
    (commitPlan c s).state.meter = s.meter ∧ (commitPlan c s).state.drives = s.drives ∧
    (commitPlan c s).state.limits = s.limits ∧ (commitPlan c s).state.locked = s.locked ∧
    (commitPlan c s).state.links = s.links ∧ (commitPlan c s).state.events = s.events ∧
    (commitPlan c s).state.pending = s.pending ∧ (commitPlan c s).state.choices = s.choices := by
  simp [commitPlan]

@[simp] theorem commitChecked_frame (c : Claim) (s : State) :
    (commitChecked c s).state.inputs = s.inputs ∧ (commitChecked c s).state.dfeLanes = s.dfeLanes ∧
    (commitChecked c s).state.counter = s.counter ∧ (commitChecked c s).state.records = s.records ∧
    (commitChecked c s).state.rate = s.rate ∧ (commitChecked c s).state.sched = s.sched ∧
    (commitChecked c s).state.meter = s.meter ∧ (commitChecked c s).state.drives = s.drives ∧
    (commitChecked c s).state.limits = s.limits ∧ (commitChecked c s).state.locked = s.locked ∧
    (commitChecked c s).state.links = s.links ∧ (commitChecked c s).state.events = s.events ∧
    (commitChecked c s).state.pending = s.pending ∧ (commitChecked c s).state.choices = s.choices := by
  simp only [commitChecked]; (repeat' split) <;> simp

@[simp] theorem selectPlan_frame (k : Fin 8) (s : State) :
    (selectPlan k s).state.inputs = s.inputs ∧ (selectPlan k s).state.dfeLanes = s.dfeLanes ∧
    (selectPlan k s).state.counter = s.counter ∧ (selectPlan k s).state.records = s.records ∧
    (selectPlan k s).state.limits = s.limits ∧ (selectPlan k s).state.locked = s.locked ∧
    (selectPlan k s).state.links = s.links ∧ (selectPlan k s).state.pending = s.pending ∧
    (selectPlan k s).state.choices = s.choices := by
  simp [selectPlan]

@[simp] theorem selectChecked_frame (k : Fin 8) (s : State) :
    (selectChecked k s).state.inputs = s.inputs ∧ (selectChecked k s).state.dfeLanes = s.dfeLanes ∧
    (selectChecked k s).state.counter = s.counter ∧ (selectChecked k s).state.records = s.records ∧
    (selectChecked k s).state.limits = s.limits ∧ (selectChecked k s).state.locked = s.locked ∧
    (selectChecked k s).state.links = s.links ∧ (selectChecked k s).state.pending = s.pending ∧
    (selectChecked k s).state.choices = s.choices := by
  simp [selectChecked]

@[simp] theorem stagingTimeout_frame (s : State) :
    (stagingTimeout s).inputs = s.inputs ∧ (stagingTimeout s).dfeLanes = s.dfeLanes ∧
    (stagingTimeout s).counter = s.counter ∧ (stagingTimeout s).records = s.records ∧
    (stagingTimeout s).rate = s.rate ∧ (stagingTimeout s).sched = s.sched ∧ (stagingTimeout s).meter = s.meter ∧
    (stagingTimeout s).drives = s.drives ∧ (stagingTimeout s).limits = s.limits ∧
    (stagingTimeout s).locked = s.locked ∧ (stagingTimeout s).links = s.links ∧
    (stagingTimeout s).pending = s.pending ∧ (stagingTimeout s).choices = s.choices := by
  simp only [stagingTimeout]; (repeat' split) <;> simp

@[simp] theorem judgeInterval_frame (s : State) :
    (judgeInterval s).limits = s.limits ∧ (judgeInterval s).locked = s.locked ∧ (judgeInterval s).links = s.links ∧
    (judgeInterval s).pending = s.pending ∧ (judgeInterval s).choices = s.choices := by
  simp [judgeInterval]

@[simp] theorem judgeHeld_frame (i : Fin 3) (s : State) :
    (judgeHeld i s).inputs = s.inputs ∧ (judgeHeld i s).dfeLanes = s.dfeLanes ∧ (judgeHeld i s).counter = s.counter ∧
    (judgeHeld i s).records = s.records ∧ (judgeHeld i s).plans = s.plans ∧ (judgeHeld i s).limits = s.limits ∧
    (judgeHeld i s).locked = s.locked ∧ (judgeHeld i s).links = s.links ∧ (judgeHeld i s).pending = s.pending ∧
    (judgeHeld i s).choices = s.choices := by
  simp [judgeHeld]

@[simp] theorem writeLimits_frame (p : List Byte) (s : State) :
    (writeLimits p s).state.locked = s.locked ∧ (writeLimits p s).state.links = s.links ∧
    (writeLimits p s).state.pending = s.pending ∧ (writeLimits p s).state.choices = s.choices := by
  simp [writeLimits]

@[simp] theorem judgeSlot_frame (k : Fin 8) (s : State) :
    (judgeSlot k s).inputs = s.inputs ∧ (judgeSlot k s).dfeLanes = s.dfeLanes ∧ (judgeSlot k s).counter = s.counter ∧
    (judgeSlot k s).records = s.records ∧ (judgeSlot k s).rate = s.rate ∧ (judgeSlot k s).sched = s.sched ∧
    (judgeSlot k s).meter = s.meter ∧ (judgeSlot k s).drives = s.drives ∧ (judgeSlot k s).limits = s.limits ∧
    (judgeSlot k s).locked = s.locked ∧ (judgeSlot k s).links = s.links ∧ (judgeSlot k s).pending = s.pending ∧
    (judgeSlot k s).choices = s.choices := by
  simp only [judgeSlot]; (repeat' split) <;> simp

@[simp] theorem deselect_frame (s : State) :
    (deselect s).inputs = s.inputs ∧ (deselect s).dfeLanes = s.dfeLanes ∧ (deselect s).counter = s.counter ∧
    (deselect s).records = s.records ∧ (deselect s).limits = s.limits ∧ (deselect s).locked = s.locked ∧
    (deselect s).links = s.links ∧ (deselect s).pending = s.pending ∧ (deselect s).choices = s.choices := by
  simp [deselect]

@[simp] theorem lockLimits_frame (s : State) :
    (lockLimits s).state.inputs = s.inputs ∧ (lockLimits s).state.dfeLanes = s.dfeLanes ∧
    (lockLimits s).state.counter = s.counter ∧ (lockLimits s).state.records = s.records ∧
    (lockLimits s).state.limits = s.limits ∧ (lockLimits s).state.links = s.links ∧
    (lockLimits s).state.pending = s.pending ∧ (lockLimits s).state.choices = s.choices := by
  simp [lockLimits]

/-! ### Meter -/

@[simp] theorem intervalMark_frame (n : Nat) (s : State) :
    (intervalMark n s).state.limits = s.limits ∧ (intervalMark n s).state.locked = s.locked ∧
    (intervalMark n s).state.links = s.links ∧ (intervalMark n s).state.pending = s.pending ∧
    (intervalMark n s).state.choices = s.choices := by
  simp [intervalMark]

@[simp] theorem requestMetering_frame (l : LinkId) (a : Activation) (s : State) :
    (requestMetering l a s).state.inputs = s.inputs ∧ (requestMetering l a s).state.dfeLanes = s.dfeLanes ∧
    (requestMetering l a s).state.counter = s.counter ∧ (requestMetering l a s).state.records = s.records ∧
    (requestMetering l a s).state.plans = s.plans ∧ (requestMetering l a s).state.limits = s.limits ∧
    (requestMetering l a s).state.locked = s.locked ∧ (requestMetering l a s).state.links = s.links ∧
    (requestMetering l a s).state.pending = s.pending ∧ (requestMetering l a s).state.choices = s.choices := by
  simp [requestMetering]

@[simp] theorem rateOrder_frame (l : LinkId) (p : List Byte) (s : State) :
    (rateOrder l p s).state.inputs = s.inputs ∧ (rateOrder l p s).state.dfeLanes = s.dfeLanes ∧
    (rateOrder l p s).state.counter = s.counter ∧ (rateOrder l p s).state.records = s.records ∧
    (rateOrder l p s).state.meter = s.meter ∧ (rateOrder l p s).state.plans = s.plans ∧
    (rateOrder l p s).state.limits = s.limits ∧ (rateOrder l p s).state.locked = s.locked ∧
    (rateOrder l p s).state.links = s.links ∧ (rateOrder l p s).state.events = s.events ∧
    (rateOrder l p s).state.pending = s.pending ∧ (rateOrder l p s).state.choices = s.choices := by
  simp [rateOrder]

@[simp] theorem cancelOrder_frame (l : LinkId) (s : State) :
    (cancelOrder l s).state.inputs = s.inputs ∧ (cancelOrder l s).state.dfeLanes = s.dfeLanes ∧
    (cancelOrder l s).state.counter = s.counter ∧ (cancelOrder l s).state.records = s.records ∧
    (cancelOrder l s).state.meter = s.meter ∧ (cancelOrder l s).state.plans = s.plans ∧
    (cancelOrder l s).state.limits = s.limits ∧ (cancelOrder l s).state.locked = s.locked ∧
    (cancelOrder l s).state.links = s.links ∧ (cancelOrder l s).state.events = s.events ∧
    (cancelOrder l s).state.pending = s.pending ∧ (cancelOrder l s).state.choices = s.choices := by
  simp only [cancelOrder]; (repeat' split) <;> simp

@[simp] theorem holdChecked_frame (l : LinkId) (s : State) :
    (holdChecked l s).state.inputs = s.inputs ∧ (holdChecked l s).state.dfeLanes = s.dfeLanes ∧
    (holdChecked l s).state.counter = s.counter ∧ (holdChecked l s).state.records = s.records ∧
    (holdChecked l s).state.rate = s.rate ∧ (holdChecked l s).state.sched = s.sched ∧
    (holdChecked l s).state.drives = s.drives ∧ (holdChecked l s).state.plans = s.plans ∧
    (holdChecked l s).state.limits = s.limits ∧ (holdChecked l s).state.locked = s.locked ∧
    (holdChecked l s).state.links = s.links ∧ (holdChecked l s).state.pending = s.pending ∧
    (holdChecked l s).state.choices = s.choices := by
  simp [holdChecked]

@[simp] theorem resumeChecked_frame (l : LinkId) (s : State) :
    (resumeChecked l s).state.inputs = s.inputs ∧ (resumeChecked l s).state.dfeLanes = s.dfeLanes ∧
    (resumeChecked l s).state.counter = s.counter ∧ (resumeChecked l s).state.records = s.records ∧
    (resumeChecked l s).state.rate = s.rate ∧ (resumeChecked l s).state.plans = s.plans ∧
    (resumeChecked l s).state.limits = s.limits ∧ (resumeChecked l s).state.locked = s.locked ∧
    (resumeChecked l s).state.links = s.links ∧ (resumeChecked l s).state.pending = s.pending ∧
    (resumeChecked l s).state.choices = s.choices := by
  simp only [resumeChecked]; (repeat' split) <;> simp

@[simp] theorem clearLaneChecked_frame (i : Fin 3) (s : State) :
    (clearLaneChecked i s).state.inputs = s.inputs ∧ (clearLaneChecked i s).state.dfeLanes = s.dfeLanes ∧
    (clearLaneChecked i s).state.counter = s.counter ∧ (clearLaneChecked i s).state.records = s.records ∧
    (clearLaneChecked i s).state.meter = s.meter ∧ (clearLaneChecked i s).state.plans = s.plans ∧
    (clearLaneChecked i s).state.limits = s.limits ∧ (clearLaneChecked i s).state.locked = s.locked ∧
    (clearLaneChecked i s).state.links = s.links ∧ (clearLaneChecked i s).state.pending = s.pending ∧
    (clearLaneChecked i s).state.choices = s.choices := by
  simp [clearLaneChecked]

@[simp] theorem clearMeterChecked_frame (s : State) :
    (clearMeterChecked s).state.inputs = s.inputs ∧ (clearMeterChecked s).state.dfeLanes = s.dfeLanes ∧
    (clearMeterChecked s).state.counter = s.counter ∧ (clearMeterChecked s).state.records = s.records ∧
    (clearMeterChecked s).state.plans = s.plans ∧ (clearMeterChecked s).state.limits = s.limits ∧
    (clearMeterChecked s).state.locked = s.locked ∧ (clearMeterChecked s).state.links = s.links ∧
    (clearMeterChecked s).state.pending = s.pending ∧ (clearMeterChecked s).state.choices = s.choices := by
  simp [clearMeterChecked]

@[simp] theorem enterManualChecked_frame (s : State) :
    (enterManualChecked s).state.inputs = s.inputs ∧ (enterManualChecked s).state.dfeLanes = s.dfeLanes ∧
    (enterManualChecked s).state.counter = s.counter ∧ (enterManualChecked s).state.records = s.records ∧
    (enterManualChecked s).state.plans = s.plans ∧ (enterManualChecked s).state.limits = s.limits ∧
    (enterManualChecked s).state.locked = s.locked ∧ (enterManualChecked s).state.links = s.links ∧
    (enterManualChecked s).state.pending = s.pending ∧ (enterManualChecked s).state.choices = s.choices := by
  simp [enterManualChecked]

@[simp] theorem setAspectChecked_frame (i : Fin 3) (a : Aspect) (s : State) :
    (setAspectChecked i a s).state.inputs = s.inputs ∧ (setAspectChecked i a s).state.dfeLanes = s.dfeLanes ∧
    (setAspectChecked i a s).state.counter = s.counter ∧ (setAspectChecked i a s).state.records = s.records ∧
    (setAspectChecked i a s).state.rate = s.rate ∧ (setAspectChecked i a s).state.plans = s.plans ∧
    (setAspectChecked i a s).state.limits = s.limits ∧ (setAspectChecked i a s).state.locked = s.locked ∧
    (setAspectChecked i a s).state.links = s.links ∧ (setAspectChecked i a s).state.events = s.events ∧
    (setAspectChecked i a s).state.pending = s.pending ∧ (setAspectChecked i a s).state.choices = s.choices := by
  simp [setAspectChecked]

end Sys2Proof.Machine
end

