-- ==== Sys2Proof/Laws/Requests.lean ====
section
/-! SUPPORT. What taking a request comes to: the combinators of the checks, the frames that change nothing of link state
and supervision, and the end of a transaction. -/

namespace Sys2Proof.Machine

/-! ### The checks in front of a handler -/

theorem withoutPayload_cases (p : List Byte) (h : State → Answer) (s : State) :
    (p = [] ∧ withoutPayload p h s = h s) ∨ (p ≠ [] ∧ withoutPayload p h s = refuseRange s 255) := by
  cases p <;> simp [withoutPayload]

theorem withLength_cases (n : Nat) (p : List Byte) (h : State → Answer) (s : State) :
    (p.length = n ∧ withLength n p h s = h s) ∨ (p.length ≠ n ∧ withLength n p h s = refuseRange s 255) := by
  by_cases hp : p.length = n <;> simp [withLength, hp]

theorem withFields_cases (c : List FieldCheck) (h : State → Answer) (s : State) :
    (firstFailure c = none ∧ withFields c h s = h s) ∨
      ∃ k, firstFailure c = some k ∧ withFields c h s = refuseRange s k := by
  cases hc : firstFailure c <;> simp [withFields, hc]

theorem whenPresent_cases (l : LinkId) (h : State → Answer) (s : State) :
    (present s l = true ∧ whenPresent l h s = h s) ∨ (present s l = false ∧ whenPresent l h s = refuse s .wrongState) := by
  cases hp : present s l <;> simp [whenPresent, hp]

theorem withSlot_cases (p : List Byte) (h : Fin 8 → State → Answer) (s : State) :
    (∃ k, slotOf (byteAt p 0) = some k ∧ withSlot p h s = h k s) ∨
      (slotOf (byteAt p 0) = none ∧ withSlot p h s = refuseRange s 0) := by
  cases hp : slotOf (byteAt p 0) <;> simp [withSlot, hp]

theorem withLane_cases (p : List Byte) (h : Fin 3 → State → Answer) (s : State) :
    (∃ k, laneOf (byteAt p 0) = some k ∧ withLane p h s = h k s) ∨
      (laneOf (byteAt p 0) = none ∧ withLane p h s = refuseRange s 0) := by
  cases hp : laneOf (byteAt p 0) <;> simp [withLane, hp]

theorem asHolder_cases (l : LinkId) (h : Claim → State → Answer) (s : State) :
    (∃ c, s.plans.claim = some c ∧ c.holder = l ∧ asHolder l h s = h c s) ∨
      ((∀ c, s.plans.claim = some c → c.holder ≠ l) ∧ asHolder l h s = refuse s .notOpen) := by
  cases hc : s.plans.claim with
  | none => simp [asHolder, claimOf, hc]
  | some c => by_cases hl : c.holder = l <;> simp [asHolder, claimOf, hc, hl]

/-! ### Steady frames -/

@[simp] theorem link_endTransaction (l m : LinkId) (s : State) :
    (endTransaction l s).link m = if m = l then { s.link l with transaction := .idle } else s.link m := by
  simp [endTransaction]

theorem SteadyFrame.makesPresent {l : LinkId} {ka : Bool} {s : State} (h : SteadyFrame l ka s) :
    makesPresent ((endTransaction l s).link l) ka = false := by
  obtain ⟨-, ⟨hp, -⟩ | ⟨ha, hs⟩⟩ := h
  · simp [Machine.makesPresent, hp]
  · simpa [Machine.makesPresent, ha, supervises] using hs

@[simp] theorem setLink_setLink (s : State) (l : LinkId) (x y : LinkInterface) :
    (s.setLink l x).setLink l y = s.setLink l y := by
  cases l <;> rfl

/-- A steady frame ends its transaction and, if supervision counts it, restarts the window (R149). -/
theorem takeFrame_steady {l : LinkId} {ka : Bool} {s : State} (h : SteadyFrame l ka s) :
    takeFrame l ka (endTransaction l s) = received l ka s := by
  obtain ⟨-, ⟨hp, hw⟩ | ⟨ha, hs⟩⟩ := h
  · by_cases hs : supervised (s.link l) ka = true
    · have hw := hw hs
      have h1 : (s.link l).tHi ≠ 0 ∧ supervises (s.link l) ka = true := by simpa [supervised] using hs
      have h2 : supervises ((endTransaction l s).link l) ka = true := by simpa [supervises] using h1.2
      simp only [takeFrame, link_endTransaction, if_true, hp]
      rw [if_pos ⟨h1.1, by simpa [supervises] using h1.2⟩, if_neg (by simpa using hw)]
      simp [received, endTransaction, hs, hp]
    · have h1 : ¬((s.link l).tHi ≠ 0 ∧ supervises (s.link l) ka = true) := by simpa [supervised] using hs
      simp only [takeFrame, link_endTransaction, if_true, hp]
      rw [if_neg (by simpa [supervises] using h1)]
      simp [received, endTransaction, hs]
  · have hn : supervised (s.link l) ka = false := by simp [supervised, hs]
    simp only [takeFrame, link_endTransaction, if_true, ha]
    rw [if_neg (by simpa [supervises] using hs)]
    simp [received, endTransaction, hn]

/-- The end of a transaction with a steady frame that is permitted on its link: the handler judges the received state,
and its answer becomes the last reply (R145, R146). -/
theorem serve_steady {l : LinkId} {kind : Byte} {perm : Permitted} {s : State} (tag : Byte) (handle : State → Answer)
    (h : SteadyFrame l (kind == 0x02) s) (hp : perm.allows l = true) :
    serve l kind tag perm handle s =
      storeReply l { kind := kind, tag := tag, status := (handle (received l (kind == 0x02) s)).status,
                     payload := (handle (received l (kind == 0x02) s)).payload }
        (handle (received l (kind == 0x02) s)).state := by
  have hm := h.makesPresent
  have ht := takeFrame_steady h
  have hc := h.1
  simp only [serve, judgeRequest]
  rw [if_neg hc, ht, hm]
  simp [hp]

/-- A steady frame on the wrong link is answered NOT_PERMITTED and reaches no block (R146). -/
theorem serve_notPermitted {l : LinkId} {kind : Byte} {perm : Permitted} {s : State} (tag : Byte) (handle : State → Answer)
    (h : SteadyFrame l (kind == 0x02) s) (hp : perm.allows l = false) :
    serve l kind tag perm handle s =
      storeReply l { kind := kind, tag := tag, status := .notPermitted, payload := [] } (received l (kind == 0x02) s) := by
  have hm := h.makesPresent
  have ht := takeFrame_steady h
  have hc := h.1
  simp only [serve, judgeRequest]
  rw [if_neg hc, ht, hm]
  simp [hp, refuse]

/-- A frame that makes its link PRESENT ends its transaction and posts LINK_PRESENT (R148). -/
theorem takeFrame_becomes {l : LinkId} {ka : Bool} {s : State}
    (h : (s.link l).state = .silent ∨ (s.link l).state = .absent ∧ supervises (s.link l) ka = true) :
    takeFrame l ka (endTransaction l s) = madePresent l s ∧ makesPresent ((endTransaction l s).link l) ka = true := by
  obtain h | ⟨h, hs⟩ := h
  · simp [takeFrame, makesPresent, becomePresent, madePresent, endTransaction, h]
  · simp only [supervises] at hs
    simp [takeFrame, makesPresent, becomePresent, madePresent, endTransaction, supervises, h, hs]

/-- The request of a frame that makes its link PRESENT is judged after LINK_PRESENT, and the resolved request is formed
once after it (R91, R148). -/
theorem serve_becomes {l : LinkId} {kind : Byte} {s : State} (tag : Byte) (perm : Permitted) (handle : State → Answer)
    (hc : (s.link l).transaction ≠ .cutShort)
    (h : (s.link l).state = .silent ∨ (s.link l).state = .absent ∧ supervises (s.link l) (kind == 0x02) = true) :
    serve l kind tag perm handle s =
      let a := if perm.allows l then handle (madePresent l s) else refuse (madePresent l s) .notPermitted
      storeReply l { kind := kind, tag := tag, status := a.status, payload := a.payload } (resolve a.state) := by
  obtain ⟨ht, hm⟩ := takeFrame_becomes h
  simp only [serve, judgeRequest, if_neg hc, ht, hm, if_true]

/-- An early frame ends its transaction and is an EARLY violation (R149). -/
theorem takeFrame_early {l : LinkId} {ka : Bool} {s : State}
    (h : (s.link l).state = .present ∧ supervised (s.link l) ka = true ∧ (s.link l).window < (s.link l).tLo * 10) :
    takeFrame l ka (endTransaction l s) = violate l 1 (endTransaction l s) ∧
      makesPresent ((endTransaction l s).link l) ka = false := by
  obtain ⟨hp, hs, hw⟩ := h
  have h1 : (s.link l).tHi ≠ 0 ∧ supervises (s.link l) ka = true := by simpa [supervised] using hs
  have h2 := h1.2
  simp only [supervises] at h2
  simp [takeFrame, makesPresent, supervises, hp, h1.1, h2, hw]

/-- The request of an early frame is judged after its violation (R149). -/
theorem serve_early {l : LinkId} {kind : Byte} {s : State} (tag : Byte) (perm : Permitted) (handle : State → Answer)
    (hc : (s.link l).transaction ≠ .cutShort)
    (h : (s.link l).state = .present ∧ supervised (s.link l) (kind == 0x02) = true ∧
      (s.link l).window < (s.link l).tLo * 10) :
    serve l kind tag perm handle s =
      let v := violate l 1 (endTransaction l s)
      let a := if perm.allows l then handle v else refuse v .notPermitted
      storeReply l { kind := kind, tag := tag, status := a.status, payload := a.payload } a.state := by
  obtain ⟨ht, hm⟩ := takeFrame_early h
  simp only [serve, judgeRequest, if_neg hc, ht, hm]
  rfl

/-- The request of a transaction that a reset has cut short is not taken (R144). -/
theorem serve_cut {l : LinkId} {kind tag : Byte} {perm : Permitted} {s : State} (handle : State → Answer)
    (h : (s.link l).transaction = .cutShort) : serve l kind tag perm handle s = endTransaction l s := by
  simp [serve, h]

/-! ### The received state -/

@[simp] theorem received_frame (l : LinkId) (ka : Bool) (s : State) :
    (received l ka s).inputs = s.inputs ∧ (received l ka s).dfeLanes = s.dfeLanes ∧
    (received l ka s).counter = s.counter ∧ (received l ka s).records = s.records ∧
    (received l ka s).rate = s.rate ∧ (received l ka s).sched = s.sched ∧ (received l ka s).meter = s.meter ∧
    (received l ka s).drives = s.drives ∧ (received l ka s).plans = s.plans ∧ (received l ka s).limits = s.limits ∧
    (received l ka s).locked = s.locked ∧ (received l ka s).events = s.events ∧ (received l ka s).pending = s.pending ∧
    (received l ka s).choices = s.choices := by
  simp [received]

@[simp] theorem received_mode (l : LinkId) (ka : Bool) (s : State) : (received l ka s).mode = s.mode := rfl

@[simp] theorem received_linkState (l m : LinkId) (ka : Bool) (s : State) :
    ((received l ka s).link m).state = (s.link m).state := by
  by_cases h : m = l
  · subst h
    simp [received]
  · simp [received, h]

@[simp] theorem received_present (l m : LinkId) (ka : Bool) (s : State) : present (received l ka s) m = present s m := by
  simp [present]

end Sys2Proof.Machine
end

