-- ==== Sys2Proof/Laws/Transitions.lean ====
section
/-! SUPPORT. What the shared operations over time, events and releases can do, one lemma for each: the tick of every
element, events posted one after the other, a stage of the combine, and the cases of a release. -/

namespace Sys2Proof.Machine

/-! ### One hundredth of a second -/

@[simp] theorem tick_input (s : State) (d : Fin 16) : (tick s).input d = (s.input d).tick := by
  simp [tick, State.input]

@[simp] theorem tick_lane (s : State) (i : Fin 3) : (tick s).lane i = (s.lane i).tick := by
  simp [tick, State.lane]

@[simp] theorem tick_drive (s : State) (k : Fin 10) : (tick s).drive k = (s.drive k).tick := by
  simp [tick, State.drive]

@[simp] theorem tick_link (s : State) (l : LinkId) : (tick s).link l = (s.link l).tick := by cases l <;> rfl

@[simp] theorem tick_order (s : State) (l : LinkId) :
    (tick s).rate.orders.get l = (s.rate.orders.get l).map RateOrder.tick := by cases l <;> rfl

@[simp] theorem tick_mode (s : State) : (tick s).mode = s.mode := rfl

/-- The headway timer over one cs: it grows in METERING below H while no release is pending, and stays else. -/
theorem headwayTick_cases (s : State) :
    (s.mode = .metering ∧ s.sched.releasePending = false ∧ s.sched.elapsed < s.sched.headway ∧
        (tick s).sched.elapsed = s.sched.elapsed + 1) ∨
      ((s.mode ≠ .metering ∨ s.sched.releasePending = true ∨ s.sched.headway ≤ s.sched.elapsed) ∧
        (tick s).sched.elapsed = s.sched.elapsed) := by
  simp only [tick, headwayTick, upTo]
  grind

/-! ### Events -/

@[simp] theorem postEach_nil (s : State) : s.postEach [] = s := rfl

@[simp] theorem postEach_cons (s : State) (e : EventKind × Nat × Nat) (es : List (EventKind × Nat × Nat)) :
    s.postEach (e :: es) = (s.post e.1 e.2.1 e.2.2).postEach es := rfl

theorem postEach_append (s : State) (es fs : List (EventKind × Nat × Nat)) :
    s.postEach (es ++ fs) = (s.postEach es).postEach fs := by simp [State.postEach]

/-- An event queue only grows by an offer. -/
theorem offer_prefix (q : EventQueue) (e : Event) : q.entries <+: (q.offer e).entries := by
  simp only [EventQueue.offer]; split <;> simp

theorem EventsContinue.refl (s : State) : EventsContinue s s := fun _ => List.prefix_refl _

theorem EventsContinue.trans {s t u : State} (h : EventsContinue s t) (h' : EventsContinue t u) : EventsContinue s u :=
  fun l => (h l).trans (h' l)

theorem eventsContinue_post (s : State) (kind : EventKind) (subject detail : Nat) :
    EventsContinue s (s.post kind subject detail) := by
  intro l; cases l <;> exact offer_prefix _ _

theorem eventsContinue_postEach (es : List (EventKind × Nat × Nat)) (s : State) : EventsContinue s (s.postEach es) := by
  induction es generalizing s with
  | nil => exact EventsContinue.refl s
  | cons e es ih => exact (eventsContinue_post s e.1 e.2.1 e.2.2).trans (ih _)

/-! ### The combine -/

/-- A stage leaves its value, whether or not that changes it (R63). -/
@[simp] theorem stage_value (c : Combined) (value : Nat) (tag : Tag) : (c.stage value tag).value = value := by
  simp only [Combined.stage]; split <;> simp_all

/-- A stage takes its tag exactly where it changes the value (R63). -/
theorem stage_tag (c : Combined) (value : Nat) (tag : Tag) :
    (c.stage value tag).tag = if value = c.value then c.tag else tag := by
  simp only [Combined.stage]; split <;> simp

/-! ### Releases -/

/-- The lane a release goes to is the first of the ring that can take it (R76). -/
theorem nextLane_eq_some (s : State) (i : Fin 3) :
    nextLane s = some i ↔
      eligible s i = true ∧ ∃ front back, s.sched.ring = front ++ i :: back ∧ ∀ j ∈ front, eligible s j = false := by
  simp [nextLane, List.find?_eq_some_iff_append]

theorem releaseDue_cases (s : State) :
    (∃ i, nextLane s = some i ∧ releaseDue s = grant i s) ∨
      (nextLane s = none ∧ releaseDue s = s.setRelease s.sched.ring s.sched.elapsed true) := by
  cases h : nextLane s <;> simp [releaseDue, h]

theorem takePending_cases (s : State) :
    takePending s = s ∨
      ∃ i, s.mode = .metering ∧ s.sched.releasePending = true ∧ nextLane s = some i ∧ takePending s = grant i s := by
  by_cases h : s.mode = .metering ∧ s.sched.releasePending = true
  · cases hn : nextLane s <;> simp [takePending, h, hn]
  · simp [takePending, h]

theorem handHeadway_cases (h : Nat) (s : State) :
    ((s.mode ≠ .metering ∨ s.sched.releasePending = true ∨ s.sched.elapsed < h) ∧ handHeadway h s = s.setHeadway h) ∨
      (s.mode = .metering ∧ s.sched.releasePending = false ∧ h ≤ s.sched.elapsed ∧
        handHeadway h s = releaseDue (s.setHeadway h)) := by
  have hm : (s.setHeadway h).mode = s.mode := rfl
  simp only [handHeadway, hm]
  by_cases hc : s.mode = .metering ∧ (s.setHeadway h).sched.releasePending = false ∧ h ≤ (s.setHeadway h).sched.elapsed
  · exact .inr ⟨hc.1, hc.2.1, hc.2.2, if_pos hc⟩
  · refine .inl ⟨?_, if_neg hc⟩
    simp only [State.setHeadway] at hc
    grind

/-! ### Closes -/

/-- A TIMED or FREE_RUN expiry that is due closes the interval, and its end judges the lines (R24, R25). -/
theorem exec_expiry_closes (s : State) :
    (s.limits.markSync = false → timedLimit s.limits ≤ s.counter.elapsed →
      exec .intervalTimedExpiry s = .next (closeInterval .timed (nextNumber s) s).judgeLines) ∧
    (s.limits.markSync = true → freeRunLimit s.limits ≤ s.counter.elapsed →
      exec .freeRunExpiry s = .next (closeInterval .freeRun (nextNumber s) s).judgeLines) := by
  constructor <;> intro h h' <;>
    simp [exec, execIntervalTimedExpiry, execFreeRunExpiry, finish, closeTimed, closeFreeRun, h, h']

end Sys2Proof.Machine
end

