-- ==== Sys2Proof/Tests/Slice0.lean ====
section
/-! SUPPORT. Small tests, each expected value worked out from the manual, and a witness for each statement that has
hypotheses: a concrete state and operands that meet them. -/

set_option Elab.async false

namespace Sys2Proof.Tests

open Sys2Proof.Machine

/-! ### Helpers -/

/-- The state after one command. -/
def after (c : Instr) (s : State) : State :=
  match exec c s with
  | .next t => t
  | .fault _ => s
  | .refused _ => s

/-- The last reply of a link: its status and payload. -/
def replied (l : LinkId) (s : State) : Status × List Byte := ((s.link l).lastReply.status, (s.link l).lastReply.payload)

/-- The kinds in Link C's event queue after the RESET entry. -/
def posted (s : State) : List EventKind := s.events.C.entries.tail.map Event.kind

/-- Reset, with both links PRESENT. -/
def up : State := { State.reset with links := ⟨{ LinkInterface.reset with state := .present },
  { LinkInterface.reset with state := .present }⟩ }

/-- Reset, with both links ABSENT under supervision by KEEPALIVE alone. -/
def gone : State :=
  let x := { LinkInterface.reset with state := .absent, tHi := 600, tLo := 599, keepaliveOnly := true }
  { State.reset with links := ⟨x, x⟩ }

/-- A plan with all groups: lanes 1 to 3, g_rel 20, amber 10 and red_min 20 ds, the rests 10 s, O_t 180, g 56, r_min 600,
r_max 2700, r_fixed 1200 (the rate law of the manual's worked example, 3.). -/
def planA : List Byte :=
  [7, 7] ++ be16 1 ++ be16 180 ++ be16 56 ++ be16 600 ++ be16 2700 ++ be16 1200 ++ be16 20 ++ be16 10 ++ be16 20 ++
    be16 10 ++ be16 10 ++ be16 300 ++ be16 150 ++ be16 1500 ++ be16 60 ++ be16 120 ++ be16 200 ++ be16 3 ++ be16 100 ++
    be16 5 ++ [0, 0, 0, 0] ++ [0x89, 0xB9]

/-- A lane in a state, past its green_min, with its timer at its end. -/
def laneIn (st : LaneState) : Lane := { Lane.reset with state := st, timer := some 0, age := 150 }

/-- The part in a mode and phase under a locked plan A in slot 1, each lane in a state and every drive as its lane
commands it. -/
def working3 (m : Mode) (p : Phase) (a b c : LaneState) : State :=
  let lanes : Vector Lane 3 := #v[laneIn a, laneIn b, laneIn c]
  let on := decide (m = .startup ∨ m = .metering ∨ m = .hold)
  let drive := fun (k : Fin 10) => { Drive.reset with
    blank := none
    commanded := match driveLane k with
      | some (i, col) => commands (lanes[i]).state col
      | none => on }
  { up with
    locked := true
    plans := { PlanStore.reset with
      slots := PlanStore.reset.slots.set 0 ⟨.valid, planA⟩, plan := some planA, active := some 0 }
    sched := { up.sched with
      lanes := lanes
      ring := if m = .metering ∨ m = .hold then allLanes.filter (fun i => (lanes[i]).state != .faulted) else []
      elapsed := 300
      headway := 300 }
    meter := { up.meter with
      mode := m
      phase := p
      beacon := on
      resolved := .on
      requests := ⟨.on, .none⟩
      hold := if m = .hold then some ⟨.C, 0⟩ else none }
    drives := #v[drive 0, drive 1, drive 2, drive 3, drive 4, drive 5, drive 6, drive 7, drive 8, drive 9] }

/-- A METERING meter: lane 1 green, lane 2 ready, lane 3 amber. -/
def metering : State := working3 .metering .idle .green .ready .amber

/-- A HOLD owned by Link C, its timer at its end. -/
def holding : State := working3 .hold .idle .red .ready .amber

/-- A meter in MANUAL. -/
def manual : State := working3 .manual .idle .restGreen .red .faulted

/-- A meter in SHUTDOWN at the end of its rest. -/
def resting : State := working3 .shutdown .resting .restGreen .restGreen .faulted

/-- Input D1 with a map entry. -/
def mapped (e : MapEntry) (f : Input → Input) (s : State) : State := s.setInput 0 (f { Input.reset with entry := e })

/-- A map entry of a role, with filters of 3 and 5 cs, a stuck_time of 1 s and fault_mode EXCLUDE. -/
def entry (r : Role) (lane : Option (Fin 3)) : MapEntry := ⟨r, lane, 3, 5, 1, 0, .exclude⟩

/-- A frame on a PRESENT link with supervision off is steady. -/
theorem steady_up (l : LinkId) (ka : Bool) (s : State) (h : s.links = up.links) : SteadyFrame l ka s := by
  simp only [SteadyFrame, State.link, h]
  cases l <;> cases ka <;> decide

/-- A frame other than KEEPALIVE on an ABSENT link that counts KEEPALIVE frames alone is steady. -/
theorem steady_gone (l : LinkId) (s : State) (h : s.links = gone.links) : SteadyFrame l false s := by
  simp only [SteadyFrame, State.link, h]
  cases l <;> decide

/-! ### Witnesses: each meets the hypotheses of the statement it is named after -/

theorem witness_StepTakesTheFrontCommand : ({ up with pending := [.spillOn] } : State).pending = .spillOn :: [] := rfl

/-- One drive's blanking has run out. -/
def oneDue : State := up.setDrive 0 { Drive.reset with blank := some 0 }

theorem witness_IdleSteps : (State.reset.pending = [] ∧ due State.reset = []) ∧ oneDue.pending = [] ∧ due oneDue ≠ [] := by
  decide +kernel

/-- A lane READY, a given time after an amber that followed its REST_GREEN. -/
def sinceRest (n : Nat) : State := metering.setLane 1 { metering.lane 1 with sinceRest := some n }

/-- The time of R84 runs up to and including 100 cs (log entry 16). -/
theorem witness_IdleSteps_rest :
    ((sinceRest 99).lane 1).sinceRest = some 99 ∧ ((sinceRest 100).lane 1).sinceRest = some 100 ∧
      ((tick (sinceRest 99)).lane 1).sinceRest = some 100 ∧ ((tick (sinceRest 100)).lane 1).sinceRest = none := by
  decide +kernel

theorem witness_EncodedRequests :
    ((Instr.keepalive .L 7 []).wf = true ∧ requestParts (.keepalive .L 7 []) = some (.L, 0x02, 7, []) ∧ 5 + 0 + 295 ≤ 300) ∧
      (Instr.planData .C 0 (List.replicate 250 1)).wf = true ∧ 5 + 250 + 45 ≤ 300 := by decide +kernel

theorem witness_ATransactionIsValid : parseFrame [] = none ∧ (Instr.badFrame .L []).wf = true := by decide

theorem witness_MeterInv : MeterInv metering ∧ step { metering with pending := [.spillOn] } =
    .next (after .spillOn metering) := by
  refine ⟨⟨?_, by decide +kernel, by unfold darkLane; decide +kernel, by decide +kernel,
    by unfold darkLane; decide +kernel, by decide +kernel, by unfold darkLane; decide +kernel, by decide +kernel,
    by decide +kernel⟩, rfl⟩
  intro i c
  cases c <;> revert i <;> decide +kernel

theorem witness_LinkInv : LinkInv gone ∧ step { gone with pending := [.spillOn] } = .next (after .spillOn gone) := by
  refine ⟨⟨?_, ?_, ?_, ?_, by decide, by decide⟩, rfl⟩ <;> intro l <;> cases l <;> simp [gone, State.reset, PerLink.get,
    RateComputer.reset, ModeController.reset, PlanStore.reset]

/-- Link C's event queue holds 32 entries with its mark set, and its record queue its depth. -/
def full : State :=
  { up with
    events := ⟨.afterReset 1 0, ⟨List.replicate 32 ⟨.spillOn, 1, 0, 0, 0⟩, true, 3⟩⟩
    records := ⟨[], List.replicate 4 ⟨0, .timed, 3000, 1, .dark, none, none, none, false, false, List.replicate 3 ⟨.off, 0, 0, 0, false⟩, []⟩⟩ }

theorem witness_QueueInv : QueueInv full ∧ limitsInRange full.limits ∧
    step { full with pending := [.spillOn] } = .next (after .spillOn full) := by
  refine ⟨⟨?_, ?_, ?_, ?_, ?_⟩, by unfold limitsInRange; decide, rfl⟩ <;> intro l <;> cases l <;> decide

theorem witness_RunsCount : RunsCount full ∧ step { full with pending := [.spillOn] } = .next (after .spillOn full) := by
  refine ⟨?_, rfl⟩; unfold RunsCount; decide +kernel

theorem witness_TheLock : (Instr.spillOn ≠ .powerOn ∧ Instr.spillOn ≠ .resetLine ∧ metering.locked = true) ∧
    SteadyFrame .L false metering := ⟨by decide, steady_up _ _ _ rfl⟩

/-- The part of a plan image that gives the lane timing, in ds. -/
def timing (g a r : Nat) : List Byte := List.replicate 14 0 ++ be16 g ++ be16 a ++ be16 r

/-- The default limits with a stagger_min. -/
def staggered (n : Nat) : SiteLimits := { SiteLimits.default with staggerMin := n }

theorem witness_Headway :
    (limitsInRange (staggered 8) ∧ limitsInRange (staggered 50)) ∧
      (10 ≤ planGRel (timing 10 5 10) ∧ 5 ≤ planAmber (timing 10 5 10) ∧ 10 ≤ planRedMin (timing 10 5 10)) ∧
      planGRel (timing 60 40 200) ≤ 60 ∧ planAmber (timing 60 40 200) ≤ 40 ∧ planRedMin (timing 60 40 200) ≤ 200 := by
  unfold limitsInRange; decide

/-- A rate computer with a stored value and a cap of Link C. -/
def rated (rFb : Nat) (cap : Option Nat) (floor spill : Bool) : RateComputer :=
  { RateComputer.reset with
    rFb := rFb, basis := .feedback, floorActive := floor, spillActive := spill
    orders := ⟨none, cap.map fun n => ⟨some n, none, none⟩⟩ }

theorem witness_CombineStages :
    (rated 1200 none true true).spillActive = true ∧
      planQFloor planA ≤ deviceCeiling SiteLimits.default planA 3 ∧
      SiteLimits.default.rAbsMin ≤ capBound (rated 1200 (some 240) false false) planA ∧
      (floorBound (rated 2160 none false false) planA ≤ 2160 ∧ 2160 ≤ capBound (rated 2160 none false false) planA ∧
        2160 ≤ deviceCeiling SiteLimits.default planA 3 ∧ SiteLimits.default.rAbsMin ≤ 2160) := by decide +kernel

theorem witness_CombineStages_tags :
    let r := rated 1200 (some 900) false false
    let floors := [r.orders.L, r.orders.C].filterMap fun o => o.bind RateOrder.floor
    let caps := [r.orders.L, r.orders.C].filterMap fun o => o.bind RateOrder.cap
    (600 ∈ planRMin planA :: floors ∧ ∀ x ∈ planRMin planA :: floors, x ≤ 600) ∧
      (900 ∈ planRMax planA :: caps ∧ ∀ x ∈ planRMax planA :: caps, 900 ≤ x) := by decide +kernel

/-- Spill takes 1200 veh/h to D and the tag to SPILL; a cap and the queue floor leave the tag of the queue floor (R59, R63). -/
theorem test_combine_tags : (combineOut (rated 1200 none false true) SiteLimits.default planA 3).tag = .spill ∧
    (combineOut (rated 1200 (some 900) true false) SiteLimits.default planA 3).tag = .queueFloor := by decide +kernel

theorem witness_Occupancy : 0 < 1 ∧ 1 ≤ 1 := by decide

theorem witness_HardResets : (Instr.powerOn = .powerOn ∧ 1 = 1 ∨ Instr.powerOn = .resetLine ∧ 1 = 2) ∧
    (Instr.resetLine = .powerOn ∧ 2 = 1 ∨ Instr.resetLine = .resetLine ∧ 2 = 2) := by decide

theorem witness_SoftReset : SteadyFrame .L false metering ∧ [0x00#8] ≠ [] := ⟨steady_up _ _ _ rfl, by decide⟩

/-- Link C's transaction was cut short by a reset. -/
def cut : State := up.setLink .C { up.link .C with transaction := .cutShort }

theorem witness_ChipSelect : (up.link .C).transaction ≠ .cutShort ∧ (cut.link .C).transaction = .cutShort ∧
    requestParts (.nop .C 0 []) = some (.C, 0x01, 0, []) ∧
    ({ up.link .L with transaction := .active .noReply } : LinkInterface).transaction = .active .noReply := by decide

theorem witness_RefusedRequests :
    ((Instr.lockLimits .C 0 []).wf = true ∧ requestParts (.lockLimits .C 0 []) = some (.C, 0x41, 0, []) ∧
      onlyOn 0x41 = some .L ∧ LinkId.L ≠ .C) ∧
      (Instr.unknownKind .L 0x49 0 []).wf = true ∧
      ((Instr.keepalive .L 0 [1]).wf = true ∧ requestParts (.keepalive .L 0 [1]) = some (.L, 0x02, 0, [1]) ∧
        fixedLength 0x02 = some 0 ∧ [1#8].length ≠ 0 ∧ (∀ m, onlyOn 0x02 = some m → m = .L)) ∧
      SteadyFrame .C false up ∧ SteadyFrame .L true up := by
  refine ⟨by decide, by decide, ⟨by decide, by decide, by decide, by decide, ?_⟩, steady_up _ _ _ rfl, steady_up _ _ _ rfl⟩
  intro m hm; simp [onlyOn] at hm

theorem witness_Frames :
    SteadyFrame .L true up ∧ (State.reset.link .L).state = .silent ∧ (State.reset.link .L).transaction ≠ .cutShort ∧
      ((gone.link .C).state = .absent ∧ (gone.link .C).transaction ≠ .cutShort ∧ supervises (gone.link .C) true = true) :=
  ⟨steady_up _ _ _ rfl, by decide, by decide, by decide⟩

theorem witness_ConfigureLink : SteadyFrame .L false up ∧
    (599 ≤ 600 ∧ 600 ≤ 600 ∧ (1 = 1 ∨ 1 = 3) ∧ 2 ≤ 8 ∧ 8 ≤ 8 ∧ 1 ≤ 32 ∧ 32 ≤ 32 ∧ (600 = 0 ∨ 599 < 600)) ∧
    (0 < 600 ∧ 600 ≤ 600) := ⟨steady_up _ _ _ rfl, by decide⟩

theorem witness_ConfigureLink_range :
    (let p := configPayload 601 0 1 false 2 1 false
     SteadyFrame .L false up ∧ p.length = 9 ∧ 600 < word16At p 0) ∧
      let p := (configPayload 600 0 3 true 8 32 true).set 8 2
      p.length = 9 ∧ word16At p 0 ≤ 600 ∧ word16At p 2 ≤ 600 ∧ byteAt p 4 = 3 ∧ byteAt p 5 ≤ 1 ∧ byteAt p 6 = 8 ∧
        byteAt p 7 = 32 ∧ 1 < byteAt p 8 := ⟨⟨steady_up _ _ _ rfl, by decide⟩, by decide⟩

/-- Link C supervised, its window and its violation count at given values. -/
def watched (window violations : Nat) : State :=
  up.setLink .C { up.link .C with tLo := 10, tHi := 20, window := window, violations := violations }

theorem witness_Frames_requests :
    (requestParts (.hold .C 1 []) = some (.C, 0x23, 1, []) ∧ (State.reset.link .C).state = .silent ∧
      (State.reset.link .C).transaction ≠ .cutShort) ∧
      ((gone.link .C).state = .absent ∧ requestParts (.keepalive .C 1 []) = some (.C, 0x02, 1, []) ∧
        supervises (gone.link .C) true = true) ∧
      (let s := watched 99 2
       (s.link .C).state = .present ∧ supervised (s.link .C) false = true ∧ (s.link .C).window < (s.link .C).tLo * 10 ∧
        (s.link .C).transaction ≠ .cutShort) := by decide

theorem witness_Frames_nop :
    (∀ tag payload, Instr.hold .C 1 [] ≠ .nop .C tag payload) ∧ ∃ tag payload, Instr.nop .C 1 [] = .nop .C tag payload :=
  ⟨by intros; simp, 1, [], rfl⟩

/-- A request from the frame that makes its link PRESENT is answered as from a PRESENT link; one from the early frame that
makes its link ABSENT is not (R147 to R150). -/
theorem test_requests_of_supervision :
    posted (after (.requestMetering .C 1 [1]) State.reset) = [.linkPresent] ∧
      (replied .C (after (.requestMetering .C 1 [1]) State.reset)).1 = .accepted ∧
      replied .C (after (.requestMetering .C 1 [1]) (watched 99 2)) = (.wrongState, []) := by decide +kernel

theorem witness_Violations :
    (((watched 200 1).link .C).state = .present ∧ ((watched 200 1).link .C).tHi ≠ 0 ∧
      ((watched 200 1).link .C).violations + 1 < ((watched 200 1).link .C).count ∧
      ((watched 200 1).link .C).tHi * 10 ≤ ((watched 200 1).link .C).window) ∧
      ((watched 99 1).link .C).window < ((watched 99 1).link .C).tLo * 10 ∧
      (((watched 200 2).link .C).count ≤ ((watched 200 2).link .C).violations + 1 ∧
        ((watched 200 2).meter.hold.isSome = true ↔ (watched 200 2).mode = .hold)) := by decide

theorem witness_Violations_early :
    ((watched 99 2).link .C).state = .present ∧ ((watched 99 2).link .C).tHi ≠ 0 ∧
      ((watched 99 2).link .C).transaction ≠ .cutShort ∧
      ((watched 99 2).link .C).window < ((watched 99 2).link .C).tLo * 10 ∧
      ((watched 99 2).link .C).count ≤ ((watched 99 2).link .C).violations + 1 ∧
      ((watched 99 2).meter.hold.isSome = true ↔ (watched 99 2).mode = .hold) := by decide

/-- METERING with a rate order of Link C and its last violation due. -/
def withdrawing : State := { metering with
  links := metering.links.set .C ((watched 200 2).link .C)
  rate := { metering.rate with orders := ⟨none, some ⟨some 900, none, none⟩⟩ } }

theorem witness_Violations_events :
    ((withdrawing.link .C).state = .present ∧ (withdrawing.link .C).tHi ≠ 0 ∧
      (withdrawing.link .C).tHi * 10 ≤ (withdrawing.link .C).window ∧
      (withdrawing.link .C).count ≤ (withdrawing.link .C).violations + 1) ∧
      (withdrawing.meter.hold.isSome = true ↔ withdrawing.mode = .hold) ∧ withdrawing.mode = .metering := by decide +kernel

/-- The events of R150 in their order, for a link that holds an order. -/
theorem test_absent_events : posted (after (.lateViolation .C) withdrawing) =
    [.supervisionViolation, .linkAbsent, .orderWithdrawn] := by decide +kernel

theorem witness_EventsAreQueued :
    ((up.events.get .C).entries.length < 32 ∧ (up.events.get .C).mark = false) ∧
      (full.events.get .C).entries.length = 32 := by decide

theorem witness_ReadStatus : SteadyFrame .L false holding ∧ holding.meter.hold = some ⟨.C, 0⟩ ∧ up.meter.hold = none ∧
    holding.plans.claim = none ∧ holding.rate.inForce = none := ⟨steady_up _ _ _ rfl, by decide⟩

theorem witness_Capabilities : (gone.link .C).transaction ≠ .cutShort := by decide

theorem witness_OwnQueues : SteadyFrame .C false full ∧
    (1 ≤ 16 ∧ 16 ≤ 16 ∧ ((0#8 : Byte) = 0 ∨ 16 < (0#8 : Byte).toNat) ∧ 16 < (17#8 : Byte).toNat) ∧
    (full.records.get .C ≠ [] ∧ up.records.get .C = []) := ⟨steady_up _ _ _ rfl, by decide⟩

/-- A record with a rate, an occupancy and one detector entry. -/
def recorded : IntervalRecord :=
  ⟨0x1234, .mark, 2940, 7200, .metering, some 0, some 178, some ⟨1500, .queueFloor, 240⟩, true, false,
    [⟨.green, 3, 1, 0, false⟩, ⟨.ready, 2, 0, 1, true⟩, ⟨.off, 0, 0, 0, false⟩], [⟨15, .downstream, 300, 178, .warn⟩]⟩

theorem witness_OwnQueues_layout :
    recorded.lanes.length = 3 ∧ recorded.lanes[2]? = some ⟨.off, 0, 0, 0, false⟩ ∧
      recorded.rate = some ⟨1500, .queueFloor, 240⟩ ∧ recorded.dets[0]? = some ⟨15, .downstream, 300, 178, .warn⟩ := by decide

/-- The bytes of 2.8 and 9.1 written out. -/
theorem test_layouts :
    recorded.bytes = [0x12, 0x34, 2, 0x0B, 0x7C, 0x1C, 0x20, 2, 1, 7, 1, 2, 3, 1, 0, 0, 5, 2, 0, 1, 1, 0, 0, 0, 0, 0, 0, 0xB2,
      0x05, 0xDC, 7, 0, 0xF0, 16, 1, 0x01, 0x2C, 0, 0xB2, 1] ∧
    (⟨.planApplied, 3, 0x0102, 0x1234, 3000⟩ : Event).bytes = [25, 3, 1, 2, 0x12, 0x34, 0x0B, 0xB8] := by decide +kernel

/-- A staging claim of Link L for slot 8. -/
def claimed (timer : Nat) : State := { up with plans := { up.plans with buffer := planA, claim := some ⟨.L, 7, timer⟩ } }

theorem witness_StagingClaim :
    SteadyFrame .L false (claimed 500) ∧ SteadyFrame .C false (claimed 500) ∧ SteadyFrame .C false gone ∧
      (((claimed 500).link .L).state = .present ∧ (claimed 500).plans.claim = some ⟨.L, 7, 500⟩ ∧ LinkId.L ≠ .C ∧
        up.plans.claim = none ∧ (gone.link .C).state = .absent) ∧
      ((0#8 : Byte) = 0 ∧ 8 < (9#8 : Byte).toNat) ∧ (claimed 0).plans.claim = some ⟨.L, 7, 0⟩ :=
  ⟨steady_up _ _ _ rfl, steady_up _ _ _ rfl, steady_gone _ _ rfl, by decide⟩

theorem witness_StagingClaim_none : SteadyFrame .C false up ∧ up.plans.claim = none := ⟨steady_up _ _ _ rfl, rfl⟩

theorem witness_PlanData :
    SteadyFrame .L false (claimed 1) ∧ (claimed 1).plans.claim = some ⟨.L, 7, 1⟩ ∧
      (47#8 : Byte).toNat + [1#8].length ≤ 48 ∧ 48 < (47#8 : Byte).toNat + [1#8, 2#8].length ∧
      (∀ c, up.plans.claim = some c → c.holder ≠ .L) ∧ [47#8].length < 2 :=
  ⟨steady_up _ _ _ rfl, by decide, by decide, by decide, by simp [up, State.reset, PlanStore.reset], by decide⟩

/-- METERING with a claim of Link L for the active slot and a buffer. -/
def staging (b : List Byte) : State := { metering with plans := { metering.plans with buffer := b, claim := some ⟨.L, 0, 1⟩ } }

theorem witness_CommitPlan :
    SteadyFrame .L false (staging planA) ∧ (staging planA).plans.claim = some ⟨.L, 0, 1⟩ ∧
      (planA.length = 48 ∧ imageFailure (timingBounds true SiteLimits.default) planA = none) ∧
      (staging planA).plans.active = some 0 ∧ byteAt planA 1 = byteAt planA 1 ∧
      imageFailure (timingBounds true SiteLimits.default) (planA.set 47 0) = some 46 ∧
      imageFailure (timingBounds true SiteLimits.default) defaultImage = none ∧ byteAt defaultImage 1 ≠ byteAt planA 1 ∧
      (∀ c, up.plans.claim = some c → c.holder ≠ .L) :=
  ⟨steady_up _ _ _ rfl, by decide +kernel, by decide +kernel, by decide +kernel, by decide +kernel, by decide +kernel,
    by decide +kernel, by decide +kernel, by simp [up, State.reset, PlanStore.reset]⟩

theorem witness_SelectPlan :
    SteadyFrame .L false metering ∧ (metering.link .L).state = .present ∧ (metering.slot 0).status = .valid ∧
      (metering.slot 7).status ≠ .valid ∧ metering.mode ≠ .dark ∧ metering.plans.plan = some planA ∧
      byteAt (metering.slot 0).image 1 = byteAt planA 1 ∧
      ({ metering with plans := { metering.plans with slots := metering.plans.slots.set 7 ⟨.valid, defaultImage⟩ } } : State).slot 7
        = ⟨.valid, defaultImage⟩ ∧ byteAt defaultImage 1 ≠ byteAt planA 1 ∧ up.mode = .dark :=
  ⟨steady_up _ _ _ rfl, by decide +kernel⟩

/-- A meter in MANUAL with the queue floor and spill active, and a plan without groups in slot 2. -/
def floored : State := { manual with
  rate := { manual.rate with floorActive := true, spillActive := true }
  plans := { manual.plans with slots := manual.plans.slots.set 1 ⟨.valid, planA.set 0 0⟩, plan := none, active := none } }

theorem witness_SelectPlan_groups :
    SteadyFrame .L false floored ∧ (floored.link .L).state = .present ∧ (floored.slot 1).status = .valid ∧
      floored.plans.plan = none ∧ floored.mode = .manual ∧
      planPosts 1 (floored.slot 1).image floored = [(.planApplied, 2, 1), (.queueFloorOff, 0, 65535), (.spillOff, 0, 2)] :=
  ⟨steady_up _ _ _ rfl, by decide +kernel⟩

theorem witness_SelectPlan_refused : SteadyFrame .C false gone ∧ (gone.link .C).state = .absent ∧
    ((0#8 : Byte) = 0 ∧ 8 < (9#8 : Byte).toNat) := ⟨steady_gone _ _ rfl, by decide⟩

theorem witness_WriteLimits :
    SteadyFrame .L false up ∧ up.locked = false ∧ limitsInRange (staggered 8) ∧ limitsInRange (staggered 50) ∧
      ((staggered 8).absentFallback = up.limits.absentFallback ∧ (∀ i, (up.lane i).held = none) ∧ up.counter.elapsed < 3000) ∧
      (let p := limitsPayload (staggered 7)
       p.length = 16 ∧ byteAt p 0 = 15 ∧ byteAt p 1 ≤ 30 ∧ byteAt p 2 ≤ 60 ∧ byteAt p 3 < 8) ∧
      (let p := (limitsPayload { staggered 50 with markTol := 6, intervalLen := 120, lampBlank := 25 })
       p.length = 16 ∧ 5 < byteAt p 15) ∧
      [1#8].length ≠ 16 := by
  refine ⟨steady_up _ _ _ rfl, ?_⟩; unfold limitsInRange; decide +kernel

/-- Plan A in slot 1 under limits whose green_min lies above its g_rel of 20 ds, unlocked. -/
def failing : State := { working3 .dark .idle .off .off .off with
  locked := false, limits := { SiteLimits.default with greenMin := 21 } }

theorem witness_LockLimits :
    SteadyFrame .L false failing ∧ failing.locked = false ∧ metering.locked = true ∧
      ((failing.slot 0).status = .valid ∧ imageFailure (timingBounds true failing.limits) (failing.slot 0).image ≠ none ∧
        failing.plans.active = some 0) ∧
      imageFailure (timingBounds true SiteLimits.default) (failing.slot 0).image = none :=
  ⟨steady_up _ _ _ rfl, by decide +kernel⟩

theorem witness_LockLimits_events :
    let s : State := { failing with limits := SiteLimits.default, meter := { failing.meter with resolved := .auto } }
    s.locked = false ∧ s.plans.active = some 0 ∧ (s.slot 0).status ≠ .invalid ∧ lockFailure s 0 = none ∧
      wanted s = .neither ∧ lockFailure failing 0 = some 14 := by decide +kernel

theorem witness_LockLimits_lost :
    let s := { failing with rate := { failing.rate with floorActive := true, spillActive := true } }
    s.locked = false ∧ s.plans.active = some 0 ∧ (s.slot 0).status = .valid ∧ lockFailure s 0 ≠ none ∧
      s.rate.floorActive = true ∧ s.rate.spillActive = true ∧
      posted (after (.lockLimits .L 1 []) s) = [.planInvalid, .queueFloorOff, .spillOff] := by decide +kernel

theorem witness_RequestMetering :
    SteadyFrame .C false up ∧ (up.link .C).state = .present ∧ SteadyFrame .C false gone ∧ (gone.link .C).state = .absent ∧
      3 < (4#8 : Byte).toNat := ⟨steady_up _ _ _ rfl, by decide, steady_gone _ _ rfl, by decide⟩

/-- Link C is about to become ABSENT, and Link L is ABSENT. -/
def lastLink (f : Fallback) : State :=
  { watched 200 2 with
    links := ⟨gone.links.L, (watched 200 2).links.C⟩, limits := { SiteLimits.default with absentFallback := f }
    meter := { up.meter with resolved := .on, requests := ⟨.none, .on⟩ } }

theorem witness_RequestMetering_resolution :
    (LinkId.L ≠ .C ∧ ((watched 200 2).link .C).state = .present ∧ ((watched 200 2).link .C).tHi ≠ 0 ∧
      ((watched 200 2).link .C).tHi * 10 ≤ ((watched 200 2).link .C).window ∧
      ((watched 200 2).link .C).count ≤ ((watched 200 2).link .C).violations + 1 ∧
      ((watched 200 2).link .L).state = .present) ∧
      (((lastLink .continue).link .C).state = .present ∧ ((lastLink .continue).link .L).state ≠ .present ∧
        (lastLink .shutdown).limits.absentFallback = .shutdown) ∧
      (SteadyFrame .L false gone ∧ gone.locked = false ∧
        limitsInRange { SiteLimits.default with absentFallback := .continue } ∧
        Fallback.continue ≠ gone.limits.absentFallback ∧ (∀ l ∈ [LinkId.L, .C], (gone.link l).state ≠ .present)) :=
  ⟨by decide, by decide, steady_gone _ _ rfl, by decide, by unfold limitsInRange; decide, by decide, by decide⟩

theorem test_resolution_last_link : (after (.lateViolation .C) (lastLink .continue)).meter.resolved = .on ∧
    (after (.lateViolation .C) (lastLink .shutdown)).meter.resolved = .off := by decide +kernel

/-- A locked site in DARK with plan A selected. -/
def ready : State := working3 .dark .idle .off .off .faulted

/-- PLAN_APPLIED comes before the MODE_CHANGE of the start it brings about (the order: log entry 32). -/
theorem test_selectPlan_start : posted (after (.selectPlan .L 1 [1]) ({ ready with plans := { ready.plans with active := none } } : State)) =
    [.planApplied, .modeChange] := by decide +kernel

theorem witness_LockLimits_starts :
    let s : State := { ready with locked := false }
    SteadyFrame .L false s ∧ (s.mode = .dark ∧ s.plans.plan = some planA ∧ lockFailure s 0 = none ∧
      (s.slot 0).status = .valid ∧ ∀ i, (s.lane i).state = .off ∨ (s.lane i).state = .faulted) ∧
      StartStands s (fun i => working s i = true) :=
  ⟨steady_up _ _ _ rfl, by decide +kernel, by decide +kernel, ⟨0, by decide +kernel⟩, ⟨0, by decide +kernel⟩⟩

theorem witness_AStart :
    SteadyFrame .L false ready ∧ (ready.link .L).state = .present ∧ ready.mode = .dark ∧
      (ready.locked = true ∧ ready.plans.active = some 0 ∧ (ready.slot 0).status = .valid ∧ ready.plans.plan = some planA ∧
        (∀ i, (ready.lane i).state = .off ∨ (ready.lane i).state = .faulted) ∧
        ∃ i, planEnables planA i = true ∧ (ready.lane i).state ≠ .faulted) ∧
      up.mode = .dark ∧ up.locked = false ∧ up.plans.active = none := ⟨steady_up _ _ _ rfl, by decide +kernel⟩

theorem witness_AStop : SteadyFrame .L false holding ∧ (holding.link .L).state = .present ∧
    (holding.mode = .hold ∧ metering.mode = .metering) := ⟨steady_up _ _ _ rfl, by decide⟩

theorem witness_AStop_rests :
    let s := working3 .metering .idle .red .ready .faulted
    SteadyFrame .L false s ∧ s.mode = .metering ∧ s.plans.plan = some planA ∧
      (after (.requestMetering .L 1 [2]) s).meter.phase = .resting ∧
      (after (.requestMetering .L 1 [2]) s).meter.seqTimer = 1000 ∧
      (after (.requestMetering .L 1 [2]) metering).meter.phase = .finishing :=
  ⟨steady_up _ _ _ rfl, by decide +kernel⟩

theorem witness_AStop_startup :
    (let s := working3 .startup .rest .restGreen .restGreen .faulted
     SteadyFrame .L false s ∧ (s.link .L).state = .present ∧ s.mode = .startup ∧ s.meter.phase = .rest ∧
      s.plans.plan = some planA ∧ (s.lane 0).state = .restGreen ∧ s.limits.greenMin * 10 ≤ (s.lane 0).age) ∧
      let s := working3 .startup .clearing .red .ready .faulted
      s.mode = .startup ∧ s.meter.phase = .clearing ∧ ∀ i, (s.lane i).state = .red ∨ (s.lane i).state = .ready ∨
        (s.lane i).state = .off ∨ (s.lane i).state = .faulted := ⟨⟨steady_up _ _ _ rfl, by decide +kernel⟩, by decide +kernel⟩

theorem witness_AStartReturns : SteadyFrame .L false resting ∧ (resting.link .L).state = .present ∧
    resting.mode = .shutdown ∧ resting.plans.plan = some planA ∧
    1 ≤ (combineOut { resting.rate with rFb := max (planRMin planA) (min resting.rate.rFb (planRMax planA)) }
      resting.limits planA (workingLanes resting).length).headway := ⟨steady_up _ _ _ rfl, by decide +kernel⟩

theorem witness_RateOrder :
    SteadyFrame .L false up ∧ SteadyFrame .C false gone ∧ ((up.link .L).state = .present ∧ (gone.link .C).state = .absent) ∧
      (1 ≤ 3600 ∧ 3600 ≤ 3600 ∧ 3600 < 3601 ∧ 3601 < 65536 ∧ 8 ≤ (8#8 : Byte).toNat) :=
  ⟨steady_up _ _ _ rfl, steady_gone _ _ rfl, by decide, by decide⟩

/-- Link C holds a rate order whose timer has run out. -/
def ordered : State := { metering with rate := rated 1200 none false false }
def expiring : State := { ordered with rate := { ordered.rate with orders := ⟨none, some ⟨some 900, none, some 0⟩⟩ } }

theorem witness_CancelOrder : SteadyFrame .C false expiring ∧ expiring.rate.orders.get .C = some ⟨some 900, none, some 0⟩ ∧
    ordered.rate.orders.get .C = none ∧ [1#8] ≠ [] := ⟨steady_up _ _ _ rfl, by decide⟩

theorem witness_AnExpiredOrder : expiring.rate.orders.get .C = some ⟨some 900, none, some 0⟩ ∧
    (expiring.mode = .metering ∧ expiring.plans.plan = some planA) ∧ (up.mode ≠ .metering ∧ up.mode ≠ .hold) := by decide

/-- METERING with spill active. -/
def spilled : State := { metering with rate := rated 1200 none false true }

theorem witness_Hold :
    SteadyFrame .C false metering ∧ (metering.link .C).state = .present ∧ metering.mode = .metering ∧
      metering.rate.spillActive = false ∧ holding.mode = .hold ∧ manual.mode ≠ .metering ∧ manual.mode ≠ .hold ∧
      (spilled.mode = .metering ∧ spilled.rate.spillActive = true) ∧ holding.meter.hold = some ⟨.C, 0⟩ :=
  ⟨steady_up _ _ _ rfl, by decide⟩

theorem witness_Hold_absent : SteadyFrame .C false gone ∧ (gone.link .C).state = .absent := ⟨steady_gone _ _ rfl, by decide⟩

theorem witness_Resume :
    SteadyFrame .C false holding ∧ (holding.link .C).state = .present ∧ holding.meter.hold = some ⟨.C, 0⟩ ∧
      ({ holding with meter := { holding.meter with hold := some ⟨.L, 0⟩ } } : State).meter.hold = some ⟨.L, 0⟩ ∧
      metering.meter.hold = none ∧ (gone.link .C).state = .absent ∧
      (metering.sched.releasePending = false ∧ metering.sched.headway ≤ metering.sched.elapsed ∧
        nextLane metering = some 1 ∧ nextLane (working3 .metering .idle .red .red .red) = none) :=
  ⟨steady_up _ _ _ rfl, by decide +kernel⟩

/-- METERING with lane 3 FAULTED. -/
def twoLanes : State := working3 .metering .idle .red .ready .faulted

theorem witness_ClearLaneFault :
    SteadyFrame .L false twoLanes ∧ (twoLanes.link .L).state = .present ∧ (twoLanes.lane 2).state = .faulted ∧
      twoLanes.mode = .metering ∧ twoLanes.plans.plan = some planA ∧ (manual.mode = .manual ∧ (manual.lane 2).state = .faulted) ∧
      (twoLanes.lane 0).state ≠ .faulted ∧ (up.mode ≠ .metering ∧ up.mode ≠ .hold ∧ up.mode ≠ .manual) :=
  ⟨steady_up _ _ _ rfl, by decide⟩

theorem witness_ClearLaneFault_watches :
    (∀ c ∈ [Colour.red, .amber, .green], (twoLanes.drive (driveOf 2 c)).commanded = false) ∧
      (∀ c ∈ [Colour.red, .amber, .green], (manual.drive (driveOf 2 c)).commanded = false) ∧
      (SteadyFrame .C false gone ∧ (gone.link .C).state = .absent) ∧ (0#8 : Byte) = 0 ∧ 3 < (4#8 : Byte).toNat :=
  ⟨by decide +kernel, by decide +kernel, ⟨steady_gone _ _ rfl, by decide⟩, rfl, by decide⟩

theorem test_clearFaultLane_watches :
    let s := { twoLanes with limits := { SiteLimits.default with lampBlank := 0 } }
    let s := s.setDrive (driveOf 2 .amber) { s.drive (driveOf 2 .amber) with sensed := true }
    ((after (.clearFaultLane .L 1 [3]) s).drive (driveOf 2 .red)).out = .suspect 0 20 ∧
      ((after (.clearFaultLane .L 1 [3]) s).drive (driveOf 2 .amber)).lit = .suspect 0 20 := by decide +kernel

/-- FAULT_DARK, no conflict held; and with one. -/
def dark : State := working3 .faultDark .idle .off .off .faulted
def conflict : State := dark.setDrive (driveOf 0 .green) { dark.drive (driveOf 0 .green) with lit := .latched none }

theorem witness_EnterManual : SteadyFrame .L false metering ∧ (metering.link .L).state = .present ∧
    (metering.mode ≠ .manual ∧ metering.mode ≠ .faultDark) ∧ manual.mode = .manual ∧ dark.mode = .faultDark ∧
    ((metering.lane 0).state = .green ∧ metering.limits.greenMin * 10 ≤ (metering.lane 0).age ∧
      (metering.lane 1).state = .ready ∧ (metering.lane 2).state = .amber ∧ (ready.lane 0).state = .off ∧
      (ready.lane 2).state = .faulted) := ⟨steady_up _ _ _ rfl, by decide +kernel⟩

theorem witness_EnterManual_absent : SteadyFrame .L false gone ∧ (gone.link .L).state = .absent :=
  ⟨steady_gone _ _ rfl, by decide⟩

/-- A resolved request that wants no start. -/
def calm (s : State) : State := { s with meter := { s.meter with resolved := .off, requests := ⟨.off, .none⟩ } }

theorem witness_ManualAndFaultDark :
    SteadyFrame .L false (calm manual) ∧ ((calm manual).mode = .manual ∧ wanted (calm manual) ≠ .start) ∧
      metering.mode ≠ .manual ∧
      ((dark.link .L).state = .present ∧ dark.mode = .faultDark ∧ conflictHeld dark = false ∧ wanted (calm dark) ≠ .start ∧
        (∀ i, (dark.lane i).state = .off ∨ (dark.lane i).state = .faulted) ∧
        (∀ c ∈ [Colour.red, .amber, .green], ∀ i, (dark.drive (driveOf i c)).commanded = false)) ∧
      conflict.mode = .faultDark ∧ conflictHeld conflict = true := ⟨steady_up _ _ _ rfl, by decide +kernel⟩

theorem witness_ManualAndFaultDark_starts :
    (SteadyFrame .L false manual ∧ manual.mode = .manual ∧ manual.plans.plan = some planA ∧ manual.locked = true ∧
      StartStands manual fun i => enabled manual i = true) ∧
      ((dark.link .L).state = .present ∧ dark.mode = .faultDark ∧ conflictHeld dark = false ∧ dark.plans.plan = some planA ∧
        dark.locked = true ∧ (∀ i, (dark.lane i).state = .off ∨ (dark.lane i).state = .faulted) ∧
        (∀ i c, (dark.drive (driveOf i c)).commanded = false)) ∧ StartStands dark fun i => enabled dark i = true := by
  refine ⟨⟨steady_up _ _ _ rfl, by decide +kernel, by decide +kernel, by decide +kernel, by decide +kernel,
    ⟨0, by decide +kernel⟩, ⟨0, by decide +kernel⟩⟩, ⟨by decide +kernel, by decide +kernel, by decide +kernel,
    by decide +kernel, by decide +kernel, by decide +kernel, ?_⟩, by decide +kernel, ⟨0, by decide +kernel⟩,
    ⟨0, by decide +kernel⟩⟩
  intro i c; cases c <;> revert i <;> decide +kernel

/-- Every lane fault ends at the entry to DARK, and the standing ON then starts the meter (R105, R107). -/
theorem test_starts_from_dark :
    posted (after (.exitManual .L 1 []) manual) = [.modeChange, .modeChange] ∧
      ((after (.exitManual .L 1 []) manual).lane 2).state = .restGreen ∧
      posted (after (.clearFaultMeter .L 1 []) dark) = [.faultCleared, .modeChange, .modeChange] := by decide +kernel

theorem witness_ManualAndFaultDark_absent : SteadyFrame .L false gone ∧ (gone.link .L).state = .absent :=
  ⟨steady_gone _ _ rfl, by decide⟩

theorem witness_SetAspect : SteadyFrame .L false manual ∧ manual.mode = .manual ∧ (manual.lane 0).state ≠ .faulted ∧
    (manual.lane 2).state = .faulted ∧ metering.mode ≠ .manual := ⟨steady_up _ _ _ rfl, by decide⟩

theorem witness_SetAspect_range : ((0#8 : Byte) = 0 ∧ 3 < (4#8 : Byte).toNat) ∧ 2 < (3#8 : Byte).toNat ∧ 1 < (2#8 : Byte).toNat := by
  decide

theorem test_setAspect_amber :
    let s := working3 .manual .idle .amber .red .faulted
    ((after (.setAspect .L 1 [1, 0]) s).lane 0).toOff = false ∧
      ((after (.amberTimerExpiry 0) (after (.setAspect .L 1 [1, 0]) s)).lane 0).state = .off := by decide +kernel

/-- A part that closes on marks, with 30 s intervals and a tolerance of 2 s. -/
def marking (elapsed : Nat) : State :=
  { up with limits := { SiteLimits.default with markSync := true }, counter := ⟨813, elapsed, none⟩ }

theorem witness_IntervalMark :
    SteadyFrame .C false (marking 2800) ∧ up.limits.markSync = false ∧ (marking 2799).limits.markSync = true ∧ 65535 < 65536 ∧
      (marking 2799).counter.elapsed < ((marking 2799).limits.intervalLen - (marking 2799).limits.markTol) * 100 ∧
      ((marking 2800).limits.intervalLen - (marking 2800).limits.markTol) * 100 ≤ (marking 2800).counter.elapsed ∧
      [0#8].length ≠ 2 := ⟨steady_up _ _ _ rfl, by decide⟩

/-- A part that closes TIMED, in its last interval number. -/
def timed (elapsed : Nat) : State := { up with counter := ⟨65535, elapsed, none⟩ }

theorem witness_Expiries :
    ((timed 3000).limits.markSync = false ∧ (timed 3000).limits.intervalLen * 100 ≤ (timed 3000).counter.elapsed ∧
      (timed 3000).counter.waiting = none) ∧
      ((marking 3200).limits.markSync = true ∧
        ((marking 3200).limits.intervalLen + (marking 3200).limits.markTol) * 100 ≤ (marking 3200).counter.elapsed ∧
        (marking 3200).counter.waiting = none) ∧
      (timed 2999).counter.elapsed < (timed 2999).limits.intervalLen * 100 := by decide

/-- METERING under AUTO at the end of an interval, with plan A pending and one DOWNSTREAM input of occupancy 70. -/
def closing (elapsed : Nat) : State :=
  mapped (entry .downstream none) (fun x => { x with onTime := 210, faultChatter := true })
    { metering with
      counter := ⟨65535, elapsed, none⟩, plans := { metering.plans with pendingSlot := some 0 }
      meter := { metering.meter with resolved := .auto, offRun := 4 }
      rate := { RateComputer.reset with rPrev := 1200 } }

theorem witness_Expiries_close :
    ClosesInterval .intervalTimedExpiry .timed 0 (closing 3000) ∧ (closing 3000).counter.waiting = none ∧
      ClosesInterval .freeRunExpiry .freeRun 814 (marking 3200) ∧ (marking 3200).counter.waiting = none ∧
      ClosesInterval (.intervalMark .C 7 (be16 65535)) .mark 65535 (marking 2800) ∧
      ((closing 3000).plans.pendingSlot = some 0 ∧ (closing 3000).plans.plan = some planA ∧
        byteAt planA 1 = byteAt ((closing 3000).slot 0).image 1) ∧ (closing 2999).counter.elapsed < 3000 ∧
      (marking 3199).counter.elapsed < 3200 :=
  ⟨.inl (by decide), rfl, .inr (.inl (by decide)), rfl, .inr (.inr ⟨⟨7, rfl⟩, by decide, rfl, steady_up _ _ _ rfl, by decide⟩),
    by decide +kernel, by decide, by decide⟩

theorem test_close_applies_and_stops :
    let t := after .intervalTimedExpiry (closing 3000)
    (posted t = [.intervalClosed, .detRecovered, .planApplied] ∧ t.rate.rFb = 1970) ∧
      (after .recordPlaced t).mode = .shutdown ∧ (after .recordPlaced t).events.C.entries.getLast?.map Event.detail = some (4 * 256 + 4) := by
  decide +kernel

/-- A detector entry of a QUEUE input. -/
def queued (occupancy : Nat) (health : Health) : DetEntry := ⟨0, .queue, 3, occupancy, health⟩

theorem witness_Feedback :
    metering.plans.plan = some planA ∧ planRMin planA ≤ planRMax planA ∧
      (175 ≤ planTarget planA ∧ 8 * 35 ≤ planGain planA * (planTarget planA - 175) ∧
        planGain planA * (planTarget planA - 175) < 8 * 36) ∧
      (planTarget planA ≤ 185 ∧ 8 * 35 ≤ planGain planA * (185 - planTarget planA) ∧
        planGain planA * (185 - planTarget planA) < 8 * 36) ∧
      planQueueGroup planA = true ∧ planQueueGroup defaultImage = false ∧
      (∀ e ∈ [queued 300 .excluded], e.role = .queue → e.health = .excluded) ∧
      (∀ f ∈ [queued 300 .ok, queued 150 .warn], f.role = .queue → f.health ≠ .excluded → f.occupancy ≤ (queued 300 .ok).occupancy) := by
  decide +kernel

theorem witness_Feedback_close :
    (ClosesInterval .intervalTimedExpiry .timed 0 (closing 3000) ∧ (closing 3000).counter.waiting = none) ∧
      engaged (closing 3000) = true ∧ (closing 3000).meter.resolved = .auto ∧ planActivationGroup planA = true ∧
      engaged (timed 3000) = false ∧ (timed 3000).plans.pendingSlot = none :=
  ⟨⟨.inl (by decide), rfl⟩, by decide +kernel⟩

/-- A record waits, under AUTO and a plan with an activation group; Link C's queue is full. -/
def waiting : State :=
  { full with
    meter := { full.meter with resolved := .auto }
    plans := { full.plans with plan := some planA }
    counter := ⟨1, 0, some ⟨⟨0, .timed, 3000, 1, .dark, none, none, none, false, false, [], []⟩, false, false⟩⟩ }

theorem witness_RecordPlaced :
    waiting.counter.waiting ≠ none ∧
      (∀ l ∈ [LinkId.L, .C], 1 ≤ (waiting.link l).depth ∧ (waiting.records.get l).length ≤ (waiting.link l).depth) ∧
      ((waiting.records.get .L).length < (waiting.link .L).depth ∧ (waiting.records.get .C).length = (waiting.link .C).depth) ∧
      wanted waiting = .neither ∧ up.counter.waiting = none := by decide +kernel

/-- A record waits whose close decided an automatic start, or a stop, under AUTO and plan A. -/
def decided (start stop : Bool) (s : State) : State :=
  { s with
    meter := { s.meter with resolved := .auto }
    counter := ⟨1, 0, some ⟨⟨0, .timed, 3000, 1, s.mode, none, none, none, false, false, [], []⟩, start, stop⟩⟩ }

theorem witness_RecordPlaced_auto :
    (let s := decided true false ready
     s.counter.waiting ≠ none ∧ s.meter.resolved = .auto ∧ s.plans.plan = some planA ∧ planActivationGroup planA = true ∧
      s.mode = .dark ∧ s.locked = true ∧ s.plans.active = some 0 ∧ (s.slot 0).status = .valid ∧
      planEnables planA 0 = true ∧ (s.lane 0).state ≠ .faulted) ∧
      (decided true false failing).locked = false ∧ (decided false true metering).mode = .metering := by decide +kernel

theorem test_recordPlaced_autoStart : (after .recordPlaced (decided true false ready)).mode = .startup ∧
    (after .recordPlaced (decided true false ready)).events.L.entries.getLast?.map Event.detail = some (1 * 256 + 2) := by
  decide +kernel

theorem witness_Detectors :
    let x := (mapped (entry .unused none) id up).input 0
    let y := (mapped (entry .unused none) (fun x => { x with raw := true, filter := some 0 }) up).input 0
    (x.raw = false ∧ x.raw ≠ true ∧ true ≠ x.cond ∧ x.entry.filterTime true ≠ 0) ∧
      (y.raw ≠ false ∧ false = y.cond ∧ y.filter = some 0 ∧ x.filter ≠ some 0) ∧
      ((up.input 0).entry.filterTime true = 0 ∧ true ≠ (up.input 0).cond) ∧
      (x.entry.role = .unused ∧ up.mode ≠ .metering ∧ x.faultStuck = false) := by decide +kernel

/-- D1 the DEMAND input of lane 1 with a given fault_mode, its chatter count at the limit. -/
def chattering (m : FaultMode) : State :=
  mapped { entry .demand (some 0) with chatterLimit := 5, faultMode := m } (fun x => { x with chatter := 5 }) up

theorem witness_Detectors_substitution :
    let x := (chattering .exclude).input 0
    demandInput (chattering .exclude) 0 = some 0 ∧ x.entry.role ≠ .unused ∧ x.entry.chatterLimit ≠ 0 ∧
      x.chatter = x.entry.chatterLimit ∧ x.faultChatter = false ∧ x.faultStuck = false ∧ x.faultOff = false ∧
      ((chattering .warn).input 0).entry.faultMode = .warn ∧
      substitutionInForce (edge 0 true (chattering .exclude)) 0 = true ∧
      substitutionInForce (edge 0 true (chattering .warn)) 0 = false := by decide +kernel

theorem witness_Detectors_runs :
    let s := mapped (entry .spillback none) (fun x => { x with run := some ⟨false, 5⟩ }) up
    RunsCount s ∧ (s.input 0).run.isSome = true := by unfold RunsCount; decide +kernel

theorem witness_Detectors_chatter :
    let x := (mapped { entry .queue none with chatterLimit := 255 } (fun x => { x with chatter := 255 }) up).input 0
    x.entry.role ≠ .unused ∧ x.entry.faultMode ≠ .ignore ∧ x.entry.chatterLimit ≠ 0 ∧ x.chatter = x.entry.chatterLimit ∧
      x.faultChatter = false ∧ x.entry.role ≠ .passage ∧ x.entry.role ≠ .spillback ∧ x.faultOff = false := by decide +kernel

/-- Lane 1 green with its window open, a DEMAND input of it conditioned off, and two passages counted so. -/
def offLoop : State := (mapped (entry .demand (some 0)) id metering).setDfeLane 0 ⟨2, false⟩
def opened : State := offLoop.setLane 0 { offLoop.lane 0 with window := .opened false }

theorem witness_Passages :
    (((opened.lane 0).state = .green ∧ (opened.lane 0).window = .opened false) ∧
      ((opened.lane 1).state = .ready ∧ (opened.lane 1).window = .closed ∧ (opened.lane 1).sinceRest = none)) ∧
      (classify (opened.lane 0) ≠ .uncounted ∧ demandInput opened 0 = some 0 ∧ (opened.input 0).cond = false ∧
        (opened.dfeLane 0).failedOff = 2 ∧ (opened.input 0).detects = true ∧ (opened.input 0).faultOff = false) ∧
      (demandInput opened 1 = none ∧ classify (opened.lane 1) ≠ .uncounted) := by decide +kernel

/-- D1 the PASSAGE input of lane 1, or its DEMAND input, with filter times of 0. -/
def loop (r : Role) (f : Input → Input) : State := mapped { entry r (some 0) with onFilter := 0, offFilter := 0 } f metering

theorem witness_Passages_ignored :
    let s := opened.setInput 0 { opened.input 0 with entry := { (opened.input 0).entry with faultMode := .ignore } }
    classify (s.lane 0) ≠ .uncounted ∧ demandInput s 0 = some 0 ∧ (s.input 0).cond = false ∧ (s.input 0).detects = false ∧
      (s.dfeLane 0).failedOff = 2 ∧ ((passage 0 s).dfeLane 0).failedOff = 3 ∧ posted (passage 0 s) = [] := by decide +kernel

theorem witness_Passages_edges :
    (let s := loop .passage id
     (s.input 0).entry.role = .passage ∧ (s.input 0).entry.lane = some 0 ∧ (s.input 0).entry.chatterLimit = 0 ∧
      s.sched.releasePending = false ∧ (s.input 0).raw = false ∧ (s.input 0).cond = false ∧ (s.input 0).entry.onFilter = 0) ∧
      (let x := (loop .passage fun x => { x with raw := true, filter := some 0 }).input 0
       x.raw = true ∧ x.filter = some 0) ∧
      let x := (loop .demand fun x => { x with faultOff := true }).input 0
      x.entry.role = .demand ∧ x.entry.lane = some 0 ∧ x.entry.chatterLimit = 0 ∧ x.raw = false ∧ x.cond = false := by
  decide +kernel

/-- An input conditioned on for its stuck_time of 1 s. -/
def stuck : State := mapped (entry .downstream none) (fun x => { x with raw := true, cond := true, stuck := 100 }) up

theorem witness_Stuck :
    stuckDue (stuck.input 0) = true ∧ stuckDue (up.input 0) = false ∧
      ((stuck.input 0).entry.role ≠ .spillback ∧ stuck.mode ≠ .metering) ∧
      ((after (.stuckTimerExpiry 0) stuck).input 0).faultStuck = true := by decide +kernel

/-- D1 a SPILLBACK loop at its stuck_time, alone, with spill active. -/
def stuckSpill : State := mapped (entry .spillback none)
  (fun x => { x with raw := true, cond := true, stuck := 100, run := some ⟨true, 100⟩ })
  { metering with rate := rated 1200 none false true }

theorem witness_Stuck_spill :
    stuckDue (stuckSpill.input 0) = true ∧ (stuckSpill.input 0).entry.role = .spillback ∧
      (stuckSpill.input 0).entry.faultMode = .exclude ∧ (stuckSpill.input 0).anyFault = false ∧
      stuckSpill.plans.plan = some planA ∧ planSpillGroup planA = true ∧ stuckSpill.rate.spillActive = true ∧
      ∀ e, e ≠ 0 → (stuckSpill.input e).run = none := by decide +kernel

/-- D1 the DEMAND input of lane 1, on for its stuck_time. -/
def stuckDemand : State := mapped (entry .demand (some 0)) (fun x => { x with raw := true, cond := true, stuck := 100 }) up

theorem witness_Stuck_substitution :
    demandInput stuckDemand 0 = some 0 ∧ stuckDue (stuckDemand.input 0) = true ∧ demandInput stuckDemand 1 = none ∧
      (let t := after (.stuckTimerExpiry 0) stuckDemand
       (t.input 0).faultStuck = true ∧ demandInput t 0 = some 0 ∧ substitutionInForce t 0 = true ∧
        substitutionInForce (fallingEdge 0 t) 0 = false ∧ ((fallingEdge 0 t).dfeLane 0).substituted = true) := by
  decide +kernel

theorem test_stuck_spill : posted (after (.stuckTimerExpiry 0) stuckSpill) = [.detFault, .spillOff] := by decide +kernel

/-- A map payload: one DEMAND loop of lane 1 with filters 3 and 5 cs, stuck_time 60 s, chatter_limit 8, fault_mode EXCLUDE. -/
def mapPayload : List Byte := [3, 1, 3, 5, 0, 60, 8, 2] ++ List.replicate 120 0

theorem witness_WriteMap :
    SteadyFrame .L false up ∧ up.mode = .dark ∧ mapPayload.length = 128 ∧ firstFailure (mapChecks mapPayload) = none ∧
      (metering.mode ≠ .dark ∧ metering.mode ≠ .faultDark) ∧ [3#8].length ≠ 128 ∧
      firstFailure (mapChecks (mapPayload.set 1 4)) = some 1 := ⟨steady_up _ _ _ rfl, by decide +kernel⟩

theorem witness_WriteMap_checks :
    (¬ MapFieldOk (mapPayload.set 1 4) 0 1 ∧ MapFieldOk (mapPayload.set 1 4) 0 0) ∧
      (let p := mapPayload.take 8 ++ mapPayload.take 8 ++ List.replicate 112 0
       ¬ MapTallyOk p 1 ∧ MapTallyOk p 0 ∧ firstFailure (mapChecks p) = some 8) ∧
      (let s := mapped (entry .spillback none) (fun x => { x with filter := some 1 }) up
       (s.input 0).anyFault = false ∧ s.rate.spillActive = false) := by
  unfold MapTallyOk; simp only [MapFieldOk]; decide +kernel

/-- D1 a SPILLBACK loop with a run, in a state with spill active or not. -/
def spilling (on : Bool) (time : Nat) (active : Bool) (s : State) : State :=
  mapped (entry .spillback none) (fun x => { x with raw := on, cond := on, run := some ⟨on, time⟩ })
    { s with rate := rated 1200 none false active }

theorem witness_Spill :
    let on := spilling true 6000 false metering
    let off := spilling false 12000 true metering
    (on.plans.plan = some planA ∧ planSpillGroup planA = true ∧ on.rate.spillActive = false ∧ on.mode ≠ .hold ∧
      (on.input 0).run = some ⟨true, 6000⟩ ∧ planSpillTime planA * 100 ≤ 6000) ∧
      ((spilling true 5999 false metering).input 0).run = some ⟨true, 5999⟩ ∧
      (off.rate.spillActive = true ∧ (off.input 0).run = some ⟨false, 12000⟩ ∧ planSpillClear planA * 100 ≤ 12000) ∧
      ((spilling true 6000 false holding).mode = .hold ∧ (spilling true 6000 false holding).meter.hold = some ⟨.C, 0⟩ ∧
        spillInput (spilling true 6000 false holding) = some 0) := by decide +kernel

theorem witness_Spill_more :
    (spillInput (spilling true 6000 false holding) = some 0 ∧ (spilling true 6000 false holding).mode = .hold) ∧
      (let s : State := { metering with rate := rated 1200 none false true }
       s.rate.spillActive = true ∧ s.plans.plan = some planA ∧ ∀ d, (s.input d).run = none) ∧
      (up.plans.plan = none ∧ planSpillGroup defaultImage = false) ∧
      (let x := (spilling false 0 false up).input 0
       x.entry.role = .spillback ∧ x.anyFault = false ∧ x.entry.chatterLimit = 0) := by decide +kernel

theorem witness_LaneTimers :
    (metering.plans.plan = some planA ∧ metering.mode = .metering ∧ wanted metering ≠ .stop) ∧
      ((metering.lane 0).state = .green ∧ (metering.lane 0).timer = some 0 ∧ (metering.lane 0).held = none) ∧
      ((metering.lane 2).state = .amber ∧ (metering.lane 2).toOff = false ∧ (metering.lane 2).restAwaits = false) ∧
      ((twoLanes.lane 0).state = .red ∧ (twoLanes.lane 0).timer = some 0) ∧
      (manual.setLane 0 { manual.lane 0 with held := some .stop, window := .inGrace true 0 }).lane 0 =
        { manual.lane 0 with held := some .stop, window := .inGrace true 0 } ∧
      manual.limits.greenMin * 10 ≤ (manual.lane 0).age := by decide +kernel

/-- A meter in SHUTDOWN: lane 1 in a state, lane 2 in another, their rest orders awaited. -/
def finishing (a b : LaneState) : State :=
  let s := calm (working3 .shutdown .finishing a b .faulted)
  (s.setLane 0 { s.lane 0 with restAwaits := true }).setLane 1 { s.lane 1 with restAwaits := true }

theorem witness_LaneTimers_shutdown :
    let s := finishing .green .amber
    let r := (calm (working3 .shutdown .finishing .red .amber .faulted))
    (s.plans.plan = some planA ∧ s.mode = .shutdown ∧ working s 0 = true ∧ wanted s ≠ .start ∧ (s.lane 0).state = .green ∧
      (s.lane 0).timer = some 0 ∧ (s.lane 0).held = none) ∧
      ((r.lane 1).state = .amber ∧ working r 1 = true ∧ (r.lane 1).toOff = false ∧ (r.lane 1).restAwaits = false ∧
        (r.lane 0).state = .red ∧ (r.lane 0).timer = some 0) ∧ (manual.lane 0).state ≠ .green := by decide +kernel

theorem witness_LaneTimers_manual :
    let s := working3 .manual .idle .amber .red .faulted
    s.mode = .manual ∧ (s.lane 0).timer = some 0 ∧ (s.lane 0).restAwaits = false ∧ (s.lane 0).state = .amber ∧
      (s.lane 1).timer = some 0 ∧ (s.lane 1).restAwaits = false ∧ (s.lane 1).state = .red := by decide +kernel

theorem test_manual_green :
    let s := (working3 .manual .idle .amber .red .faulted).setAspectOf 1 (some .green)
    ((after (.redTimerExpiry 1) s).lane 1).state = .green ∧ (after (.redTimerExpiry 1) s).aspect 1 = none := by decide +kernel

theorem witness_EnteringALaneState : metering.mode ≠ .faultDark ∧
    (metering.drive (driveOf 0 .green)).commanded = commands .green .green ∧
    (metering.drive (driveOf 0 .green)).commanded ≠ commands .amber .green := by decide

/-- A METERING meter whose lane 1 has its green drive's OUT watch SUSPECT and its LIT watch LATCHED, under a lamp_blank. -/
def watchedGreen (blank : Nat) (out lit : WatchState) : State :=
  { metering with
    limits := { metering.limits with lampBlank := blank }
    drives := metering.drives.set 2 { metering.drive 2 with out := out, lit := lit } }

theorem witness_EnteringALaneState_watches :
    let s := watchedGreen 10 (.suspect 3 20) (.latched none)
    let z := watchedGreen 0 .clear .clear
    (s.mode ≠ .faultDark ∧ (s.drive (driveOf 0 .green)).commanded ≠ commands .amber .green ∧ s.limits.lampBlank ≠ 0 ∧
      (s.drive (driveOf 0 .green)).out = .suspect 3 20 ∧ (s.drive (driveOf 0 .green)).lit = .latched none) ∧
      (z.limits.lampBlank = 0 ∧ ((enterLane 0 ((z.lane 0).toAmber 100 false) z).drive (driveOf 0 .green)).commanded = false ∧
        ((enterLane 0 ((z.lane 0).toAmber 100 false) z).drive (driveOf 0 .amber)).commanded = true ∧
        (z.drive (driveOf 0 .amber)).out = .clear ∧ (z.drive (driveOf 0 .green)).lit = .clear) ∧
      (({ Lane.reset with window := .opened true } : Lane).window = .opened true ∧ Lane.reset.window = .closed ∧
        ({ laneIn .amber with afterRest := true } : Lane).state = .amber) := by decide +kernel

theorem witness_ARelease :
    metering.mode = .metering ∧ metering.plans.plan = some planA ∧ metering.sched.releasePending = false ∧
      metering.sched.headway ≤ metering.sched.elapsed ∧ metering.sched.ring = [0] ++ 1 :: [2] ∧
      (∀ j ∈ [(0 : Fin 3)], (metering.lane j).state ≠ .ready ∨ hasDemand metering j = false) ∧
      ((metering.lane 1).state = .ready ∧ hasDemand metering 1 = true) ∧
      (let s := working3 .metering .idle .red .red .red
       ∀ j ∈ s.sched.ring, (s.lane j).state ≠ .ready ∨ hasDemand s j = false) := by decide +kernel

/-- METERING with a release pending: lane 1 at the end of its red, lane 2 READY with its DEMAND input D1 off. -/
def pendingRelease : State :=
  let s := mapped { entry .demand (some 1) with onFilter := 0 } id (working3 .metering .idle .red .ready .faulted)
  { s with sched := { s.sched with releasePending := true } }

theorem witness_ARelease_pending :
    (pendingRelease.mode = .metering ∧ pendingRelease.plans.plan = some planA ∧ pendingRelease.sched.releasePending = true ∧
      (pendingRelease.lane 0).state = .red ∧ (pendingRelease.lane 0).timer = some 0 ∧ wanted pendingRelease ≠ .stop ∧
      hasDemand (enterLane 0 (pendingRelease.lane 0).toReady pendingRelease) 0 = true ∧
      pendingRelease.sched.ring = [] ++ 0 :: [1]) ∧
      (demandInput pendingRelease 1 = some 0 ∧ (pendingRelease.input 0).raw = false ∧ (pendingRelease.input 0).cond = false ∧
        (pendingRelease.input 0).entry.onFilter = 0 ∧ pendingRelease.sched.ring = [0] ++ 1 :: [] ∧
        (pendingRelease.lane 0).state ≠ .ready ∧ (pendingRelease.lane 1).state = .ready) ∧
      (ordered.rate.inForce.map RateOut.headway ≠
          some (combineOut ordered.rate ordered.limits planA (workingLanes ordered).length).headway ∧
        ordered.sched.elapsed < 301) := by decide +kernel

/-- A release pending, lane 2 READY in its grace, two passages already counted with its DEMAND input D1 off; D2 its PASSAGE
input. -/
def substituting : State :=
  let s := (pendingRelease.setDfeLane 1 ⟨2, false⟩).setInput 1
    { Input.reset with entry := { entry .passage (some 1) with onFilter := 0 } }
  s.setLane 1 { s.lane 1 with window := .inGrace false 50 }

theorem witness_ARelease_substitution :
    let s := substituting
    (s.mode = .metering ∧ s.plans.plan = some planA ∧ s.sched.releasePending = true ∧ demandInput s 1 = some 0 ∧
      (s.input 0).cond = false ∧ (s.dfeLane 1).failedOff = 2 ∧ (s.input 0).detects = true ∧ (s.input 0).faultOff = false) ∧
      ((s.input 1).entry.role = .passage ∧ (s.input 1).entry.lane = some 1 ∧ (s.input 1).raw = false ∧
        (s.input 1).cond = false ∧ (s.input 1).entry.onFilter = 0 ∧ s.sched.ring = [0] ++ 1 :: [] ∧
        (s.lane 0).state ≠ .ready ∧ (s.lane 1).state = .ready ∧ classify (s.lane 1) ≠ .uncounted) := by decide +kernel

theorem test_substitution_releases :
    ((after (.detectorRawChange 1 true) substituting).lane 1).state = .green ∧
      posted (after (.detectorRawChange 1 true) substituting) = [.detFault] := by decide +kernel

theorem witness_ARelease_filter :
    let s := pendingRelease.setInput 0 { pendingRelease.input 0 with raw := true, filter := some 0 }
    s.mode = .metering ∧ s.plans.plan = some planA ∧ s.sched.releasePending = true ∧ (s.input 0).raw = true ∧
      (s.input 0).filter = some 0 ∧ demandInput s 1 = some 0 ∧ (s.input 0).cond = false ∧
      ((after (.filterTimerExpiry 0) s).lane 1).state = .green := by decide +kernel

theorem test_tick_pending :
    (tick { pendingRelease with sched := { pendingRelease.sched with headway := 400 } }).sched.elapsed = 300 := by
  decide +kernel

theorem witness_LaneOrders_rest : (manual.lane 0).state = .restGreen := by decide

theorem witness_LaneOrders :
    (metering.lane 0).state = .green ∧ ¬(metering.lane 0).age < metering.limits.greenMin * 10 ∧ (ready.lane 0).state = .off ∧
      (metering.setLane 0 { metering.lane 0 with age := 149 }).limits.greenMin * 10 = 150 ∧
      (metering.lane 2).state = .amber ∧ (metering.lane 1).state = .ready ∧ (twoLanes.lane 2).state = .faulted := by
  decide +kernel

theorem witness_Sequences :
    let rest := working3 .startup .rest .restGreen .restGreen .faulted
    let clearing := working3 .startup .clearing .amber .red .faulted
    (rest.plans.plan = some planA ∧ rest.mode = .startup ∧ rest.meter.phase = .rest ∧ rest.meter.seqTimer = 0 ∧
      ∀ i, (rest.lane i).state = .restGreen → rest.limits.greenMin * 10 ≤ (rest.lane i).age) ∧
      (resting.mode = .shutdown ∧ resting.meter.phase = .resting ∧ wanted (calm resting) ≠ .start ∧
        ∀ i, (resting.lane i).state = .restGreen ∨ (resting.lane i).state = .off ∨ (resting.lane i).state = .faulted) ∧
      (clearing.mode = .startup ∧ clearing.meter.phase = .clearing ∧ planEnables planA 0 = true ∧
        (clearing.lane 0).state = .amber ∧ (clearing.lane 0).timer = some 0 ∧ (clearing.lane 0).toOff = false ∧
        (clearing.lane 0).restAwaits = false ∧
        (∀ j, j ≠ 0 → working clearing j = true → (clearing.lane j).state = .red ∨ (clearing.lane j).state = .ready) ∧
        wanted clearing ≠ .stop ∧
        1 ≤ (combineOut { clearing.rate with rFb := planRFixed planA, basis := .fixed, fallbackMark := false }
          clearing.limits planA (workingLanes clearing).length).headway) := by decide +kernel

theorem witness_Sequences_finishing :
    let s := finishing .amber .restGreen
    let u := finishing .amber .green
    (s.plans.plan = some planA ∧ s.mode = .shutdown ∧ working s 0 = true ∧ (s.lane 0).state = .amber ∧
      (s.lane 0).timer = some 0 ∧ (s.lane 0).toOff = false ∧ (s.lane 0).restAwaits = true ∧ wanted s ≠ .start ∧
      s.meter.phase = .finishing ∧ ∀ j, j ≠ 0 → working s j = true → (s.lane j).state = .restGreen) ∧
      (working u 1 = true ∧ (u.lane 1).state ≠ .restGreen) ∧
      (let c := working3 .startup .clearing .amber .amber .faulted
       c.mode = .startup ∧ c.meter.phase = .clearing ∧ planEnables planA 0 = true ∧ (c.lane 0).state = .amber ∧
        (c.lane 0).toOff = false ∧ (c.lane 0).restAwaits = false ∧ wanted c ≠ .stop ∧ working c 1 = true ∧
        (c.lane 1).state ≠ .red) := by decide +kernel

/-- The last lane to rest begins RESTING with the plan's shutdown_green of 10 s (R97). -/
theorem test_finishing :
    (after (.amberTimerExpiry 0) (finishing .amber .restGreen)).meter.seqTimer = 1000 ∧
      (after (.amberTimerExpiry 0) (finishing .amber .restGreen)).meter.phase = .resting ∧
      (after (.amberTimerExpiry 0) (finishing .amber .green)).meter.phase = .finishing := by decide +kernel

/-- An interrupted startup whose last amber ends under a request that has returned to ON. -/
def returned : State :=
  let s := working3 .startup .stopping .amber .off .faulted
  s.setLane 0 { s.lane 0 with toOff := true }

theorem witness_Sequences_starts :
    (returned.mode = .startup ∧ returned.meter.phase = .stopping ∧ (returned.lane 0).state = .amber ∧
      (returned.lane 0).timer = some 0 ∧ (returned.lane 0).toOff = true ∧ returned.locked = true ∧
      returned.plans.plan = some planA ∧
      ∀ j, j ≠ 0 → (returned.lane j).state = .off ∨ (returned.lane j).state = .faulted) ∧
      (StartStands returned fun i => enabled returned i = true) ∧
      (resting.meter.seqTimer = 0 ∧ resting.locked = true) ∧ StartStands resting fun i => enabled resting i = true :=
  ⟨by decide +kernel, ⟨by decide +kernel, ⟨0, by decide +kernel⟩, ⟨0, by decide +kernel⟩⟩, by decide +kernel,
    ⟨by decide +kernel, ⟨0, by decide +kernel⟩, ⟨0, by decide +kernel⟩⟩⟩

/-- A start that stands at the entry to DARK starts the meter afresh (R96). -/
theorem test_returned : posted (after (.amberTimerExpiry 0) returned) = [.modeChange, .modeChange] ∧
    (after (.amberTimerExpiry 0) returned).mode = .startup := by decide +kernel

theorem witness_Sequences_stopping :
    let s := working3 .startup .stopping .amber .off .faulted
    let s := calm (s.setLane 0 { s.lane 0 with toOff := true })
    s.mode = .startup ∧ s.meter.phase = .stopping ∧ (s.lane 0).state = .amber ∧ (s.lane 0).timer = some 0 ∧
      (s.lane 0).toOff = true ∧ wanted s ≠ .start ∧
      (∀ j, j ≠ 0 → (s.lane j).state = .off ∨ (s.lane j).state = .faulted) ∧
      (working3 .startup .stopping .amber .amber .off).lane 1 = laneIn .amber := by decide +kernel

/-- A drive of the metering meter with given watches. -/
def watching (k : Fin 10) (out lit : WatchState) (s : State) : State := s.setDrive k { s.drive k with out := out, lit := lit }

theorem witness_Watches :
    (((metering.drive 2).blank = none ∧ (metering.drive 2).commanded = true ∧ (metering.drive 2).out = .clear) ∧
      ((metering.drive 0).blank = none ∧ (metering.drive 0).commanded = false ∧ (metering.drive 0).lit = .clear)) ∧
      ((oneDue.drive 0).blank = some 0 ∧ (oneDue.drive 0).out = .clear ∧ (oneDue.drive 0).lit = .clear) ∧
      ((watching 2 (.latched (some (20, 20))) .clear metering).drive 2).watch .out = .latched (some (20, 20)) ∧
      (metering.drive 2).blank ≠ some 0 := by decide +kernel

theorem witness_LatchedMismatches :
    let suspect := WatchState.suspect 20 20
    let green := watching (driveOf 0 .green) suspect .clear
    (((watching 9 suspect .clear metering).drive 9).watch .out = suspect ∧ 20 ≤ 20 ∧ metering.limits.amberMode = .warn) ∧
      (metering.mode ≠ .faultDark ∧ driveOf 0 .red = driveOf 0 .red ∧ metering.limits.redScope = .all) ∧
      (manual.mode = .manual ∧ (manual.lane 0).state ≠ .faulted) ∧ dark.mode = .faultDark ∧
      (((green metering).drive (driveOf 0 .green)).out = suspect ∧ metering.mode = .metering ∧
        metering.plans.plan = some planA ∧ (metering.lane 0).state ≠ .faulted ∧ wanted metering ≠ .stop ∧
        ∃ j, j ≠ 0 ∧ working metering j = true) ∧
      (∀ j, j ≠ 0 → working (working3 .metering .idle .green .faulted .faulted) j = false) ∧ 19 < 20 := by decide +kernel

theorem witness_Watches_proof :
    let s := watching 2 (.latched (some (5, 20))) .clear metering
    (s.drive 2).blank = none ∧ (s.drive 2).commanded = true ∧ (s.drive 2).out = .latched (some (5, 20)) ∧
      ((after (.lampSenseChange 2 false) s).drive 2).out = .latched none := by decide +kernel

theorem witness_Watches_latched :
    let s := watching 0 (.latched none) (.latched none) oneDue
    ((s.drive 0).blank = some 0 ∧ (s.drive 0).out = .latched none ∧ (s.drive 0).lit = .latched none) ∧
      ((watching 2 (.suspect 20 20) .clear metering).drive 2).watch .out = .suspect 20 20 ∧
      (((watching 2 (.latched (some (19, 20))) .clear metering).drive 2).watch .out = .latched (some (19, 20)) ∧ 19 < 20) := by
  decide +kernel

/-- A meter whose lane 1 has a red-lit mismatch with its deglitch time run. -/
def litRed (s : State) : State := watching (driveOf 0 .red) .clear (.suspect 20 20) s

theorem witness_LatchedMismatches_modes :
    let starting := fun p a b => litRed (working3 .startup p a b .faulted)
    let others := fun (s : State) (st : LaneState) => ∀ j, j ≠ 0 → working s j = true → (s.lane j).state = st
    let one := starting .rest .restGreen .restGreen
    let open' := starting .clearing .amber .amber
    let last := starting .clearing .amber .red
    let stopping := starting .stopping .amber .amber
    let stopped := calm (starting .stopping .amber .off)
    let ending := calm (litRed (working3 .shutdown .finishing .amber .restGreen .faulted))
    ((one.drive (driveOf 0 .red)).watch .lit = .suspect 20 20 ∧ driveOf 0 .red = driveOf 0 Colour.red) ∧
      (litRed (working3 .dark .idle .faulted .off .off)).lane 0 = laneIn .faulted ∧
      (calm (litRed ready)).mode = .dark ∧ wanted (calm (litRed ready)) ≠ .start ∧ dark.mode = .faultDark ∧
      (one.mode = .startup ∧ (one.lane 0).state ≠ .faulted ∧ one.plans.plan = some planA ∧ working one 1 = true ∧
        one.meter.phase ≠ .stopping ∧ one.meter.phase ≠ .clearing ∧ wanted one ≠ .stop) ∧
      (open'.meter.phase = .clearing ∧ working open' 1 = true ∧ (open'.lane 1).state = .amber) ∧
      (last.meter.phase = .clearing ∧ others last .red ∧
        1 ≤ (combineOut { last.rate with rFb := planRFixed planA, basis := .fixed, fallbackMark := false } last.limits planA
          ((workingLanes last).erase 0).length).headway) ∧
      (stopping.meter.phase = .stopping ∧ (stopping.lane 1).state = .amber) ∧
      (stopped.meter.phase = .stopping ∧ wanted stopped ≠ .start ∧ working stopped 1 = true ∧
        ∀ j, j ≠ 0 → (stopped.lane j).state = .off ∨ (stopped.lane j).state = .faulted) ∧
      (ending.mode = .shutdown ∧ wanted ending ≠ .start ∧ working ending 1 = true ∧ ending.meter.phase = .finishing ∧
        others ending .restGreen) ∧
      (∀ j, j ≠ 0 → working (litRed (working3 .shutdown .finishing .amber .faulted .faulted)) j = false) ∧
      (let alone := starting .stopping .amber .faulted
       alone.mode = .startup ∧ alone.meter.phase = .stopping ∧ (alone.lane 0).state ≠ .faulted ∧
        ∀ j, j ≠ 0 → working alone j = false) := by
  decide +kernel

theorem witness_LatchedMismatches_starts :
    let s := litRed (working3 .startup .stopping .amber .off .faulted)
    (s.mode = .startup ∧ s.meter.phase = .stopping ∧ s.plans.plan = some planA ∧ s.locked = true ∧ working s 1 = true ∧
      ∀ j, j ≠ 0 → (s.lane j).state = .off ∨ (s.lane j).state = .faulted) ∧
      StartStands s fun i => enabled s i = true :=
  ⟨by decide +kernel, ⟨by decide +kernel, ⟨0, by decide +kernel⟩, ⟨0, by decide +kernel⟩⟩⟩

/-- A clearance that only the faulted lane kept open ends in METERING; a fault of the last lane is NO_LANE (R95, R117). -/
theorem test_deglitchExpiry_sequences :
    posted (after (.deglitchExpiry (driveOf 0 .red) .lit) (litRed (working3 .startup .clearing .amber .red .faulted))) =
      [.laneFault, .modeChange] ∧
    posted (after (.deglitchExpiry (driveOf 0 .red) .lit) (litRed (working3 .shutdown .finishing .amber .faulted .faulted))) =
      [.laneFault, .meterFault, .modeChange] := by decide +kernel

/-! ### Ill-formed commands are refused -/

theorem test_wf_kind : (Instr.unknownKind .L 0x02 0 []).wf = false ∧ (Instr.unknownKind .L 0x55 0 []).wf = true := by decide +kernel

theorem test_wf_payload : (Instr.nop .L 0 (List.replicate 251 0)).wf = false ∧ (Instr.nop .L 0 (List.replicate 250 0)).wf = true := by
  decide +kernel

theorem test_wf_bytes : (Instr.badFrame .L [0x02, 0x2A, 0x00, 0x4B, 0xD1]).wf = false ∧ (Instr.badFrame .L [0x02]).wf = true := by
  decide +kernel

/-! ### Frames (CRC values of generator 0x1021 from 0xFFFF; the check value of "123456789" is 0x29B1) -/

theorem test_crc : crc16 [0x31, 0x32, 0x33, 0x34, 0x35, 0x36, 0x37, 0x38, 0x39] = 0x29B1 := by decide +kernel

theorem test_frame_keepalive : decodeTransaction .C [0x02, 0x2A, 0x00, 0x4B, 0xD1, 0x00] = .keepalive .C 0x2A [] := by decide +kernel

theorem test_frame_rateOrder : decodeTransaction .L [0x21, 0x01, 0x07, 0x05, 0x05, 0xAA, 0x00, 0x00, 0x00, 0x78, 0x32, 0xB9]
    = .rateOrder .L 0x01 [0x05, 0x05, 0xAA, 0x00, 0x00, 0x00, 0x78] := by decide +kernel

theorem test_frame_setAspect : decodeTransaction .L [0x44, 0xFF, 0x02, 0x03, 0x02, 0xD9, 0xB0] = .setAspect .L 0xFF [3, 2] := by
  decide +kernel

theorem test_frame_unknown : decodeTransaction .C [0x7F, 0x00, 0x00, 0x38, 0xA5] = .unknownKind .C 0x7F 0 [] := by decide +kernel

theorem test_frame_badFill : decodeTransaction .C [0x02, 0x2A, 0x00, 0x4B, 0xD1, 0x01] =
    .badFrame .C [0x02, 0x2A, 0x00, 0x4B, 0xD1, 0x01] := by decide +kernel

theorem test_defaultImage : defaultImage.length = 48 ∧ imageFailure (timingBounds false SiteLimits.default) defaultImage = none := by
  decide +kernel

theorem test_decodeTableWord : decodeTableWord 8 0x02 = none := by decide +kernel

/-! ### Commands -/

theorem test_powerOn : (after .powerOn metering).mode = .dark ∧ (after .powerOn metering).locked = false ∧
    ((after .powerOn metering).slot 0).status = .empty := by decide +kernel

theorem test_resetLine : ((after .resetLine metering).slot 0).status = .valid ∧ (after .resetLine metering).plans.plan = none ∧
    (after .resetLine cut).events.C = .afterReset 2 0 := by decide +kernel

theorem test_chipSelectAsserted : ((after (.chipSelectAsserted .C) up).link .C).dataOut 2 = 11 := by decide +kernel

theorem test_badFrame : replied .C (after (.badFrame .C [0x55]) up) = (.badFrame, []) ∧
    ((after (.badFrame .C [0x55]) State.reset).link .C).state = .silent := by decide +kernel

theorem test_unknownKind : replied .L (after (.unknownKind .L 0x49 1 []) up) = (.unknownKind, []) := by decide +kernel

theorem test_nop : replied .L (after (.nop .L 9 [1]) State.reset) = (.noReply, []) ∧
    ((after (.nop .L 9 [1]) State.reset).link .L).state = .present := by decide +kernel

theorem test_keepalive_early : ((after (.keepalive .C 1 []) (watched 40 0)).link .C).violations = 1 ∧
    posted (after (.keepalive .C 1 []) (watched 40 0)) = [.supervisionViolation] := by decide +kernel

theorem test_keepalive_returns : ((after (.keepalive .C 1 []) gone).link .C).state = .present ∧
    posted (after (.keepalive .C 1 []) gone) = [.linkPresent] := by decide +kernel

theorem test_configureLink : ((after (.configureLink .C 1 [0, 10, 0, 50, 3, 1, 2, 32, 0]) full).link .C).tHi = 50 ∧
    ((after (.configureLink .C 1 [0, 10, 0, 50, 3, 1, 2, 32, 0]) full).records.get .C).length = 2 := by decide +kernel

theorem test_readStatus : (replied .C (after (.readStatus .C 1 []) holding)).2.length = 68 ∧
    (replied .C (after (.readStatus .C 1 []) holding)).2.take 9 = [3, 0, 1, 1, 0, 1, 0, 1, 0] := by decide +kernel

theorem test_readEvents : (replied .C (after (.readEvents .C 1 [16]) full)).2.take 2 = [16, 17] ∧
    ((after (.readEvents .C 1 [16]) full).events.get .C).entries.getLast?.map Event.detail = some 3 := by decide +kernel

theorem test_readRecord : (replied .C (after (.readRecord .C 1 []) full)).2.length = 33 ∧
    ((after (.readRecord .C 1 []) full).records.get .C).length = 3 := by decide +kernel

theorem test_readCapabilities : replied .L (after (.readCapabilities .L 1 []) up) =
    (.accepted, [1, 1, 3, 16, 10, 8, 32, 2, 8, 48, 250, 16]) := by decide +kernel

theorem test_flushEvents : posted (after (.flushEvents .C 1 []) full) = [] ∧
    ((after (.flushEvents .C 1 []) full).events.get .C).entries.length = 1 := by decide +kernel

theorem test_flushRecords : (after (.flushRecords .C 1 []) full).records.get .C = [] := by decide +kernel

theorem test_openPlan : (after (.openPlan .C 1 [8]) up).plans.claim = some ⟨.C, 7, 500⟩ ∧
    replied .C (after (.openPlan .C 1 [8]) (claimed 500)) = (.busy, []) := by decide +kernel

theorem test_planData : (after (.planData .L 1 [46, 0xAB, 0xCD]) (claimed 1)).plans.buffer.drop 45 = [0, 0xAB, 0xCD] ∧
    replied .L (after (.planData .L 1 [47, 1, 2]) (claimed 1)) = (.range, [0]) := by decide +kernel

theorem test_commitPlan : replied .L (after (.commitPlan .L 1 []) (claimed 1)) = (.accepted, [8, 1]) ∧
    ((after (.commitPlan .L 1 []) (claimed 1)).slot 7).status = .valid := by decide +kernel

theorem test_abortPlan : (after (.abortPlan .L 1 []) (claimed 1)).plans.claim = none ∧
    replied .C (after (.abortPlan .C 1 []) (claimed 1)) = (.notOpen, []) := by decide +kernel

theorem test_selectPlan : replied .C (after (.selectPlan .C 1 [1]) metering) = (.accepted, [1, 1]) ∧
    replied .C (after (.selectPlan .C 1 [2]) metering) = (.wrongState, []) := by decide +kernel

theorem test_requestMetering_start : replied .L (after (.requestMetering .L 1 [1]) ready) = (.accepted, [1, 1]) ∧
    (after (.requestMetering .L 1 [1]) ready).meter.seqTimer = 1000 := by decide +kernel

theorem test_requestMetering_stop : replied .L (after (.requestMetering .L 1 [2]) metering) = (.accepted, [2, 4]) ∧
    ((after (.requestMetering .L 1 [2]) metering).lane 1).state = .restGreen := by decide +kernel

theorem test_rateOrder : replied .C (after (.rateOrder .C 1 [1, 0x05, 0xAA, 0, 0, 0, 0]) up) = (.accepted, [0x05, 0xAA, 0, 0]) ∧
    replied .C (after (.rateOrder .C 1 [1, 0x05, 0xAA, 0, 0, 0, 0]) gone) = (.wrongState, []) := by decide +kernel

theorem test_cancelOrder : replied .C (after (.cancelOrder .C 1 []) expiring) = (.accepted, [1]) ∧
    replied .L (after (.cancelOrder .L 1 []) expiring) = (.accepted, [0]) := by decide +kernel

theorem test_hold : (after (.hold .C 1 []) metering).meter.hold = some ⟨.C, 30000⟩ ∧
    replied .C (after (.hold .C 1 []) spilled) = (.wrongState, []) := by decide +kernel

theorem test_resume : (after (.resume .L 1 []) holding).mode = .metering ∧
    ((after (.resume .L 1 []) holding).lane 1).state = .green := by decide +kernel

theorem test_clearFaultLane : ((after (.clearFaultLane .L 1 [3]) twoLanes).lane 2).timer = some 200 ∧
    (after (.clearFaultLane .L 1 [3]) twoLanes).sched.ring = [0, 1, 2] := by decide +kernel

theorem test_intervalMark : replied .C (after (.intervalMark .C 1 [0x03, 0x2E]) (marking 2799)) = (.accepted, [1, 0x03, 0x2D]) ∧
    (after (.intervalMark .C 1 [0x03, 0x2E]) (marking 2800)).counter.number = 814 := by decide +kernel

theorem test_writeLimits : (after (.writeLimits .L 1 (limitsPayload (staggered 50))) up).limits.staggerMin = 50 ∧
    replied .L (after (.writeLimits .L 1 (limitsPayload (staggered 50))) metering) = (.locked, []) := by decide +kernel

/-- A LOCK LIMITS under a standing ON leaves DARK where the active slot has survived it (R128). -/
theorem test_lockLimits_start :
    posted (after (.lockLimits .L 1 []) { ready with locked := false }) = [.modeChange] ∧
      (after (.lockLimits .L 1 []) { ready with locked := false }).mode = .startup := by decide +kernel

theorem test_lockLimits : replied .L (after (.lockLimits .L 1 []) failing) = (.accepted, [2, 0, 0, 0, 0, 0, 0, 0]) ∧
    (after (.lockLimits .L 1 []) failing).plans.plan = none := by decide +kernel

theorem test_writeDetectorMap : ((after (.writeDetectorMap .L 1 mapPayload) up).input 0).entry = ⟨.demand, some 0, 3, 5, 60, 8, .exclude⟩ ∧
    replied .L (after (.writeDetectorMap .L 1 mapPayload) metering) = (.wrongMode, []) := by decide +kernel

theorem test_enterManual : ((after (.enterManual .L 1 []) metering).lane 0).timer = some 100 ∧
    (after (.enterManual .L 1 []) metering).aspect 0 = some .red := by decide +kernel

theorem test_setAspect : replied .L (after (.setAspect .L 1 [2, 2]) manual) = (.accepted, [1]) ∧
    ((after (.setAspect .L 1 [1, 0]) manual).lane 0).toOff = true := by decide +kernel

theorem test_setBeacon : ((after (.setBeacon .L 1 [1]) manual).drive 9).commanded = true ∧
    replied .L (after (.setBeacon .L 1 [2]) manual) = (.range, [0]) := by decide +kernel

theorem test_exitManual : (after (.exitManual .L 1 []) (calm manual)).mode = .dark ∧
    ((after (.exitManual .L 1 []) (calm manual)).lane 2).state = .off := by decide +kernel

theorem test_clearFaultMeter : (after (.clearFaultMeter .L 1 []) (calm dark)).mode = .dark ∧
    replied .L (after (.clearFaultMeter .L 1 []) conflict) = (.wrongState, []) := by decide +kernel

theorem test_softReset : (after (.softReset .L 1 []) metering).mode = .dark ∧ (after (.softReset .L 1 []) metering).locked = true ∧
    (after (.softReset .L 1 []) metering).events.L = .afterReset 3 1 := by decide +kernel

theorem test_detectorRawChange : ((after (.detectorRawChange 0 true) up).input 0).volume = 1 ∧
    ((after (.detectorRawChange 0 true) (mapped (entry .queue none) id up)).input 0).filter = some 3 := by decide +kernel

theorem test_detectorRawChange_faults :
    let s := mapped { entry .queue none with chatterLimit := 5, onFilter := 0 } (fun x => { x with chatter := 5 }) up
    posted (after (.detectorRawChange 0 true) s) = [.detFault] ∧
      posted (after (.detectorRawChange 0 true) (loop .demand fun x => { x with faultOff := true })) = [.detRecovered] := by
  decide +kernel

theorem test_filterTimerExpiry :
    let s := mapped (entry .passage (some 1)) (fun x => { x with raw := true, filter := some 0 }) metering
    ((after (.filterTimerExpiry 0) s).input 0).cond = true ∧ ((after (.filterTimerExpiry 0) s).lane 1).violations = 1 := by
  decide +kernel

theorem test_stuckTimerExpiry : posted (after (.stuckTimerExpiry 0) stuck) = [.detFault] ∧
    (after (.stuckTimerExpiry 0) stuck).events.C.entries.getLast?.map Event.detail = some (1 * 256 + 2) := by decide +kernel

theorem test_intervalTimedExpiry : (after .intervalTimedExpiry (timed 3000)).counter.number = 0 ∧
    posted (after .intervalTimedExpiry (timed 3000)) = [.intervalClosed] := by decide +kernel

theorem test_freeRunExpiry : (after .freeRunExpiry (marking 3200)).counter.number = 814 ∧
    .markMissed ∈ posted (after .freeRunExpiry (marking 3200)) := by decide +kernel

theorem test_recordPlaced : ((after .recordPlaced waiting).records.get .L).length = 1 ∧
    (((after .recordPlaced waiting).records.get .C).map IntervalRecord.number).length = 4 := by decide +kernel

theorem test_spillOn : (after .spillOn (spilling true 6000 false metering)).rate.inForce.map RateOut.rate = some 2160 ∧
    (after .spillOn (spilling true 6000 false metering)).sched.headway = 167 := by decide +kernel

theorem test_spillOff : (after .spillOff (spilling false 12000 true metering)).rate.spillActive = false ∧
    posted (after .spillOff (spilling false 12000 true metering)) = [.spillOff] := by decide +kernel

theorem test_orderExpired : (after (.orderExpired .C) expiring).rate.orders.get .C = none ∧
    posted (after (.orderExpired .C) expiring) = [.orderExpired] := by decide +kernel

theorem test_holdExpired : posted (after .holdExpired holding) = [.holdExpired, .modeChange] ∧
    (after .holdExpired holding).mode = .metering := by decide +kernel

theorem test_greenTimerExpiry : ((after (.greenTimerExpiry 0) metering).lane 0).timer = some 100 ∧
    ((after (.greenTimerExpiry 0) metering).drive (driveOf 0 .amber)).commanded = true := by decide +kernel

theorem test_amberTimerExpiry : ((after (.amberTimerExpiry 2) metering).lane 2).timer = some 200 ∧
    ((after (.amberTimerExpiry 2) metering).lane 2).state = .red := by decide +kernel

theorem test_amberTimerExpiry_stopping :
    let s := working3 .startup .stopping .amber .off .faulted
    (after (.amberTimerExpiry 0) (calm (s.setLane 0 { s.lane 0 with toOff := true }))).mode = .dark := by decide +kernel

theorem test_redTimerExpiry : ((after (.redTimerExpiry 0) twoLanes).lane 0).state = .ready ∧
    ((after (.redTimerExpiry 0) pendingRelease).lane 0).state = .green := by decide +kernel

theorem test_headwayExpiry : (after .headwayExpiry metering).sched.ring = [0, 2, 1] ∧
    ((after .headwayExpiry metering).lane 1).timer = some 200 := by decide +kernel

theorem test_graceExpiry :
    let s := twoLanes.setLane 0 { twoLanes.lane 0 with window := .inGrace false 0 }
    ((after (.graceExpiry 0) s).lane 0).window = .closed := by decide +kernel

theorem test_greenMinReached :
    let s := manual.setLane 0 { manual.lane 0 with held := some .clear }
    ((after (.greenMinReached 0) s).lane 0).state = .amber := by decide +kernel

theorem test_startupRestExpiry :
    let s := working3 .startup .rest .restGreen .restGreen .faulted
    (after .startupRestExpiry s).meter.phase = .clearing ∧ ((after .startupRestExpiry s).lane 1).state = .amber := by
  decide +kernel

theorem test_shutdownRestExpiry : (after .shutdownRestExpiry (calm resting)).mode = .dark ∧
    ((after .shutdownRestExpiry (calm resting)).drive (driveOf 0 .green)).commanded = false := by decide +kernel

theorem test_lampSenseChange : ((after (.lampSenseChange 0 true) metering).drive 0).lit = .suspect 0 20 ∧
    ((after (.lampSenseChange 2 true) metering).drive 2).out = .clear := by decide +kernel

theorem test_blankingExpiry : ((after (.blankingExpiry 0) oneDue).drive 0).blank = none := by decide +kernel

theorem test_deglitchExpiry_conflict :
    let s := watching (driveOf 1 .green) .clear (.suspect 20 20) metering
    (after (.deglitchExpiry (driveOf 1 .green) .lit) s).mode = .faultDark ∧
      posted (after (.deglitchExpiry (driveOf 1 .green) .lit) s) = [.meterFault, .modeChange] := by decide +kernel

theorem test_deglitchExpiry_lane :
    let s := watching (driveOf 0 .green) (.suspect 20 20) .clear metering
    ((after (.deglitchExpiry (driveOf 0 .green) .out) s).lane 0).state = .faulted ∧
      (after (.deglitchExpiry (driveOf 0 .green) .out) s).rate.inForce.map RateOut.rate = some 600 := by decide +kernel

theorem test_proofExpiry : ((after (.proofExpiry 2 .out) (watching 2 (.latched (some (20, 20))) .clear metering)).drive 2).out = .clear := by
  decide +kernel

theorem test_stagingTimeout : (after .stagingTimeout (claimed 0)).plans.claim = none ∧
    posted (after .stagingTimeout (claimed 0)) = [.stagingTimeout] := by decide +kernel

theorem test_lateViolation : posted (after (.lateViolation .C) (watched 200 2)) = [.supervisionViolation, .linkAbsent] ∧
    ((after (.lateViolation .C) (watched 200 2)).link .C).state = .absent := by decide +kernel

end Sys2Proof.Tests
end

section
/-! The rounding rule of R31: what `roundHalfUp` answers, and from it the occupancy of an input over a closed interval. -/

namespace Sys2Proof.Occupancy
open Sys2Proof.Machine

/-- Rounding half up never exceeds the quotient by more than one half: `q - 1/2 ≤ a / b`, cleared of fractions. -/
theorem roundHalfUp_mul_le (a b : Nat) : 2 * roundHalfUp a b * b ≤ 2 * a + b :=
  calc 2 * roundHalfUp a b * b = (2 * a + b) / (2 * b) * (2 * b) := by unfold roundHalfUp; ring
    _ ≤ 2 * a + b := Nat.div_mul_le_self _ _

/-- Rounding half up stays less than one half below the quotient: `a / b < q + 1/2`, cleared of fractions. -/
theorem lt_succ_roundHalfUp_mul (a : Nat) {b : Nat} (hb : 0 < b) :
    2 * a + b < 2 * (roundHalfUp a b + 1) * b :=
  calc 2 * a + b < 2 * b * ((2 * a + b) / (2 * b) + 1) := Nat.lt_mul_div_succ _ (by omega)
    _ = 2 * (roundHalfUp a b + 1) * b := by unfold roundHalfUp; ring

/-- A quotient of at most the whole number `k` is not rounded above `k`. -/
theorem roundHalfUp_le_of_le_mul {a b k : Nat} (hb : 0 < b) (h : a ≤ k * b) : roundHalfUp a b ≤ k := by
  have below_succ : 2 * a + b < (k + 1) * (2 * b) := by
    have expand : (k + 1) * (2 * b) = 2 * (k * b) + 2 * b := by ring
    omega
  exact Nat.le_of_lt_succ ((Nat.div_lt_iff_lt_mul (by omega)).mpr below_succ)

/-- Settles O13: the rounded quotient is the witness `q`. It lies within half a unit of the quotient, and an on-time
within the duration keeps it at 1000 or below. The worked cases are those of R31. -/
theorem occupancyIsRoundedHalfUp : Obligations.OccupancyIsRoundedHalfUp := by
  unfold Obligations.OccupancyIsRoundedHalfUp
  refine ⟨fun onTime duration hpos => ?_, by decide, by decide, by decide⟩
  have within_cap : onTime ≤ duration → roundHalfUp (onTime * 1000) duration ≤ 1000 := fun h =>
    roundHalfUp_le_of_le_mul hpos (by omega)
  exact ⟨roundHalfUp (onTime * 1000) duration, roundHalfUp_mul_le _ _, lt_succ_roundHalfUp_mul _ hpos, rfl, within_cap⟩

end Sys2Proof.Occupancy
end

section
/-! CANCEL ORDER (R55): what the request does to the orders of its link, and what a steady frame of it is answered. -/

namespace Sys2Proof.CancelOrder
open Sys2Proof.Machine

theorem exec_cancelOrder (l : LinkId) (tag : Byte) (payload : List Byte) (s : State) :
    exec (.cancelOrder l tag payload) s = execCancelOrder l tag payload s := rfl

/-- A link's order is removed, and the rate recombines while engaged. -/
theorem cancelOrder_of_held {l : LinkId} {o : RateOrder} {s : State} (h : s.rate.orders.get l = some o) :
    cancelOrder l s =
      accept (recombine { s with rate := { s.rate with orders := s.rate.orders.set l none } }) [1] := by
  simp only [cancelOrder, h]
  rfl

/-- With no order of the link nothing changes. -/
theorem cancelOrder_of_none {l : LinkId} {s : State} (h : s.rate.orders.get l = none) :
    cancelOrder l s = accept s [0] := by
  simp only [cancelOrder, h]

theorem withoutPayload_of_ne_nil {payload : List Byte} (h : payload ≠ []) (handle : State → Answer) (s : State) :
    withoutPayload payload handle s = refuseRange s 255 := by
  obtain ⟨hnil, -⟩ | ⟨-, refused⟩ := withoutPayload_cases payload handle s
  · exact absurd hnil h
  · exact refused

/-- CANCEL ORDER is permitted on either link, so a steady frame of it is answered with what its handler makes of the
received state: no check of the mode and none of the link's state stands before the handler. -/
theorem exec_cancelOrder_steady {l : LinkId} {s : State} (tag : Byte) (payload : List Byte)
    (steady : SteadyFrame l false s) {a : Answer}
    (ha : withoutPayload payload (cancelOrder l) (received l false s) = a) :
    exec (.cancelOrder l tag payload) s = .next (answered l 0x22 tag a.status a.payload a.state) := by
  have served := serve_steady (kind := 0x22) (perm := .either) tag (withoutPayload payload (cancelOrder l)) steady rfl
  rw [exec_cancelOrder, execCancelOrder, served, ← ha]
  rfl

/-- Settles O37: the received state keeps the orders, so each case is what the handler, or the length check before it,
makes of that state. -/
theorem cancelOrderRemovesTheOrder : Obligations.CancelOrderRemovesTheOrder := by
  unfold Obligations.CancelOrderRemovesTheOrder
  intro l tag s steady
  refine ⟨fun o held => ?_, fun unheld => ?_, fun payload hp => ?_⟩
  · exact exec_cancelOrder_steady tag [] steady (cancelOrder_of_held (s := received l false s) held)
  · exact exec_cancelOrder_steady tag [] steady (cancelOrder_of_none (s := received l false s) unheld)
  · exact exec_cancelOrder_steady tag payload steady (withoutPayload_of_ne_nil hp _ _)

end Sys2Proof.CancelOrder
end

section
/-! PLAN DATA (R134): what the handler does with a payload of the claim holder, and what a steady frame of it is
answered. -/

namespace Sys2Proof.PlanData
open Sys2Proof.Machine

theorem exec_planData (l : LinkId) (tag : Byte) (payload : List Byte) (s : State) :
    exec (.planData l tag payload) s = execPlanData l tag payload s := rfl

theorem asHolder_of_holder {l : LinkId} {c : Claim} {s : State} (claim : s.plans.claim = some c) (holder : c.holder = l)
    (handle : Claim → State → Answer) : asHolder l handle s = handle c s := by
  obtain ⟨c', claim', -, taken⟩ | ⟨others, -⟩ := asHolder_cases l handle s
  · obtain rfl : c = c' := Option.some.inj (claim.symm.trans claim')
    exact taken
  · exact absurd holder (others c claim)

theorem asHolder_of_not_holder {l : LinkId} {s : State} (others : ∀ c, s.plans.claim = some c → c.holder ≠ l)
    (handle : Claim → State → Answer) : asHolder l handle s = refuse s .notOpen := by
  obtain ⟨c, claim, holder, -⟩ | ⟨-, refused⟩ := asHolder_cases l handle s
  · exact absurd holder (others c claim)
  · exact refused

/-- Data that ends at or before byte 48 is spliced into the buffer, and the claim timer restarts. -/
theorem planData_of_fits {off : Byte} {data : List Byte} (fits : off.toNat + data.length ≤ 48) (c : Claim) (s : State) :
    planData (off :: data) c s =
      accept ((restartClaim c s).putBuffer (splice s.plans.buffer off.toNat data)) [] :=
  if_neg (Nat.not_lt.mpr fits)

/-- Data that reaches past byte 48 is not written, yet the claim timer restarts (R135). -/
theorem planData_of_exceeds {off : Byte} {data : List Byte} (exceeds : 48 < off.toNat + data.length) (c : Claim)
    (s : State) : planData (off :: data) c s = refuseRange (restartClaim c s) 0 :=
  if_pos exceeds

/-- The handler of PLAN DATA, the length check before the claim check. -/
def handler (l : LinkId) (payload : List Byte) (s : State) : Answer :=
  if payload.length < 2 then refuseRange s 255 else asHolder l (planData payload) s

theorem handler_of_short {payload : List Byte} (short : payload.length < 2) (l : LinkId) (s : State) :
    handler l payload s = refuseRange s 255 :=
  if_pos short

/-- An offset with at least one data byte passes the length check. -/
theorem handler_of_data {data : List Byte} (some_data : data ≠ []) (l : LinkId) (off : Byte) (s : State) :
    handler l (off :: data) s = asHolder l (planData (off :: data)) s := by
  have pos : 0 < data.length := List.length_pos_of_ne_nil some_data
  have long : ¬ (off :: data).length < 2 := by rw [List.length_cons]; omega
  exact if_neg long

/-- PLAN DATA is permitted on either link, so a steady frame of it is answered with what its handler makes of the
received state. -/
theorem exec_planData_steady {l : LinkId} {s : State} (tag : Byte) (payload : List Byte)
    (steady : SteadyFrame l false s) {a : Answer} (ha : handler l payload (received l false s) = a) :
    exec (.planData l tag payload) s = .next (answered l 0x11 tag a.status a.payload a.state) := by
  have served := serve_steady (kind := 0x11) (perm := .either) tag (handler l payload) steady rfl
  rw [exec_planData, ← ha]
  exact congrArg finish served

/-- Settles O26: the received state keeps the plan store, so each case is what the length check, the claim check or the
bound of the buffer makes of that state. -/
theorem planDataWritesTheBuffer : Obligations.PlanDataWritesTheBuffer := by
  unfold Obligations.PlanDataWritesTheBuffer
  intro l tag off data s steady
  have same_plans : (received l false s).plans = s.plans := rfl
  refine ⟨fun c claim holder some_data fits => ?written, fun c claim holder some_data exceeds => ?past_the_end,
    fun others some_data => ?not_open, fun payload short => ?short⟩
  case written =>
    rw [← same_plans] at claim
    have handled := (handler_of_data some_data l off _).trans (asHolder_of_holder claim holder _)
    exact exec_planData_steady tag _ steady (handled.trans (planData_of_fits fits c _))
  case past_the_end =>
    rw [← same_plans] at claim
    have handled := (handler_of_data some_data l off _).trans (asHolder_of_holder claim holder _)
    exact exec_planData_steady tag _ steady (handled.trans (planData_of_exceeds exceeds c _))
  case not_open =>
    rw [← same_plans] at others
    have handled := (handler_of_data some_data l off _).trans (asHolder_of_not_holder others _)
    exact exec_planData_steady tag _ steady handled
  case short => exact exec_planData_steady tag payload steady (handler_of_short short l _)

end Sys2Proof.PlanData
end

section
/-! READ CAPABILITIES (R160): the reply that every request not cut short leaves on its link, whatever its frame does to
link state and supervision, and what the handler of the fixed table answers. -/

namespace Sys2Proof.Capabilities
open Sys2Proof.Machine Sys2Proof.CancelOrder

theorem exec_readCapabilities (l : LinkId) (tag : Byte) (payload : List Byte) (s : State) :
    exec (.readCapabilities l tag payload) s = execReadCapabilities l tag payload s := rfl

/-- The stored reply survives the judging of the attention lines (R145, R152). -/
theorem answered_lastReply (l : LinkId) (kind tag : Byte) (status : Status) (payload : List Byte) (s : State) :
    ((answered l kind tag status payload s).link l).lastReply = ⟨kind, tag, status, payload⟩ := by
  cases l <;> rfl

/-- The resolution that follows a frame making its link PRESENT changes no reply: a permitted request is answered with
what its handler makes of the state the frame has left (R146, R148). -/
theorem judgeRequest_reply {l : LinkId} {perm : Permitted} (permitted : perm.allows l = true) (ka : Bool)
    (handle : State → Answer) (s : State) :
    (judgeRequest l ka perm handle s).status = (handle (takeFrame l ka s)).status ∧
      (judgeRequest l ka perm handle s).payload = (handle (takeFrame l ka s)).payload := by
  simp only [judgeRequest, permitted, if_true]
  split
  case isTrue => exact ⟨rfl, rfl⟩
  case isFalse => exact ⟨rfl, rfl⟩

/-- In every link state, a permitted request that no reset has cut short is answered with what its handler makes of the
state the frame has left (R144 to R146). -/
theorem finish_serve_reply {l : LinkId} {kind : Byte} {perm : Permitted} {s : State} (tag : Byte) (handle : State → Answer)
    (not_cut : (s.link l).transaction ≠ .cutShort) (permitted : perm.allows l = true) :
    ∃ t, finish (serve l kind tag perm handle s) = .next t ∧
      (t.link l).lastReply =
        ⟨kind, tag, (handle (takeFrame l (kind == 0x02) (endTransaction l s))).status,
          (handle (takeFrame l (kind == 0x02) (endTransaction l s))).payload⟩ := by
  obtain ⟨status_eq, payload_eq⟩ := judgeRequest_reply permitted (kind == 0x02) handle (endTransaction l s)
  rw [← status_eq, ← payload_eq, serve, if_neg not_cut]
  exact ⟨_, rfl, answered_lastReply l kind tag _ _ _⟩

/-- Settles O23: the request is permitted on either link, and its handler answers the same table, or RANGE 255 to a
payload, in whatever state the frame has left. -/
theorem capabilitiesAreFixed : Obligations.CapabilitiesAreFixed := by
  unfold Obligations.CapabilitiesAreFixed
  intro l tag payload s not_cut
  rw [exec_readCapabilities, execReadCapabilities]
  obtain ⟨t, runs, reply⟩ := finish_serve_reply (kind := 0x07) (perm := .either) tag
    (withoutPayload payload fun s => accept s capabilities) not_cut rfl
  refine ⟨t, runs, reply.trans ?_⟩
  by_cases no_payload : payload = []
  · rw [if_pos no_payload, no_payload]
    rfl
  · rw [if_neg no_payload, withoutPayload_of_ne_nil no_payload]
    rfl

end Sys2Proof.Capabilities
end

section
/-! The step taken apart: what every command comes to, and how a property that each part keeps is kept by every step.
A request is its frame, the answer of its owner (`requestAnswer`) and its reply; every other command is one effect, and
every command ends with the judging of the attention lines. -/

namespace Sys2Proof.Steps
open Sys2Proof.Machine

/-- The effect of a command that carries no valid frame, before the attention lines are judged. -/
def eventEffect (c : Instr) (s : State) : State :=
  match c with
  | .powerOn => showRaw (hardResetBase 1 s)
  | .resetLine => showRaw (keepSlots s (hardResetBase 2 s))
  | .chipSelectAsserted l => s.setLink l { s.link l with transaction := .active (s.link l).lastReply }
  | .badFrame l bytes =>
    if (s.link l).transaction = .cutShort then endTransaction l s
    else storeReply l ⟨bytes.getD 0 0, bytes.getD 1 0, .badFrame, []⟩ (endTransaction l s)
  | .detectorRawChange d level => rawChange d level s
  | .filterTimerExpiry d => filterExpiry d s
  | .stuckTimerExpiry d => stuckExpiry d s
  | .intervalTimedExpiry => closeTimed s
  | .freeRunExpiry => closeFreeRun s
  | .recordPlaced => placeWaiting s
  | .spillOn => judgeSpillOn true s
  | .spillOff => judgeSpillOff true s
  | .orderExpired l => if orderDue s l then removeOrder l .orderExpired s else s
  | .holdExpired => if holdDue s then endHold .holdExpired 0 s else s
  | .greenTimerExpiry i => if phaseDue s i .green then afterLaneChange i (endGreen i s) else s
  | .amberTimerExpiry i => if phaseDue s i .amber then judgeWish (afterLaneChange i (endAmber i s)) else s
  | .redTimerExpiry i => if phaseDue s i .red then takePending (afterLaneChange i (endRed i s)) else s
  | .headwayExpiry => if headwayDue s then releaseDue s else s
  | .graceExpiry i => if graceDue s i then s.setLane i { s.lane i with window := .closed } else s
  | .greenMinReached i => judgeHeld i s
  | .startupRestExpiry =>
    if restDue s .startup .rest then (orderEach orderClear (restingLanes s) s).putPhase .clearing 0 else s
  | .shutdownRestExpiry =>
    if restDue s .shutdown .resting then enterDarkJudged .sequence (orderEach orderCut (restingLanes s) s) else s
  | .lampSenseChange k lit => senseChange k lit s
  | .blankingExpiry k => endBlanking k s
  | .deglitchExpiry k w => latch k w s
  | .proofExpiry k w => prove k w s
  | .stagingTimeout => stagingTimeout s
  | .lateViolation l => if lateDue s l then violate l 2 s else s
  | _ => s

/-- A command that carries no valid frame is its effect and the judging of the lines (R152). -/
theorem exec_event {c : Instr} (h : requestParts c = none) (s : State) : exec c s = .next (eventEffect c s).judgeLines := by
  cases c <;> simp only [requestParts, reduceCtorEq] at h <;> rfl

/-- A request, NOP apart, is served by its owner: the permission of its link is part of the owner's answer (R146). -/
theorem exec_request {c : Instr} {l : LinkId} {kind tag : Byte} {p : List Byte}
    (h : requestParts c = some (l, kind, tag, p)) (notNop : ∀ l' tag' p', c ≠ .nop l' tag' p') (s : State) :
    exec c s = .next (serve l kind tag .either (requestAnswer c) s).judgeLines := by
  cases c <;> simp only [requestParts, Option.some.injEq, Prod.mk.injEq, reduceCtorEq] at h
  case nop l' tag' p' => exact absurd rfl (notNop l' tag' p')
  all_goals
    obtain ⟨rfl, rfl, rfl, rfl⟩ := h
    rfl

/-- A NOP is its frame alone (R145). -/
theorem exec_nop (l : LinkId) (tag : Byte) (p : List Byte) (s : State) :
    exec (.nop l tag p) s = .next (if (s.link l).transaction = .cutShort then endTransaction l s
      else (judgeRequest l false .either (requestAnswer (.nop l tag p)) (endTransaction l s)).state).judgeLines := rfl

/-- Every command answers a next state: the faults and refusals of the host's outcome never occur. -/
theorem exec_total (c : Instr) (s : State) : ∃ t : State, exec c s = .next t.judgeLines := by
  cases hp : requestParts c with
  | none => exact ⟨_, exec_event hp s⟩
  | some r =>
    obtain ⟨l, kind, tag, p⟩ := r
    by_cases hn : ∀ l' tag' p', c ≠ .nop l' tag' p'
    · exact ⟨_, exec_request hp hn s⟩
    · push Not at hn
      obtain ⟨l', tag', p', rfl⟩ := hn
      exact ⟨_, exec_nop l' tag' p' s⟩

/-! ### The stages of the long operations, each named once -/

/-- A fault raised, before what its exclusion makes of spill. -/
def faultRaised (d : Fin 16) (k : FaultKind) (s : State) : State :=
  markSubstitutions ((s.setInput d ({ (s.input d).setFault k true with seen := true }).alignRun).post .detFault (d.val + 1)
    (twoBytes k.code (s.input d).entry.faultMode.code))

theorem raiseFault_eq (d : Fin 16) (k : FaultKind) (s : State) :
    raiseFault d k s = if (s.input d).counts && !((faultRaised d k s).input d).counts then
      judgeSpillOff true (faultRaised d k s) else faultRaised d k s := by rfl

/-- What a rising edge of input `x` makes of a failed-off fault of its lane's demand. -/
def demandShown (x : Input) (d : Fin 16) (s : State) : State :=
  match x.servesAs .demand with
  | some i => endFault d .failedOff 1 (s.setDfeLane i { s.dfeLane i with failedOff := 0 })
  | none => s

/-- What a rising edge of input `x` makes of its chatter count. -/
def chatterJudged (x : Input) (d : Fin 16) (s : State) : State :=
  if x.detectsChatter && !x.faultChatter && x.chatter == x.entry.chatterLimit then raiseFault d .chatter s else s

/-- The passage that a rising edge of input `x` is. -/
def passageTaken (x : Input) (s : State) : State :=
  match x.servesAs .passage with
  | some i => passage i s
  | none => s

theorem risingEdge_eq (d : Fin 16) (s : State) :
    risingEdge d s = takePending (passageTaken (s.input d) (chatterJudged (s.input d) d (demandShown (s.input d) d
      (s.setInput d (s.input d).rise.restartRun)))) := by rfl

/-- The map written, before spill is judged. -/
def mapWritten (p : List Byte) (s : State) : State :=
  orderEach (fun i s => s.setDfeLane i { s.dfeLane i with failedOff := 0 }) allLanes
    (allInputs.foldl (fun s d => s.setInput d ((s.input d).remap (entryOf p d)))
      (allInputs.foldl (fun s d => endFaultsByMap d s) s))

theorem writeMap_eq (p : List Byte) (s : State) : writeMap p s = takePending (judgeSpillOff true (mapWritten p s)) := by rfl

/-- What the blocks make of a close, in their order: the counter, the DFE, the scheduler, the plan store, the rate
computer and the mode controller (R64). -/
def blocksAtClose (cause : Cause) (next : Nat) (s : State) : State :=
  let dets := detEntries s s.counter.elapsed
  runsAtClose (stationOf dets) (rateAtClose dets (planAtClose (schedAtClose (dfeAtClose
    (beginInterval next (postClosed cause next s))))))

/-- What waits after a close: the record of the interval that closed in `s`, as the blocks have left it in `t`. -/
def closeWaiting (cause : Cause) (next : Nat) (s t : State) : Waiting :=
  let dets := detEntries s s.counter.elapsed
  { record := { number := s.counter.number, cause := cause, duration := s.counter.elapsed, next := next, mode := s.mode,
                slot := t.plans.active, om := stationOf dets, rate := t.rate.inForce, floorActive := t.rate.floorActive,
                spillActive := t.rate.spillActive, lanes := allLanes.map (laneEntry s), dets := dets }
    autoStart := autoStartTest s.mode t
    autoStop := autoStopTest s.mode t }

/-- The state with a record that waits. -/
def putWaiting (w : Waiting) (s : State) : State := { s with counter := { s.counter with waiting := some w } }

theorem closeInterval_eq (cause : Cause) (next : Nat) (s : State) :
    closeInterval cause next s =
      putWaiting (closeWaiting cause next (placeWaiting s) (blocksAtClose cause next (placeWaiting s)))
        (blocksAtClose cause next (placeWaiting s)) := by
  dsimp only [closeInterval, putWaiting, closeWaiting, blocksAtClose]

/-- LOCK LIMITS up to the judging of the slots. -/
def slotsJudged (s : State) : State := allSlots.foldl (fun s k => judgeSlot k s) { s with locked := true }

/-- An INVALID pending slot is pending no more. -/
def pendingJudged (s : State) : State := if slotInvalid s s.plans.pendingSlot then s.putPending none else s

/-- An INVALID active slot is deselected. -/
def activeJudged (s : State) : State := if slotInvalid s s.plans.active then deselect s else s

theorem lockLimits_eq (s : State) :
    lockLimits s = accept (judgeWish (activeJudged (pendingJudged (slotsJudged s))))
      (allSlots.map fun k => byte ((activeJudged (pendingJudged (slotsJudged s))).slot k).status.code) := by
  unfold lockLimits activeJudged pendingJudged slotsJudged
  rfl

/-- The resolved request formed again where absent_fallback has changed. -/
def fallbackJudged (changed : Bool) (s : State) : State := if changed then resolve s else s

theorem writeLimits_eq (p : List Byte) (s : State) :
    writeLimits p s = accept (orderEach judgeHeld allLanes
      (fallbackJudged (decide (s.limits.absentFallback ≠ (limitsOf p).absentFallback))
        (closeFreeRun (closeTimed { s with limits := limitsOf p })))) [] := by rfl

/-- The wish judged after a plan has been applied between closes. -/
theorem selectPlan_eq (k : Fin 8) (s : State) :
    (selectPlan k s).state = if s.mode = .dark ∨ s.plans.plan = none then judgeWish (planChanged (applySlot k s))
      else s.putPending (some k) := by rfl

/-- The restore of a lane, before the recombination. -/
theorem clearLaneFault_eq (i : Fin 3) (s : State) :
    clearLaneFault i s = recombine (restoreLane i ((clearLaneWatches i s).post .faultCleared (i.val + 1) 1)) := by rfl

/-! ### Field checks -/

theorem firstFailure_eq_none {c : List FieldCheck} : firstFailure c = none ↔ ∀ x ∈ c, x.1 = true := by
  simp [firstFailure]

theorem inRange_iff {lo hi n : Nat} : inRange lo hi n = true ↔ lo ≤ n ∧ n ≤ hi := by simp [inRange]

/-! ### What the checks in front of a handler keep -/

section Checks
variable {P : State → Prop} {s : State} {h : State → Answer}

theorem withoutPayload_keeps (p : List Byte) (hs : P s) (hh : P (h s).state) : P (withoutPayload p h s).state := by
  obtain ⟨-, e⟩ | ⟨-, e⟩ := withoutPayload_cases p h s <;> rw [e] <;> assumption

theorem withLength_keeps (n : Nat) (p : List Byte) (hs : P s) (hh : P (h s).state) : P (withLength n p h s).state := by
  obtain ⟨-, e⟩ | ⟨-, e⟩ := withLength_cases n p h s <;> rw [e] <;> assumption

theorem withFields_keeps (c : List FieldCheck) (hs : P s) (hh : firstFailure c = none → P (h s).state) :
    P (withFields c h s).state := by
  obtain ⟨hc, e⟩ | ⟨k, -, e⟩ := withFields_cases c h s <;> rw [e]
  · exact hh hc
  · exact hs

theorem whenPresent_keeps (l : LinkId) (hs : P s) (hh : present s l = true → P (h s).state) :
    P (whenPresent l h s).state := by
  obtain ⟨hp, e⟩ | ⟨-, e⟩ := whenPresent_cases l h s <;> rw [e]
  · exact hh hp
  · exact hs

theorem unlessBusy_keeps (l : LinkId) (hs : P s) (hh : P (h s).state) : P (unlessBusy l h s).state := by
  unfold unlessBusy; split <;> assumption

theorem withSlot_keeps {h : Fin 8 → State → Answer} (p : List Byte) (hs : P s) (hh : ∀ k, P (h k s).state) :
    P (withSlot p h s).state := by
  obtain ⟨k, -, e⟩ | ⟨-, e⟩ := withSlot_cases p h s <;> rw [e]
  · exact hh k
  · exact hs

theorem withLane_keeps {h : Fin 3 → State → Answer} (p : List Byte) (hs : P s) (hh : ∀ i, P (h i s).state) :
    P (withLane p h s).state := by
  obtain ⟨k, -, e⟩ | ⟨-, e⟩ := withLane_cases p h s <;> rw [e]
  · exact hh k
  · exact hs

theorem asHolder_keeps {h : Claim → State → Answer} (l : LinkId) (hs : P s)
    (hh : ∀ c, s.plans.claim = some c → c.holder = l → P (h c s).state) : P (asHolder l h s).state := by
  obtain ⟨c, hc, hl, e⟩ | ⟨-, e⟩ := asHolder_cases l h s <;> rw [e]
  · exact hh c hc hl
  · exact hs

theorem accept_keeps (p : List Byte) (hs : P s) : P (accept s p).state := hs

theorem permitted_keeps {a : Answer} (perm : Permitted) (l : LinkId) (hs : P s) (ha : P a.state) :
    P (if perm.allows l then a else refuse s .notPermitted).state := by
  split <;> assumption

end Checks

/-! ### What every step keeps -/

/-- A property that each handler keeps in the states it is called in. Handlers that a check admits only from a PRESENT
link, or in some mode, have that check as a premise. -/
structure KeptByOwners (P : State → Prop) : Prop where
  configureLink : ∀ l p s, P s → firstFailure (configChecks p) = none → P (configureLink l p s).state
  readEvents : ∀ l n s, P s → 1 ≤ n → P (readEvents l n s).state
  readRecord : ∀ l s, P s → P (readRecord l s).state
  flushEvents : ∀ l s, P s → P (flushEvents l s).state
  flushRecords : ∀ l s, P s → P (putRecords l [] s)
  openPlan : ∀ l k s, P s → present s l = true → P (openPlan l k s).state
  planData : ∀ p c s, P s → s.plans.claim = some c → P (planData p c s).state
  commitPlan : ∀ c s, P s → s.plans.claim = some c → P (commitChecked c s).state
  abortPlan : ∀ s, P s → P (s.putClaim none)
  selectPlan : ∀ k s, P s → P (selectChecked k s).state
  requestMetering : ∀ l a s, P s → present s l = true → P (requestMetering l a s).state
  rateOrder : ∀ l p s, P s → present s l = true → P (rateOrder l p s).state
  cancelOrder : ∀ l s, P s → P (cancelOrder l s).state
  hold : ∀ l s, P s → present s l = true → P (holdChecked l s).state
  resume : ∀ l s, P s → P (resumeChecked l s).state
  clearLane : ∀ i s, P s → P (clearLaneChecked i s).state
  intervalMark : ∀ n s, P s → P (intervalMark n s).state
  writeLimits : ∀ p s, P s → s.locked = false → firstFailure (limitsChecks p) = none → P (writeLimits p s).state
  lockLimits : ∀ s, P s → s.locked = false → P (lockLimits s).state
  writeMap : ∀ p s, P s → s.mode = .dark ∨ s.mode = .faultDark → P (writeMap p s)
  enterManual : ∀ l s, P s → l = .L → present s l = true → P (enterManualChecked s).state
  setAspect : ∀ i a s, P s → P (setAspectChecked i a s).state
  setBeacon : ∀ on s, P s → s.mode = .manual → P (commandBeacon on s)
  exitManual : ∀ s, P s → s.mode = .manual → P (endManual .manualExited s)
  clearMeter : ∀ s, P s → P (clearMeterChecked s).state
  softReset : ∀ s, P s → P (softReset s).state

theorem KeptByOwners.requestAnswer {P : State → Prop} (h : KeptByOwners P) (c : Instr) {s : State} (hs : P s) :
    P (requestAnswer c s).state := by
  cases c <;> dsimp only [Machine.requestAnswer]
  case configureLink l tag p =>
    exact permitted_keeps _ _ hs (withLength_keeps _ _ hs (withFields_keeps _ hs (h.configureLink _ _ _ hs)))
  case readEvents l tag p =>
    refine permitted_keeps _ _ hs (withLength_keeps _ _ hs (withFields_keeps _ hs fun ok => h.readEvents _ _ _ hs ?_))
    have range := firstFailure_eq_none.mp ok _ (List.mem_singleton_self _)
    exact (inRange_iff.mp range).1
  case readRecord l tag p => exact permitted_keeps _ _ hs (withoutPayload_keeps _ hs (h.readRecord _ _ hs))
  case flushEvents l tag p => exact permitted_keeps _ _ hs (withoutPayload_keeps _ hs (h.flushEvents _ _ hs))
  case flushRecords l tag p => exact permitted_keeps _ _ hs (withoutPayload_keeps _ hs (accept_keeps _ (h.flushRecords _ _ hs)))
  case openPlan l tag p =>
    exact permitted_keeps _ _ hs (withLength_keeps _ _ hs (withSlot_keeps _ hs fun k =>
      whenPresent_keeps _ hs fun hp => unlessBusy_keeps _ hs (h.openPlan _ _ _ hs hp)))
  case planData l tag p =>
    refine permitted_keeps _ _ hs ?_
    split
    · exact hs
    · exact asHolder_keeps _ hs fun c hc _ => h.planData _ _ _ hs hc
  case commitPlan l tag p =>
    exact permitted_keeps _ _ hs (withoutPayload_keeps _ hs (asHolder_keeps _ hs fun c hc _ => h.commitPlan _ _ hs hc))
  case abortPlan l tag p =>
    exact permitted_keeps _ _ hs (withoutPayload_keeps _ hs (asHolder_keeps _ hs fun _ _ _ => accept_keeps _ (h.abortPlan _ hs)))
  case selectPlan l tag p =>
    exact permitted_keeps _ _ hs (withLength_keeps _ _ hs (withSlot_keeps _ hs fun k =>
      whenPresent_keeps _ hs fun _ => h.selectPlan _ _ hs))
  case requestMetering l tag p =>
    refine permitted_keeps _ _ hs (withLength_keeps _ _ hs ?_)
    split
    · exact whenPresent_keeps _ hs (h.requestMetering _ _ _ hs)
    · exact hs
  case rateOrder l tag p =>
    exact permitted_keeps _ _ hs (withLength_keeps _ _ hs (withFields_keeps _ hs fun _ =>
      whenPresent_keeps _ hs (h.rateOrder _ _ _ hs)))
  case cancelOrder l tag p => exact permitted_keeps _ _ hs (withoutPayload_keeps _ hs (h.cancelOrder _ _ hs))
  case hold l tag p =>
    exact permitted_keeps _ _ hs (withoutPayload_keeps _ hs (whenPresent_keeps _ hs (h.hold _ _ hs)))
  case resume l tag p =>
    exact permitted_keeps _ _ hs (withoutPayload_keeps _ hs (whenPresent_keeps _ hs fun _ => h.resume _ _ hs))
  case clearFaultLane l tag p =>
    exact permitted_keeps _ _ hs (withLength_keeps _ _ hs (withLane_keeps _ hs fun i =>
      whenPresent_keeps _ hs fun _ => h.clearLane _ _ hs))
  case intervalMark l tag p =>
    refine permitted_keeps _ _ hs ?_
    split
    · exact withLength_keeps _ _ hs (h.intervalMark _ _ hs)
    · exact hs
  case writeLimits l tag p =>
    refine permitted_keeps _ _ hs ?_
    split
    · exact hs
    · next hl => exact withLength_keeps _ _ hs (withFields_keeps _ hs (h.writeLimits _ _ hs (by simpa using hl)))
  case lockLimits l tag p =>
    refine permitted_keeps _ _ hs (withoutPayload_keeps _ hs ?_)
    split
    · exact hs
    · next hl => exact h.lockLimits _ hs (by simpa using hl)
  case writeDetectorMap l tag p =>
    refine permitted_keeps _ _ hs ?_
    split
    · next hm => exact withLength_keeps _ _ hs (withFields_keeps _ hs fun _ => accept_keeps _ (h.writeMap _ _ hs hm))
    · exact hs
  case enterManual l tag p =>
    split
    · next hl =>
      have hl : l = .L := by cases l <;> simp_all [Permitted.allows]
      exact withoutPayload_keeps _ hs (whenPresent_keeps _ hs (h.enterManual _ _ hs hl))
    · exact hs
  case setAspect l tag p =>
    refine permitted_keeps _ _ hs (withLength_keeps _ _ hs (withLane_keeps _ hs fun i => ?_))
    split
    · exact h.setAspect _ _ _ hs
    · exact hs
  case setBeacon l tag p =>
    refine permitted_keeps _ _ hs (withLength_keeps _ _ hs (withFields_keeps _ hs fun _ => ?_))
    split
    · next hm => exact accept_keeps _ (h.setBeacon _ _ hs hm)
    · exact hs
  case exitManual l tag p =>
    refine permitted_keeps _ _ hs (withoutPayload_keeps _ hs ?_)
    split
    · next hm => exact accept_keeps _ (h.exitManual _ hs hm)
    · exact hs
  case clearFaultMeter l tag p =>
    exact permitted_keeps _ _ hs (withoutPayload_keeps _ hs (whenPresent_keeps _ hs fun _ => h.clearMeter _ hs))
  case softReset l tag p => exact permitted_keeps _ _ hs (withoutPayload_keeps _ hs (h.softReset _ hs))
  case unknownKind l kind tag p => exact permitted_keeps _ _ hs hs
  case keepalive l tag p => exact permitted_keeps _ _ hs (withoutPayload_keeps _ hs hs)
  case readStatus l tag p => exact permitted_keeps _ _ hs (withoutPayload_keeps _ hs hs)
  case readCapabilities l tag p => exact permitted_keeps _ _ hs (withoutPayload_keeps _ hs hs)
  all_goals exact hs

/-- What a property has to be kept by, for every request to keep it: the parts of a frame and the owners. -/
structure KeptByRequests (P : State → Prop) : Prop where
  owners : KeptByOwners P
  lines : ∀ s, P s → P s.judgeLines
  reply : ∀ l r s, P s → P (storeReply l r s)
  done : ∀ l s, P s → P (endTransaction l s)
  frame : ∀ l ka s, P s → P (takeFrame l ka s)
  resolve : ∀ s, P s → P (resolve s)

/-- What a property has to be kept by, for every command to keep it: the requests and the effects of the events. -/
structure KeptByParts (P : State → Prop) : Prop extends KeptByRequests P where
  event : ∀ c s, requestParts c = none → P s → P (eventEffect c s)

theorem KeptByRequests.judgeRequest {P : State → Prop} (h : KeptByRequests P) (l : LinkId) (ka : Bool) (c : Instr) {s : State}
    (hs : P s) : P (judgeRequest l ka .either (requestAnswer c) s).state := by
  have ha : P (requestAnswer c (takeFrame l ka s)).state := h.owners.requestAnswer c (h.frame l ka s hs)
  show P (if makesPresent (s.link l) ka then
    { requestAnswer c (takeFrame l ka s) with state := Machine.resolve (requestAnswer c (takeFrame l ka s)).state }
    else requestAnswer c (takeFrame l ka s)).state
  split
  · exact h.resolve _ ha
  · exact ha

theorem KeptByRequests.exec {P : State → Prop} (h : KeptByRequests P) {c : Instr} {r : LinkId × Byte × Byte × List Byte}
    (hp : requestParts c = some r) {s t : State} (hs : P s) (ht : exec c s = .next t) : P t := by
  obtain ⟨l, kind, tag, p⟩ := r
  by_cases hn : ∀ l' tag' p', c ≠ .nop l' tag' p'
  · rw [exec_request hp hn, Host.Outcome.next.injEq] at ht
    refine ht ▸ h.lines _ ?_
    unfold serve
    split
    · exact h.done _ _ hs
    · exact h.reply _ _ _ (h.judgeRequest _ _ _ (h.done _ _ hs))
  · push Not at hn
    obtain ⟨l', tag', p', rfl⟩ := hn
    rw [exec_nop, Host.Outcome.next.injEq] at ht
    refine ht ▸ h.lines _ ?_
    split
    · exact h.done _ _ hs
    · exact h.judgeRequest _ _ _ (h.done _ _ hs)

theorem KeptByParts.exec {P : State → Prop} (h : KeptByParts P) {c : Instr} {s t : State} (hs : P s)
    (ht : exec c s = .next t) : P t := by
  cases hp : requestParts c with
  | none =>
    rw [exec_event hp, Host.Outcome.next.injEq] at ht
    exact ht ▸ h.lines _ (h.event c s hp hs)
  | some r => exact h.toKeptByRequests.exec hp hs ht

/-- The expiry that the idle part takes runs in the state as it is, the count of free values apart. -/
theorem nextExpiry_state {s s' : State} {c : Instr} (h : nextExpiry s = some (c, s')) :
    ∃ n, s' = { s with choices := n } := by
  unfold nextExpiry at h
  split at h
  · cases h
  · cases h; exact ⟨_, rfl⟩
  · cases h; exact ⟨_, rfl⟩

/-- A property that does not speak of the queue or the free values is kept by every step, if every command and the
passing of time keep it. -/
theorem step_keeps {P : State → Prop} (free : ∀ s (q : List Instr) n, P s → P { s with pending := q, choices := n })
    (hexec : ∀ c s t, P s → exec c s = .next t → P t) (htick : ∀ s, P s → P (tick s)) {s t : State} (hs : P s)
    (ht : step s = .next t) : P t := by
  unfold step at ht
  split at ht
  · next c rest _ => exact hexec c _ t (free s rest s.choices hs) ht
  · split at ht
    · next c s' hn =>
      obtain ⟨n, rfl⟩ := nextExpiry_state hn
      exact hexec c _ t (free s s.pending n hs) ht
    · cases ht
      exact htick s hs

end Sys2Proof.Steps
end

section
/-! What each operation does to the standing state of the links: rate orders, activation requests, the hold with its
mode, manual control, the staging claim and the link states. Most operations give a link nothing that it did not hold
(`KeepsHolders`); those that do are named one by one. -/

namespace Sys2Proof.Holders
open Sys2Proof.Machine Sys2Proof.Steps

/-- An operation that keeps the orders, requests, claim and link states, begins no hold and no MANUAL, and keeps a hold
record and the mode HOLD together. -/
structure KeepsHolders (s t : State) : Prop where
  orders : t.rate.orders = s.rate.orders
  requests : t.meter.requests = s.meter.requests
  claim : t.plans.claim = s.plans.claim
  links : ∀ l, (t.link l).state = (s.link l).state
  owner : t.meter.hold = none ∨ t.meter.hold = s.meter.hold
  manual : t.mode = .manual → s.mode = .manual
  hold : (s.meter.hold.isSome = true ↔ s.mode = .hold) → (t.meter.hold.isSome = true ↔ t.mode = .hold)

theorem KeepsHolders.refl (s : State) : KeepsHolders s s :=
  ⟨rfl, rfl, rfl, fun _ => rfl, .inr rfl, id, id⟩

theorem KeepsHolders.trans {s t u : State} (h : KeepsHolders s t) (g : KeepsHolders t u) : KeepsHolders s u where
  orders := g.orders.trans h.orders
  requests := g.requests.trans h.requests
  claim := g.claim.trans h.claim
  links l := (g.links l).trans (h.links l)
  owner := by
    obtain hg | hg := g.owner
    · exact .inl hg
    · rw [hg]; exact h.owner
  manual := h.manual ∘ g.manual
  hold := g.hold ∘ h.hold

/-- An operation that leaves the mode controller alone. -/
theorem KeepsHolders.of_meter {s t : State} (meter : t.meter = s.meter) (orders : t.rate.orders = s.rate.orders)
    (claim : t.plans.claim = s.plans.claim) (links : t.links = s.links) : KeepsHolders s t where
  orders := orders
  requests := by rw [meter]
  claim := claim
  links l := by rw [State.link, links, ← State.link]
  owner := .inr (by rw [meter])
  manual := by simp [State.mode, meter]
  hold := by simp [State.mode, meter]

/-- A change of mode to one that is neither HOLD nor MANUAL, with the hold record ended. -/
theorem KeepsHolders.of_mode {s t : State} (orders : t.rate.orders = s.rate.orders)
    (requests : t.meter.requests = s.meter.requests) (claim : t.plans.claim = s.plans.claim) (links : t.links = s.links)
    (no_hold : t.meter.hold = none) (mode : t.mode ≠ .hold ∧ t.mode ≠ .manual) : KeepsHolders s t where
  orders := orders
  requests := requests
  claim := claim
  links l := by rw [State.link, links, ← State.link]
  owner := .inl no_hold
  manual h := absurd h mode.2
  hold _ := by simp [no_hold, mode.1]

/-- What holds of the given state and is kept by one case of an operation is kept by the operation. -/
theorem KeepsHolders.ite {s a b : State} {c : Prop} [Decidable c] (ha : c → KeepsHolders s a) (hb : ¬c → KeepsHolders s b) :
    KeepsHolders s (if c then a else b) := by
  split
  · exact ha ‹_›
  · exact hb ‹_›

theorem keeps_orderEach {f : Fin 3 → State → State} (h : ∀ i s, KeepsHolders s (f i s)) (l : List (Fin 3)) (s : State) :
    KeepsHolders s (orderEach f l s) := by
  induction l generalizing s with
  | nil => exact .refl s
  | cons i l ih => exact (h i s).trans (ih _)

theorem keeps_foldl {β : Type} {f : State → β → State} (h : ∀ s b, KeepsHolders s (f s b)) (l : List β) (s : State) :
    KeepsHolders s (l.foldl f s) := by
  induction l generalizing s with
  | nil => exact .refl s
  | cons b l ih => exact (h s b).trans (ih _)

/-! ### Releases and rates -/

theorem keeps_post (s : State) (kind : EventKind) (subject detail : Nat) : KeepsHolders s (s.post kind subject detail) :=
  .of_meter (by simp) (by simp) (by simp) (by simp)

@[simp] theorem runCombine_orders (entry : Bool) (s : State) : (runCombine entry s).rate.orders = s.rate.orders := by
  unfold runCombine
  split
  · rfl
  · simp only [ite_rate, handHeadway_frame, ite_self]; rfl

@[simp] theorem recombine_orders (s : State) : (recombine s).rate.orders = s.rate.orders := by
  unfold recombine; split <;> simp

theorem keeps_recombine (s : State) : KeepsHolders s (recombine s) :=
  .of_meter (by simp) (by simp) (by simp) (by simp)

theorem keeps_recombineFault (s : State) : KeepsHolders s (recombineFault s) := .ite (fun _ => .refl s) fun _ => keeps_recombine s

@[simp] theorem leaveReleases_orders (s : State) : (leaveReleases s).rate.orders = s.rate.orders := rfl

@[simp] theorem entryFromStartup_orders (s : State) : (entryFromStartup s).rate.orders = s.rate.orders := by
  unfold entryFromStartup; split
  · rfl
  · rw [runCombine_orders]

@[simp] theorem entryFromShutdown_orders (s : State) : (entryFromShutdown s).rate.orders = s.rate.orders := by
  unfold entryFromShutdown; split
  · rfl
  · rw [runCombine_orders]

theorem keeps_takePending (s : State) : KeepsHolders s (takePending s) := .of_meter (by simp) (by simp) (by simp) (by simp)

theorem keeps_releaseDue (s : State) : KeepsHolders s (releaseDue s) := .of_meter (by simp) (by simp) (by simp) (by simp)

/-! ### Modes -/

@[simp] theorem changeMode_mode (m : Mode) (cause : ModeCause) (s : State) : (changeMode m cause s).mode = m := by
  simp [changeMode, State.mode, State.putMode]

@[simp] theorem changeMode_meter (m : Mode) (cause : ModeCause) (s : State) :
    (changeMode m cause s).meter = { s.meter with mode := m } := by
  simp [changeMode, State.putMode]

@[simp] theorem commandBeacon_meter (on : Bool) (s : State) : (commandBeacon on s).meter = { s.meter with beacon := on } := by
  simp [commandBeacon]

@[simp] theorem leaveReleases_meter (s : State) : (leaveReleases s).meter = s.meter := by simp

theorem enterDark_meter (cause : ModeCause) (s : State) :
    (enterDark cause s).meter =
      { s.meter with mode := .dark, phase := .idle, seqTimer := 0, hold := none, beacon := false,
                     aspects := Vector.replicate 3 none } := by
  simp [enterDark, clearAspects, State.putPhase, State.putHold]

theorem enterDark_orders (cause : ModeCause) (s : State) : (enterDark cause s).rate.orders = s.rate.orders := by
  simp [enterDark]

theorem keeps_enterDark (cause : ModeCause) (s : State) : KeepsHolders s (enterDark cause s) :=
  .of_mode (enterDark_orders cause s) (by rw [enterDark_meter]) (by simp) (by simp) (by rw [enterDark_meter])
    (by simp [State.mode, enterDark_meter])

theorem startMeter_meter (cause : ModeCause) (s : State) :
    (startMeter cause s).meter =
      { s.meter with mode := .startup, beacon := true, phase := .rest,
                     seqTimer := planSeconds (orderEach orderRest (workingLanes (commandBeacon true (changeMode .startup cause s)))
                       (commandBeacon true (changeMode .startup cause s))) planStartupGreen } := by
  simp [startMeter, State.putPhase]

theorem keeps_tryStart (cause : ModeCause) (s : State) : KeepsHolders s (tryStart cause s) := by
  unfold tryStart
  split
  case isFalse => exact .refl s
  case isTrue hd =>
    have hm : s.meter.mode = .dark := hd.1
    refine ⟨by simp, by rw [startMeter_meter], by simp, fun l => by simp [State.link], .inr (by rw [startMeter_meter]), ?_, ?_⟩
    · simp [State.mode, startMeter_meter]
    · simp [State.mode, startMeter_meter, hm]

theorem keeps_judgeStart (s : State) : KeepsHolders s (judgeStart s) := .ite (fun _ => keeps_tryStart _ s) fun _ => .refl s

theorem keeps_enterDarkJudged (cause : ModeCause) (s : State) : KeepsHolders s (enterDarkJudged cause s) :=
  (keeps_enterDark cause s).trans (keeps_judgeStart _)

theorem keeps_checkStopped (s : State) : KeepsHolders s (checkStopped s) :=
  .ite (fun _ => keeps_enterDarkJudged _ s) fun _ => .refl s

theorem enterMetering_meter (s : State) :
    (enterMetering s).meter = { s.meter with mode := .metering, phase := .idle, seqTimer := 0 } := by
  simp [enterMetering, State.putPhase]

theorem keeps_checkCleared (s : State) : KeepsHolders s (checkCleared s) := by
  unfold checkCleared
  split
  case isFalse => exact .refl s
  case isTrue hc =>
    have hm : s.meter.mode = .startup := by simp [cleared] at hc; exact hc.1.1.1
    refine ⟨by simp [enterMetering, formRing], by rw [enterMetering_meter], by simp, fun l => by simp [State.link],
      .inr (by rw [enterMetering_meter]), ?_, ?_⟩
    · simp [State.mode, enterMetering_meter]
    · simp [State.mode, enterMetering_meter, hm]

theorem keeps_putPhase (p : Phase) (n : Nat) (s : State) : KeepsHolders s (s.putPhase p n) :=
  ⟨rfl, rfl, rfl, fun _ => rfl, .inr rfl, id, id⟩

theorem keeps_checkResting (s : State) : KeepsHolders s (checkResting s) :=
  .ite (fun _ => keeps_putPhase _ _ s) fun _ => .refl s

theorem keeps_advanceSequence (s : State) : KeepsHolders s (advanceSequence s) :=
  ((keeps_checkCleared s).trans (keeps_checkStopped _)).trans (keeps_checkResting _)

theorem keeps_commandBeacon (on : Bool) (s : State) : KeepsHolders s (commandBeacon on s) :=
  ⟨by simp, by simp, by simp, fun l => by simp [State.link], .inr (by simp), by simp [State.mode], by simp [State.mode]⟩

theorem keeps_lanes {s t : State} (meter : t.meter = s.meter) (rate : t.rate = s.rate) (plans : t.plans = s.plans)
    (links : t.links = s.links) : KeepsHolders s t :=
  .of_meter meter (by rw [rate]) (by rw [plans]) links

theorem keeps_orderRest (i : Fin 3) (s : State) : KeepsHolders s (orderRest i s) := keeps_lanes (by simp) (by simp) (by simp) (by simp)
theorem keeps_orderClear (i : Fin 3) (s : State) : KeepsHolders s (orderClear i s) := keeps_lanes (by simp) (by simp) (by simp) (by simp)
theorem keeps_orderStop (i : Fin 3) (s : State) : KeepsHolders s (orderStop i s) := keeps_lanes (by simp) (by simp) (by simp) (by simp)
theorem keeps_orderCut (i : Fin 3) (s : State) : KeepsHolders s (orderCut i s) := keeps_lanes (by simp) (by simp) (by simp) (by simp)

theorem keeps_interruptStartup (s : State) : KeepsHolders s (interruptStartup s) :=
  (((keeps_commandBeacon false s).trans (keeps_putPhase _ _ _)).trans (keeps_orderEach keeps_orderStop _ _)).trans
    (keeps_checkStopped _)

theorem keeps_shutdown (cause : ModeCause) (s : State) : KeepsHolders s (shutdown cause s) := by
  refine .trans ?_ (keeps_checkResting _)
  exact .of_mode (by simp) (by simp [State.putHold, State.putPhase]) (by simp) (by simp)
    (by simp [State.putHold, State.putPhase]) (by simp [State.mode, State.putHold, State.putPhase])

theorem returnToMetering_meter (s : State) :
    (returnToMetering s).meter = { s.meter with mode := .metering, beacon := true, phase := .idle, seqTimer := 0 } := by
  simp [returnToMetering, State.putPhase]

theorem keeps_actOnStop (cause : ModeCause) (s : State) : KeepsHolders s (actOnStop cause s) := by
  unfold actOnStop
  split
  case h_1 => exact .ite (fun _ => .refl s) fun _ => keeps_interruptStartup s
  case h_2 | h_3 => exact keeps_shutdown cause s
  case h_4 | h_5 | h_6 | h_7 => exact .refl s

theorem keeps_returnToMetering {s : State} (hm : s.meter.mode = .shutdown) : KeepsHolders s (returnToMetering s) := by
  refine ⟨by simp [returnToMetering, formRing], by rw [returnToMetering_meter], by simp, fun l => by simp [State.link],
    .inr (by rw [returnToMetering_meter]), ?_, ?_⟩
  · simp [State.mode, returnToMetering_meter]
  · simp [State.mode, returnToMetering_meter, hm]

theorem keeps_actOnStart (s : State) : KeepsHolders s (actOnStart s) := by
  unfold actOnStart
  split
  case h_1 => exact keeps_tryStart _ s
  case h_2 hm => exact keeps_returnToMetering hm
  case h_3 | h_4 | h_5 | h_6 | h_7 => exact .refl s

theorem keeps_judgeWish (s : State) : KeepsHolders s (judgeWish s) := by
  unfold judgeWish
  split
  · exact keeps_actOnStart s
  · exact keeps_actOnStop _ s
  · exact .refl s

theorem keeps_resolve (s : State) : KeepsHolders s (resolve s) := by
  refine .trans (t := formResolved s) ?_ (keeps_judgeWish _)
  unfold formResolved
  split
  · exact .refl s
  · exact ⟨rfl, rfl, rfl, fun _ => rfl, .inr rfl, id, id⟩

theorem leaveHold_meter (cause : ModeCause) (s : State) :
    (leaveHold cause s).meter = { s.meter with mode := .metering, hold := none } := by
  simp [leaveHold, State.putHold]

theorem keeps_leaveHold (cause : ModeCause) (s : State) : KeepsHolders s (leaveHold cause s) :=
  .of_mode (by simp) (by rw [leaveHold_meter]) (by simp) (by simp) (by rw [leaveHold_meter])
    (by simp [State.mode, leaveHold_meter])

theorem keeps_endHold (kind : EventKind) (detail : Nat) (s : State) : KeepsHolders s (endHold kind detail s) := by
  unfold endHold
  split
  · exact .ite (fun _ => (keeps_post s _ _ _).trans (keeps_leaveHold _ _)) fun _ => .refl s
  · exact .refl s

theorem keeps_setAspectOf (i : Fin 3) (a : Option Aspect) (s : State) : KeepsHolders s (s.setAspectOf i a) :=
  ⟨rfl, rfl, rfl, fun _ => rfl, .inr rfl, id, id⟩

theorem keeps_workOnce (i : Fin 3) (s : State) : KeepsHolders s (workOnce i s) := by
  unfold workOnce
  split
  · exact .refl s
  · split
    · exact keeps_orderClear i s
    · exact keeps_lanes (by simp) (by simp) (by simp) (by simp)
    · exact keeps_lanes (by simp) (by simp) (by simp) (by simp)
    · exact keeps_setAspectOf i _ s
    · exact .refl s

theorem keeps_workLane (i : Fin 3) (s : State) : KeepsHolders s (workLane i s) :=
  .ite (fun _ => keeps_workOnce i s) fun _ => (keeps_workOnce i s).trans (keeps_workOnce i _)

theorem keeps_afterLaneChange (i : Fin 3) (s : State) : KeepsHolders s (afterLaneChange i s) :=
  .ite (fun _ => keeps_workLane i s) fun _ => keeps_advanceSequence s

theorem keeps_endManual (cause : ModeCause) (s : State) : KeepsHolders s (endManual cause s) :=
  (((show KeepsHolders s (clearAspects s) from ⟨rfl, rfl, rfl, fun _ => rfl, .inr rfl, id, id⟩).trans
    (keeps_orderEach keeps_orderCut _ _)).trans (keeps_commandBeacon false _)).trans (keeps_enterDarkJudged cause _)

theorem enterFaultDark_meter (s : State) :
    (enterFaultDark s).meter =
      { s.meter with mode := .faultDark, phase := .idle, seqTimer := 0, hold := none, beacon := false,
                     aspects := Vector.replicate 3 none } := by
  simp [enterFaultDark, clearAspects, State.putPhase, State.putHold]

theorem keeps_meterFault (i : Fin 3) (cause : MeterFaultCause) (s : State) : KeepsHolders s (meterFault i cause s) := by
  refine .trans (keeps_post s _ _ _) (.ite (fun _ => .refl _) fun _ => ?_)
  exact .of_mode (by simp [enterFaultDark]) (by rw [enterFaultDark_meter]) (by simp) (by simp)
    (by rw [enterFaultDark_meter]) (by simp [State.mode, enterFaultDark_meter])

/-! ### Detectors and spill -/

theorem keeps_spillRises (b : Bool) (d : Fin 16) (s : State) : KeepsHolders s (spillRises b d s) := by
  refine .trans (.trans (t := (s.putSpill true).post .spillOn (d.val + 1) 0) ?_ ?_) (keeps_endHold _ _ _)
  · exact .of_meter (by simp) (by simp [State.putSpill]) (by simp) (by simp)
  · exact .ite (fun _ => keeps_recombine _) fun _ => .refl _

theorem keeps_spillFalls (b : Bool) (detail : Nat) (s : State) : KeepsHolders s (spillFalls b detail s) := by
  refine .trans (t := (s.putSpill false).post .spillOff 0 detail) ?_ (.ite (fun _ => keeps_recombine _) fun _ => .refl _)
  exact .of_meter (by simp) (by simp [State.putSpill]) (by simp) (by simp)

theorem keeps_judgeSpillOn (b : Bool) (s : State) : KeepsHolders s (judgeSpillOn b s) := by
  unfold judgeSpillOn
  split
  · exact .refl s
  · split
    · exact keeps_spillRises b _ s
    · exact .refl s

theorem keeps_judgeSpillOff (b : Bool) (s : State) : KeepsHolders s (judgeSpillOff b s) := by
  unfold judgeSpillOff
  split
  · split
    · exact keeps_spillFalls b _ s
    · exact .refl s
  · exact .refl s

theorem keeps_judgeSpill (b : Bool) (s : State) : KeepsHolders s (judgeSpill b s) :=
  .ite (fun _ => keeps_judgeSpillOff b s) fun _ => keeps_judgeSpillOn b s

theorem keeps_raiseFault (d : Fin 16) (k : FaultKind) (s : State) : KeepsHolders s (raiseFault d k s) := by
  have raised : KeepsHolders s (faultRaised d k s) :=
    keeps_lanes (by simp [faultRaised]) (by simp [faultRaised]) (by simp [faultRaised]) (by simp [faultRaised])
  rw [raiseFault_eq]
  exact .ite (fun _ => raised.trans (keeps_judgeSpillOff true _)) fun _ => raised

theorem keeps_passageNotice (i : Fin 3) (s : State) : KeepsHolders s (passageNotice i s) := by
  unfold passageNotice
  split
  · exact .refl s
  · refine .ite (fun _ => .refl s) fun _ => ?_
    have hd : KeepsHolders s (s.setDfeLane i { s.dfeLane i with failedOff := min ((s.dfeLane i).failedOff + 1) 3 }) :=
      keeps_lanes (by simp) (by simp) (by simp) (by simp)
    exact .ite (fun _ => hd.trans (keeps_raiseFault _ _ _)) fun _ => hd

theorem keeps_passage (i : Fin 3) (s : State) : KeepsHolders s (passage i s) := by
  have hl : ∀ x, KeepsHolders s (s.setLane i x) := fun _ => keeps_lanes (by simp) (by simp) (by simp) (by simp)
  unfold passage
  split
  · exact .refl s
  all_goals exact (hl _).trans (keeps_passageNotice i _)

theorem keeps_demandShown (x : Input) (d : Fin 16) (s : State) : KeepsHolders s (demandShown x d s) := by
  unfold demandShown
  split
  · exact keeps_lanes (by simp) (by simp) (by simp) (by simp)
  · exact .refl s

theorem keeps_chatterJudged (x : Input) (d : Fin 16) (s : State) : KeepsHolders s (chatterJudged x d s) :=
  .ite (fun _ => keeps_raiseFault _ _ _) fun _ => .refl _

theorem keeps_passageTaken (x : Input) (s : State) : KeepsHolders s (passageTaken x s) := by
  unfold passageTaken
  split
  · exact keeps_passage _ _
  · exact .refl _

theorem keeps_risingEdge (d : Fin 16) (s : State) : KeepsHolders s (risingEdge d s) := by
  rw [risingEdge_eq]
  refine .trans (.trans (.trans (.trans ?_ (keeps_demandShown _ d _)) (keeps_chatterJudged _ d _)) (keeps_passageTaken _ _))
    (keeps_takePending _)
  exact keeps_lanes (by simp) (by simp) (by simp) (by simp)

theorem keeps_edge (d : Fin 16) (level : Bool) (s : State) : KeepsHolders s (edge d level s) :=
  .ite (fun _ => keeps_risingEdge d s) fun _ => keeps_lanes (by simp) (by simp) (by simp) (by simp)

theorem keeps_rawChange (d : Fin 16) (level : Bool) (s : State) : KeepsHolders s (rawChange d level s) := by
  have hi : ∀ t x, KeepsHolders t (t.setInput d x) := fun _ _ => keeps_lanes (by simp) (by simp) (by simp) (by simp)
  unfold rawChange
  exact .ite (fun _ => .refl s) fun _ => (hi s _).trans
    (.ite (fun _ => .refl _) fun _ => .ite (fun _ => keeps_edge _ _ _) fun _ => hi _ _)

theorem keeps_filterExpiry (d : Fin 16) (s : State) : KeepsHolders s (filterExpiry d s) :=
  .ite (fun _ => keeps_edge _ _ s) fun _ => .refl s

theorem keeps_stuckExpiry (d : Fin 16) (s : State) : KeepsHolders s (stuckExpiry d s) :=
  .ite (fun _ => (keeps_raiseFault _ _ s).trans (keeps_takePending _)) fun _ => .refl s

theorem keeps_writeMap (p : List Byte) (s : State) : KeepsHolders s (writeMap p s) := by
  rw [writeMap_eq]
  refine .trans (.trans ?_ (keeps_judgeSpillOff true _)) (keeps_takePending _)
  exact keeps_lanes (by simp [mapWritten]) (by simp [mapWritten]) (by simp [mapWritten]) (by simp [mapWritten])

/-! ### Lamps -/

theorem keeps_faultLane (i : Fin 3) (s : State) : KeepsHolders s (faultLane i s) := by
  have entered : KeepsHolders s (enterLane i (s.lane i).toFaulted s) :=
    keeps_lanes (by simp) (by simp) (by simp) (by simp)
  exact (entered.trans (keeps_setAspectOf i none _)).trans (keeps_lanes rfl rfl rfl rfl)

theorem keeps_laneFault (i : Fin 3) (c : Colour) (w : WatchKind) (s : State) : KeepsHolders s (laneFault i c w s) := by
  unfold laneFault
  refine .trans (keeps_post s _ _ _) (.ite (fun _ => .refl _) fun _ => ?_)
  exact ((keeps_faultLane i _).trans (keeps_recombineFault _)).trans
    (.ite (fun _ => keeps_meterFault _ _ _) fun _ => (keeps_advanceSequence _).trans (keeps_judgeWish _))

theorem keeps_consequence (k : Fin 10) (w : WatchKind) (s : State) : KeepsHolders s (consequence k w s) := by
  unfold consequence
  split
  · exact keeps_post s _ _ _
  · split
    · exact keeps_meterFault _ _ s
    · exact keeps_laneFault _ _ _ s
  · split
    · exact keeps_laneFault _ _ _ s
    · split
      · exact keeps_laneFault _ _ _ s
      · exact keeps_meterFault _ _ s
  · split
    · exact keeps_laneFault _ _ _ s
    · split
      · exact keeps_post s _ _ _
      · exact keeps_laneFault _ _ _ s

theorem keeps_latch (k : Fin 10) (w : WatchKind) (s : State) : KeepsHolders s (latch k w s) :=
  .ite (fun _ => (keeps_lanes (by simp) (by simp) (by simp) (by simp) : KeepsHolders s (s.setDrive k _)).trans
    (keeps_consequence k w _)) fun _ => .refl s

theorem keeps_clearLaneFault (i : Fin 3) (s : State) : KeepsHolders s (clearLaneFault i s) :=
  (keeps_lanes (by simp) (by simp) (by simp) (by simp) :
    KeepsHolders s (restoreLane i ((clearLaneWatches i s).post .faultCleared (i.val + 1) 1))).trans (keeps_recombine _)

theorem keeps_judgeHeld (i : Fin 3) (s : State) : KeepsHolders s (judgeHeld i s) :=
  .ite (fun _ => (keeps_lanes (by simp) (by simp) (by simp) (by simp) : KeepsHolders s (carryOutHeld i s)).trans
    (keeps_afterLaneChange i _)) fun _ => .refl s

/-! ### Closes and plans -/

@[simp] theorem setFloor_orders (v : Bool) (detail : Nat) (s : State) : (setFloor v detail s).rate.orders = s.rate.orders := by
  simp only [setFloor, State.putFloor]; split <;> simp

@[simp] theorem feedbackAtClose_orders (om : Option Nat) (s : State) :
    (feedbackAtClose om s).rate.orders = s.rate.orders := by
  unfold feedbackAtClose; split <;> simp

theorem keeps_planChanged (s : State) : KeepsHolders s (planChanged s) := by
  have hf : KeepsHolders s (setFloor false 65535 s) := .of_meter (by simp) (by simp) (by simp) (by simp)
  refine .trans ?_ (keeps_judgeSpill true _)
  split
  · exact .ite (fun _ => .refl s) fun _ => hf
  · exact hf

theorem keeps_applySlot (k : Fin 8) (s : State) : KeepsHolders s (applySlot k s) :=
  .of_meter (by simp) (by simp) (by simp [applySlot]) (by simp)

theorem keeps_planAtClose (s : State) : KeepsHolders s (planAtClose s) := by
  unfold planAtClose
  split
  · exact .refl s
  · exact .ite (fun _ => (keeps_applySlot _ s).trans (keeps_judgeSpill false _)) fun _ => .refl s

theorem rateAtClose_orders (dets : List DetEntry) (s : State) : (rateAtClose dets s).rate.orders = s.rate.orders := by
  have floor : (floorAtClose dets s).rate.orders = s.rate.orders := setFloor_orders _ _ s
  unfold rateAtClose
  dsimp only
  split
  · rw [runCombine_orders, feedbackAtClose_orders, floor]
  · exact floor

theorem keeps_rateAtClose (dets : List DetEntry) (s : State) : KeepsHolders s (rateAtClose dets s) :=
  .of_meter (by simp) (rateAtClose_orders dets s) (by simp) (by simp)

theorem keeps_runsAtClose (om : Option Nat) (s : State) : KeepsHolders s (runsAtClose om s) := by
  have hr : ∀ a b, KeepsHolders s (s.putRuns a b) := fun _ _ => ⟨rfl, rfl, rfl, fun _ => rfl, .inr rfl, id, id⟩
  unfold runsAtClose
  split
  · exact .ite (fun _ => hr _ _) fun _ => hr _ _
  · exact hr _ _

theorem keeps_actOnAuto (w : Waiting) (s : State) : KeepsHolders s (actOnAuto w s) := by
  unfold actOnAuto
  refine .ite (fun _ => .ite (fun _ => keeps_tryStart _ _) fun _ => .ite (fun _ => ?_) fun _ => .refl _) fun _ => .refl _
  split
  case h_1 | h_2 => exact keeps_shutdown _ _
  case h_3 | h_4 | h_5 | h_6 | h_7 => exact .refl _

theorem keeps_placeWaiting (s : State) : KeepsHolders s (placeWaiting s) := by
  unfold placeWaiting
  split
  · exact .refl s
  · refine .trans (.trans ?_ (keeps_actOnAuto _ _)) (keeps_judgeWish _)
    exact keeps_lanes (by simp) (by simp) (by simp) (by simp)

theorem keeps_blocksAtClose (cause : Cause) (next : Nat) (s : State) : KeepsHolders s (blocksAtClose cause next s) := by
  unfold blocksAtClose
  refine .trans (.trans (.trans ?_ (keeps_planAtClose _)) (keeps_rateAtClose _ _)) (keeps_runsAtClose _ _)
  exact keeps_lanes (by simp) (by simp) (by simp) (by simp)

theorem keeps_putWaiting (w : Waiting) (s : State) : KeepsHolders s (putWaiting w s) := keeps_lanes rfl rfl rfl rfl

theorem keeps_closeInterval (cause : Cause) (next : Nat) (s : State) : KeepsHolders s (closeInterval cause next s) := by
  rw [closeInterval_eq]
  exact .trans (.trans (keeps_placeWaiting s) (keeps_blocksAtClose _ _ _)) (keeps_putWaiting _ _)

theorem keeps_closeTimed (s : State) : KeepsHolders s (closeTimed s) := .ite (fun _ => keeps_closeInterval _ _ s) fun _ => .refl s

theorem keeps_closeFreeRun (s : State) : KeepsHolders s (closeFreeRun s) :=
  .ite (fun _ => keeps_closeInterval _ _ s) fun _ => .refl s

theorem keeps_judgeWish_planChanged (s : State) : KeepsHolders s (judgeWish (planChanged s)) :=
  (keeps_planChanged s).trans (keeps_judgeWish _)

theorem keeps_fallbackJudged (b : Bool) (s : State) : KeepsHolders s (fallbackJudged b s) :=
  .ite (fun _ => keeps_resolve _) fun _ => .refl _

theorem keeps_writeLimits (p : List Byte) (s : State) : KeepsHolders s (writeLimits p s).state := by
  rw [writeLimits_eq, accept_state]
  refine .trans (.trans (.trans (.trans ?_ (keeps_closeTimed _)) (keeps_closeFreeRun _)) (keeps_fallbackJudged _ _))
    (keeps_orderEach keeps_judgeHeld _ _)
  exact keeps_lanes rfl rfl rfl rfl

theorem keeps_judgeSlot (k : Fin 8) (s : State) : KeepsHolders s (judgeSlot k s) := by
  refine .of_meter (by simp) (by simp) ?_ (by simp)
  unfold judgeSlot
  (repeat' split) <;> simp [State.putSlot]

theorem keeps_activeJudged (s : State) : KeepsHolders s (activeJudged s) := by
  refine .ite (fun _ => ?_) fun _ => .refl s
  unfold deselect
  refine .trans ?_ (keeps_planChanged _)
  exact .of_meter rfl rfl rfl rfl

theorem keeps_slotsJudged (s : State) : KeepsHolders s (slotsJudged s) :=
  .trans (t := { s with locked := true }) (keeps_lanes rfl rfl rfl rfl) (keeps_foldl (fun t k => keeps_judgeSlot k t) _ _)

theorem keeps_pendingJudged (s : State) : KeepsHolders s (pendingJudged s) :=
  .ite (fun _ => .of_meter rfl rfl rfl rfl) fun _ => .refl _

theorem keeps_lockLimits (s : State) : KeepsHolders s (lockLimits s).state := by
  rw [lockLimits_eq, accept_state]
  exact .trans (.trans (.trans (keeps_slotsJudged s) (keeps_pendingJudged _)) (keeps_activeJudged _)) (keeps_judgeWish _)

theorem keeps_selectPlan (k : Fin 8) (s : State) : KeepsHolders s (selectPlan k s).state := by
  rw [selectPlan_eq]
  exact .ite (fun _ => (keeps_applySlot k s).trans (keeps_judgeWish_planChanged _)) fun _ => .of_meter rfl rfl rfl rfl

theorem keeps_selectChecked (k : Fin 8) (s : State) : KeepsHolders s (selectChecked k s).state := by
  unfold selectChecked
  split
  · exact .refl s
  · split
    · exact .refl s
    · exact keeps_selectPlan k s

end Sys2Proof.Holders
end

section
/-! A link that is not PRESENT holds nothing (R57, R91, R100, R101, R105, R137): every step keeps it so. -/

namespace Sys2Proof.AbsentLinks
open Sys2Proof.Machine Sys2Proof.Steps Sys2Proof.Holders

/-- A link holds no rate order, no activation request, no claim and no hold, and if it is Link L the meter is not in
MANUAL. -/
structure EmptyHanded (l : LinkId) (s : State) : Prop where
  order : s.rate.orders.get l = none
  request : s.meter.requests.get l = .none
  claim : ∀ c, s.plans.claim = some c → c.holder ≠ l
  owner : ∀ h, s.meter.hold = some h → h.owner ≠ l
  manual : l = .L → s.mode ≠ .manual

/-- A hold record is there exactly in HOLD. -/
def HoldsInHold (s : State) : Prop := s.meter.hold.isSome = true ↔ s.mode = .hold

theorem linkInv_iff (s : State) :
    LinkInv s ↔ HoldsInHold s ∧ ∀ l, (s.link l).state ≠ .present → EmptyHanded l s := by
  constructor
  · intro h
    exact ⟨h.hold, fun l hl => ⟨h.order l hl, h.request l hl, h.claim l hl, h.owner l hl, by rintro rfl; exact h.manual hl⟩⟩
  · rintro ⟨hold, empty⟩
    exact ⟨fun l hl => (empty l hl).order, fun l hl => (empty l hl).request, fun l hl => (empty l hl).claim,
      fun l hl => (empty l hl).owner, fun hl => (empty .L hl).manual rfl, hold⟩

/-- An operation that may take standing state from a link, and gives none. -/
structure GivesNothing (s t : State) : Prop where
  order : ∀ l, s.rate.orders.get l = none → t.rate.orders.get l = none
  request : ∀ l, s.meter.requests.get l = .none → t.meter.requests.get l = .none
  claim : ∀ c, t.plans.claim = some c → ∃ c', s.plans.claim = some c' ∧ c'.holder = c.holder
  owner : ∀ h, t.meter.hold = some h → ∃ g, s.meter.hold = some g ∧ g.owner = h.owner
  manual : t.mode = .manual → s.mode = .manual
  hold : HoldsInHold s → HoldsInHold t

theorem GivesNothing.refl (s : State) : GivesNothing s s :=
  ⟨fun _ => id, fun _ => id, fun c h => ⟨c, h, rfl⟩, fun h e => ⟨h, e, rfl⟩, id, id⟩

theorem GivesNothing.trans {s t u : State} (h : GivesNothing s t) (g : GivesNothing t u) : GivesNothing s u where
  order l := g.order l ∘ h.order l
  request l := g.request l ∘ h.request l
  claim c hc := by
    obtain ⟨c', hc', e⟩ := g.claim c hc
    obtain ⟨c'', hc'', e'⟩ := h.claim c' hc'
    exact ⟨c'', hc'', e'.trans e⟩
  owner r hr := by
    obtain ⟨r', hr', e⟩ := g.owner r hr
    obtain ⟨r'', hr'', e'⟩ := h.owner r' hr'
    exact ⟨r'', hr'', e'.trans e⟩
  manual := h.manual ∘ g.manual
  hold := g.hold ∘ h.hold

/-- An operation that leaves the orders, the claim and the mode controller alone. -/
theorem GivesNothing.of_blocks {s t : State} (meter : t.meter = s.meter) (orders : t.rate.orders = s.rate.orders)
    (claim : t.plans.claim = s.plans.claim) : GivesNothing s t where
  order _ := by rw [orders]; exact id
  request _ := by rw [meter]; exact id
  claim c h := ⟨c, by rwa [← claim], rfl⟩
  owner h e := ⟨h, by rwa [← meter], rfl⟩
  manual := by simp [State.mode, meter]
  hold := by simp [HoldsInHold, State.mode, meter]

theorem givesNothing_of_keeps {s t : State} (h : KeepsHolders s t) : GivesNothing s t where
  order l := by rw [h.orders]; exact id
  request l := by rw [h.requests]; exact id
  claim c hc := ⟨c, by rwa [← h.claim], rfl⟩
  owner r hr := by
    obtain ho | ho := h.owner
    · simp [ho] at hr
    · exact ⟨r, by rwa [← ho], rfl⟩
  manual := h.manual
  hold := h.hold

theorem EmptyHanded.of_givesNothing {l : LinkId} {s t : State} (h : GivesNothing s t) (e : EmptyHanded l s) :
    EmptyHanded l t where
  order := h.order l e.order
  request := h.request l e.request
  claim c hc := by
    obtain ⟨c', hc', eq⟩ := h.claim c hc
    exact eq ▸ e.claim c' hc'
  owner r hr := by
    obtain ⟨r', hr', eq⟩ := h.owner r hr
    exact eq ▸ e.owner r' hr'
  manual hl hm := e.manual hl (h.manual hm)

/-- An operation that gives nothing and makes no link leave PRESENT keeps the invariant. -/
theorem linkInv_of_givesNothing {s t : State} (h : GivesNothing s t)
    (states : ∀ l, (t.link l).state ≠ .present → (s.link l).state ≠ .present) (inv : LinkInv s) : LinkInv t := by
  obtain ⟨hold, empty⟩ := (linkInv_iff s).mp inv
  exact (linkInv_iff t).mpr ⟨h.hold hold, fun l hl => (empty l (states l hl)).of_givesNothing h⟩

theorem linkInv_of_keeps {s t : State} (h : KeepsHolders s t) (inv : LinkInv s) : LinkInv t :=
  linkInv_of_givesNothing (givesNothing_of_keeps h) (fun l => by rw [h.links l]; exact id) inv

/-- An operation on the blocks that keeps their standing state, and keeps or raises each link to PRESENT. -/
theorem linkInv_of_blocks {s t : State} (meter : t.meter = s.meter) (rate : t.rate = s.rate) (plans : t.plans = s.plans)
    (states : ∀ l, (t.link l).state ≠ .present → (s.link l).state ≠ .present) (inv : LinkInv s) : LinkInv t := by
  exact linkInv_of_givesNothing (.of_blocks meter (by rw [rate]) (by rw [plans])) states inv

/-! ### A link that becomes ABSENT (R150) -/

theorem removeOrder_orders (l m : LinkId) (kind : EventKind) (s : State) :
    (removeOrder l kind s).rate.orders.get m = if m = l then none else s.rate.orders.get m := by
  unfold removeOrder
  split
  · simp [putOrder]
  · next h =>
    split
    · next e => exact e ▸ h
    · rfl

theorem removeOrder_gives (l : LinkId) (kind : EventKind) (s : State) : GivesNothing s (removeOrder l kind s) := by
  have meter : (removeOrder l kind s).meter = s.meter := by simp
  refine ⟨fun m h => by rw [removeOrder_orders]; split <;> simp [h], fun _ => by rw [meter]; exact id,
    fun c h => ⟨c, by simpa using h, rfl⟩, fun h e => ⟨h, by rwa [← meter], rfl⟩, ?_, ?_⟩
  · simp [State.mode]
  · simp [HoldsInHold, State.mode]

theorem keeps_withdrawHold (l : LinkId) (s : State) : KeepsHolders s (withdrawHold l s) := by
  unfold withdrawHold
  split
  · exact .ite (fun _ => keeps_endHold _ _ s) fun _ => .refl s
  · exact .refl s

theorem withdrawHold_owner (l : LinkId) {s : State} (hh : HoldsInHold s) :
    ∀ h, (withdrawHold l s).meter.hold = some h → h.owner ≠ l := by
  intro h
  unfold withdrawHold
  split
  · next g hg =>
    have hm : s.mode = .hold := hh.mp (by simp [hg])
    split
    · simp [endHold, hg, hm, leaveHold_meter]
    · intro e
      rw [hg, Option.some.injEq] at e
      exact e ▸ by assumption
  · next hn => simp [hn]

theorem keeps_withdrawManual (l : LinkId) (s : State) : KeepsHolders s (withdrawManual l s) :=
  .ite (fun _ => keeps_endManual _ s) fun _ => .refl s

theorem enterDark_mode (cause : ModeCause) (s : State) : (enterDark cause s).mode = .dark := by
  simp [State.mode, enterDark_meter]

theorem judgeStart_mode {s : State} (h : s.mode = .dark) : (judgeStart s).mode = .dark ∨ (judgeStart s).mode = .startup := by
  unfold judgeStart tryStart
  split
  · split
    · exact .inr (by simp [State.mode, startMeter_meter])
    · exact .inl h
  · exact .inl h

theorem endManual_mode (cause : ModeCause) (s : State) :
    (endManual cause s).mode = .dark ∨ (endManual cause s).mode = .startup := by
  unfold endManual enterDarkJudged
  exact judgeStart_mode (enterDark_mode _ _)

theorem withdrawManual_mode (l : LinkId) (s : State) : l = .L → (withdrawManual l s).mode ≠ .manual := by
  rintro rfl
  unfold withdrawManual
  split
  · obtain h | h := endManual_mode .manualWithdrawn s <;> rw [h] <;> simp
  · next h => exact fun hm => h ⟨rfl, hm⟩

theorem releaseClaim_claim (l : LinkId) (s : State) :
    (releaseClaim l s).plans.claim = none ∧ (∃ c, s.plans.claim = some c ∧ c.holder = l) ∨
      (releaseClaim l s).plans.claim = s.plans.claim ∧ ∀ c, s.plans.claim = some c → c.holder ≠ l := by
  unfold releaseClaim
  split
  · next c hc =>
    split
    · next hl => exact .inl ⟨rfl, c, hc, hl⟩
    · next hl => exact .inr ⟨rfl, fun c' hc' => by rw [hc, Option.some.injEq] at hc'; exact hc' ▸ hl⟩
  · next hn => exact .inr ⟨rfl, by simp [hn]⟩

theorem releaseClaim_gives (l : LinkId) (s : State) : GivesNothing s (releaseClaim l s) := by
  refine ⟨by simp, by simp, fun c hc => ?_, fun h e => ⟨h, by simpa using e, rfl⟩, by simp [State.mode],
    by simp [HoldsInHold, State.mode]⟩
  obtain ⟨hn, -⟩ | ⟨he, -⟩ := releaseClaim_claim l s
  · simp [hn] at hc
  · exact ⟨c, by rwa [← he], rfl⟩

theorem releaseClaim_holder (l : LinkId) (s : State) : ∀ c, (releaseClaim l s).plans.claim = some c → c.holder ≠ l := by
  obtain ⟨hn, -⟩ | ⟨he, hc⟩ := releaseClaim_claim l s
  · simp [hn]
  · rwa [he]

theorem withdrawRequest_gives (l : LinkId) (s : State) : GivesNothing s (putRequest l .none s) := by
  refine ⟨fun _ => id, fun m h => ?_, fun c h => ⟨c, h, rfl⟩, fun h e => ⟨h, e, rfl⟩, id, id⟩
  simp only [putRequest, PerLink.get_set]
  split
  · rfl
  · exact h

/-- The steps of R150 after LINK_ABSENT, in their order, up to the forming of the resolved request. -/
def standingWithdrawn (l : LinkId) (s : State) : State :=
  putRequest l .none (releaseClaim l (withdrawManual l (withdrawHold l (removeOrder l .orderWithdrawn s))))

/-- The link marked ABSENT, with its event. -/
def markedAbsent (l : LinkId) (s : State) : State :=
  (s.setLink l { s.link l with state := .absent }).post .linkAbsent (linkNumber l) 0

theorem becomeAbsent_eq (l : LinkId) (s : State) : becomeAbsent l s = resolve (standingWithdrawn l (markedAbsent l s)) := rfl

theorem standingWithdrawn_gives (l : LinkId) (s : State) : GivesNothing s (standingWithdrawn l s) :=
  ((((removeOrder_gives l _ s).trans (givesNothing_of_keeps (keeps_withdrawHold l _))).trans
    (givesNothing_of_keeps (keeps_withdrawManual l _))).trans (releaseClaim_gives l _)).trans (withdrawRequest_gives l _)

/-- What R150 withdraws leaves the link empty-handed. -/
theorem standingWithdrawn_empty (l : LinkId) {s : State} (hh : HoldsInHold s) : EmptyHanded l (standingWithdrawn l s) where
  order := by
    show (releaseClaim l _).rate.orders.get l = none
    rw [(releaseClaim_frame l _).2.2.2.2.1, (keeps_withdrawManual l _).orders, (keeps_withdrawHold l _).orders,
      removeOrder_orders, if_pos rfl]
  request := by simp [standingWithdrawn, putRequest]
  claim := releaseClaim_holder l _
  owner h hh' := by
    have hold := (removeOrder_gives l .orderWithdrawn s).hold hh
    have after := withdrawHold_owner l hold
    rw [show (standingWithdrawn l s).meter.hold = (withdrawManual l (withdrawHold l (removeOrder l .orderWithdrawn s))).meter.hold
      by simp [standingWithdrawn, putRequest]] at hh'
    obtain e | e := (keeps_withdrawManual l (withdrawHold l (removeOrder l .orderWithdrawn s))).owner
    · simp [e] at hh'
    · exact after h (by rwa [← e])
  manual hl := by
    rw [show (standingWithdrawn l s).mode = (withdrawManual l (withdrawHold l (removeOrder l .orderWithdrawn s))).mode
      by simp [standingWithdrawn, putRequest, State.mode]]
    exact withdrawManual_mode l _ hl

theorem markedAbsent_gives (l : LinkId) (s : State) : GivesNothing s (markedAbsent l s) :=
  .of_blocks (by simp [markedAbsent]) (by simp [markedAbsent]) (by simp [markedAbsent])

theorem becomeAbsent_gives (l : LinkId) (s : State) : GivesNothing s (becomeAbsent l s) := by
  rw [becomeAbsent_eq]
  exact ((markedAbsent_gives l s).trans (standingWithdrawn_gives l _)).trans (givesNothing_of_keeps (keeps_resolve _))

theorem becomeAbsent_empty (l : LinkId) {s : State} (hh : HoldsInHold s) : EmptyHanded l (becomeAbsent l s) := by
  rw [becomeAbsent_eq]
  exact (standingWithdrawn_empty l ((markedAbsent_gives l s).hold hh)).of_givesNothing (givesNothing_of_keeps (keeps_resolve _))

/-- Of the link states, a link that becomes ABSENT changes its own alone. -/
theorem becomeAbsent_link (l m : LinkId) (s : State) :
    (becomeAbsent l s).link m = if m = l then { s.link l with state := .absent } else s.link m := by
  have links : (becomeAbsent l s).links = (s.setLink l { s.link l with state := .absent }).links := by
    simp [becomeAbsent_eq, standingWithdrawn, markedAbsent]
  rw [State.link, links, ← State.link, link_setLink]

theorem linkInv_becomeAbsent (l : LinkId) {s : State} (inv : LinkInv s) : LinkInv (becomeAbsent l s) := by
  obtain ⟨hold, empty⟩ := (linkInv_iff s).mp inv
  refine (linkInv_iff _).mpr ⟨(becomeAbsent_gives l s).hold hold, fun m hm => ?_⟩
  rw [becomeAbsent_link] at hm
  by_cases e : m = l
  · exact e ▸ becomeAbsent_empty l hold
  · rw [if_neg e] at hm
    exact (empty m hm).of_givesNothing (becomeAbsent_gives l s)

/-! ### Frames -/

theorem linkInv_violate (l : LinkId) (code : Nat) {s : State} (inv : LinkInv s) : LinkInv (violate l code s) := by
  have counted : LinkInv ((s.setLink l { s.link l with violations := (s.link l).violations + 1, window := 0 }).post
      .supervisionViolation (linkNumber l) (twoBytes code ((s.link l).violations + 1))) := by
    refine linkInv_of_blocks (by simp) (by simp) (by simp) (fun m => ?_) inv
    by_cases e : m = l <;> simp [State.link, State.setLink, e]
  unfold violate
  dsimp only
  split
  · exact linkInv_becomeAbsent l counted
  · exact counted

theorem linkInv_setLink (l : LinkId) (x : LinkInterface) {s : State} (inv : LinkInv s)
    (hx : x.state = .present ∨ x.state = (s.link l).state) : LinkInv (s.setLink l x) := by
  refine linkInv_of_blocks (by simp) (by simp) (by simp) (fun m hm => ?_) inv
  rw [link_setLink] at hm
  by_cases e : m = l
  · subst e
    rw [if_pos rfl] at hm
    obtain h | h := hx
    · exact absurd h hm
    · exact h ▸ hm
  · rwa [if_neg e] at hm

theorem linkInv_becomePresent (l : LinkId) (left : Nat) {s : State} (inv : LinkInv s) : LinkInv (becomePresent l left s) :=
  linkInv_of_keeps (keeps_post _ _ _ _) (linkInv_setLink l _ inv (.inl rfl))

theorem linkInv_takeFrame (l : LinkId) (ka : Bool) {s : State} (inv : LinkInv s) : LinkInv (takeFrame l ka s) := by
  unfold takeFrame
  dsimp only
  split
  · exact linkInv_becomePresent l 1 inv
  · split
    · exact linkInv_becomePresent l 2 inv
    · exact inv
  · split
    · split
      · exact linkInv_violate l 1 inv
      · exact linkInv_setLink l _ inv (.inr rfl)
    · exact inv

/-! ### The owners of the requests -/

/-- An operation of a PRESENT link that gives standing state to that link alone. -/
theorem linkInv_of_present {l : LinkId} {s t : State} (hp : present s l = true) (links : ∀ m, (t.link m).state = (s.link m).state)
    (hold : HoldsInHold s → HoldsInHold t) (others : ∀ m, m ≠ l → EmptyHanded m s → EmptyHanded m t) (inv : LinkInv s) :
    LinkInv t := by
  obtain ⟨hh, empty⟩ := (linkInv_iff s).mp inv
  refine (linkInv_iff t).mpr ⟨hold hh, fun m hm => ?_⟩
  rw [links] at hm
  have ne : m ≠ l := by rintro rfl; exact hm (by simpa [present] using hp)
  exact others m ne (empty m hm)

theorem linkInv_putClaim_none {s : State} (inv : LinkInv s) : LinkInv (s.putClaim none) :=
  linkInv_of_givesNothing (s := s) (t := s.putClaim none)
    ⟨fun _ => id, fun _ => id, by simp [State.putClaim], fun h e => ⟨h, e, rfl⟩, id, id⟩ (fun _ => id) inv

theorem restartClaim_gives {c : Claim} {s : State} (hc : s.plans.claim = some c) : GivesNothing s (restartClaim c s) :=
  ⟨fun _ => id, fun _ => id, fun c' hc' => ⟨c, hc, by simp [restartClaim, State.putClaim] at hc'; rw [← hc']⟩,
    fun h e => ⟨h, e, rfl⟩, id, id⟩

theorem linkInv_openPlan (l : LinkId) (k : Fin 8) {s : State} (inv : LinkInv s) (hp : present s l = true) :
    LinkInv (openPlan l k s).state := by
  refine linkInv_of_present hp (fun _ => rfl) id (fun m ne e => ⟨e.order, e.request, fun c hc => ?_, e.owner, e.manual⟩) inv
  simp only [openPlan, accept_state, State.putClaim, Option.some.injEq] at hc
  exact hc ▸ ne.symm

theorem keeps_putBuffer (b : List Byte) (s : State) : KeepsHolders s (s.putBuffer b) := .of_meter rfl rfl rfl rfl

theorem keeps_putPending (k : Option (Fin 8)) (s : State) : KeepsHolders s (s.putPending k) := .of_meter rfl rfl rfl rfl

theorem linkInv_planData (p : List Byte) {c : Claim} {s : State} (inv : LinkInv s) (hc : s.plans.claim = some c) :
    LinkInv (planData p c s).state := by
  have restarted := linkInv_of_givesNothing (restartClaim_gives hc) (fun _ => id) inv
  unfold planData
  dsimp only
  split
  · exact restarted
  · exact linkInv_of_keeps (keeps_putBuffer _ _) restarted

theorem linkInv_commit {c : Claim} {s : State} (inv : LinkInv s) (hc : s.plans.claim = some c) :
    LinkInv (commitChecked c s).state := by
  have restarted := linkInv_of_givesNothing (restartClaim_gives hc) (fun _ => id) inv
  unfold commitChecked
  split
  · exact restarted
  · split
    · exact restarted
    · have stored : KeepsHolders s ((s.putBuffer (stamped s c)).putSlot c.target { status := .valid, image := stamped s c }) :=
        .of_meter rfl rfl rfl rfl
      have released := linkInv_putClaim_none (linkInv_of_keeps stored inv)
      unfold commitPlan
      dsimp only [accept_state]
      split
      · exact linkInv_of_keeps (keeps_putPending _ _) released
      · exact released

theorem linkInv_requestMetering (l : LinkId) (a : Activation) {s : State} (inv : LinkInv s) (hp : present s l = true) :
    LinkInv (requestMetering l a s).state := by
  refine linkInv_of_keeps (keeps_resolve _) (linkInv_of_present (t := putRequest l a s) hp (fun _ => rfl) id (fun m ne e => ?_) inv)
  exact ⟨e.order, by simpa [putRequest, ne] using e.request, e.claim, e.owner, e.manual⟩

theorem linkInv_putOrder (l : LinkId) (o : Option RateOrder) {s : State} (inv : LinkInv s) (hp : present s l = true) :
    LinkInv (putOrder l o s) :=
  linkInv_of_present (t := putOrder l o s) hp (fun _ => rfl) id
    (fun m ne e => ⟨by simpa [putOrder, ne] using e.order, e.request, e.claim, e.owner, e.manual⟩) inv

theorem putOrder_none_gives (l : LinkId) (s : State) : GivesNothing s (putOrder l none s) :=
  ⟨fun m h => by simp [putOrder, h], fun _ => id, fun c h => ⟨c, h, rfl⟩, fun h e => ⟨h, e, rfl⟩, id, id⟩

theorem linkInv_cancelOrder (l : LinkId) {s : State} (inv : LinkInv s) : LinkInv (cancelOrder l s).state := by
  unfold cancelOrder
  split
  · exact linkInv_of_keeps (keeps_recombine _) (linkInv_of_givesNothing (putOrder_none_gives l s) (fun _ => id) inv)
  · exact inv

theorem linkInv_hold (l : LinkId) {s : State} (inv : LinkInv s) (hp : present s l = true) : LinkInv (holdChecked l s).state := by
  have meter : (enterHold l s).meter = { s.meter with mode := .hold, hold := some ⟨l, s.limits.holdMax * 100⟩ } := by
    simp [enterHold, State.putHold]
  unfold holdChecked
  split
  · exact inv
  · split
    · exact inv
    · split
      · exact inv
      · refine linkInv_of_present (t := enterHold l s) hp (fun m => by simp [State.link]) ?_ (fun m ne e => ?_) inv
        · simp [HoldsInHold, State.mode, meter]
        · refine ⟨by simpa using e.order, by rw [meter]; exact e.request, by simpa using e.claim, fun h hh => ?_, by simp [State.mode, meter]⟩
          rw [meter, Option.some.injEq] at hh
          exact hh ▸ ne.symm

/-- Of the mode controller, an operation changes the pending aspects alone. -/
def AspectsAlone (s t : State) : Prop := t.meter = { s.meter with aspects := t.meter.aspects }

theorem AspectsAlone.refl (s : State) : AspectsAlone s s := rfl

theorem AspectsAlone.trans {s t u : State} (h : AspectsAlone s t) (g : AspectsAlone t u) : AspectsAlone s u := by
  unfold AspectsAlone at *
  rw [g, h]

theorem AspectsAlone.of_meter {s t : State} (h : t.meter = s.meter) : AspectsAlone s t := by
  unfold AspectsAlone
  rw [h]

theorem aspectsAlone_setAspectOf (i : Fin 3) (a : Option Aspect) (s : State) : AspectsAlone s (s.setAspectOf i a) := rfl

theorem aspectsAlone_workOnce (i : Fin 3) (s : State) : AspectsAlone s (workOnce i s) := by
  unfold workOnce
  split
  · exact .refl s
  · split
    · exact .of_meter (by simp)
    · exact .of_meter (by simp)
    · exact .of_meter (by simp)
    · exact aspectsAlone_setAspectOf i none s
    · exact .refl s

theorem aspectsAlone_workLane (i : Fin 3) (s : State) : AspectsAlone s (workLane i s) := by
  unfold workLane
  dsimp only
  split
  · exact aspectsAlone_workOnce i s
  · exact (aspectsAlone_workOnce i s).trans (aspectsAlone_workOnce i _)

theorem aspectsAlone_takeManual (i : Fin 3) (s : State) : AspectsAlone s (takeManual i s) := by
  unfold takeManual
  split
  · exact .refl s
  · exact ((AspectsAlone.of_meter (by simp)).trans (aspectsAlone_setAspectOf i _ (withdrawRest i s))).trans
      (aspectsAlone_workLane i _)

theorem aspectsAlone_orderEach {f : Fin 3 → State → State} (h : ∀ i s, AspectsAlone s (f i s)) (l : List (Fin 3)) (s : State) :
    AspectsAlone s (orderEach f l s) := by
  induction l generalizing s with
  | nil => exact .refl s
  | cons i l ih => exact (h i s).trans (ih _)

theorem enterManual_meter (s : State) :
    (enterManual s).meter = { s.meter with mode := .manual, phase := .idle, seqTimer := 0, hold := none,
                                           aspects := (enterManual s).meter.aspects } := by
  have taken := aspectsAlone_orderEach aspectsAlone_takeManual allLanes
    (leaveReleases (((changeMode .manual .manualEntered s).putPhase .idle 0).putHold none))
  unfold enterManual
  dsimp only
  rw [taken]
  simp [State.putHold, State.putPhase]

@[simp] theorem takeManual_rate (i : Fin 3) (s : State) : (takeManual i s).rate = s.rate := by simp

theorem enterManual_orders (s : State) : (enterManual s).rate.orders = s.rate.orders := by
  unfold enterManual
  dsimp only
  rw [orderEach_rate takeManual takeManual_rate]
  simp

theorem linkInv_enterManual {l : LinkId} {s : State} (inv : LinkInv s) (hl : l = .L) (hp : present s l = true) :
    LinkInv (enterManualChecked s).state := by
  have entered : LinkInv (enterManual s) := by
    have hold : (enterManual s).meter.hold = none := by rw [enterManual_meter]
    have mode : (enterManual s).mode = .manual := by rw [State.mode, enterManual_meter]
    have requests : (enterManual s).meter.requests = s.meter.requests := by rw [enterManual_meter]
    refine linkInv_of_present (t := enterManual s) hp (fun m => by simp [State.link]) ?_ (fun m ne e => ?_) inv
    · simp [HoldsInHold, hold, mode]
    · exact ⟨(enterManual_orders s).symm ▸ e.order, requests.symm ▸ e.request, by simpa using e.claim, by simp [hold],
        fun hm => absurd (hm.trans hl.symm) ne⟩
  unfold enterManualChecked
  split
  · exact inv
  · split
    · exact inv
    · exact accept_keeps _ entered

/-! ### Resets and time -/

/-- A state with no standing state at all, in a mode that is neither HOLD nor MANUAL. -/
theorem linkInv_of_nothing {s : State} (orders : s.rate.orders = ⟨none, none⟩) (requests : s.meter.requests = ⟨.none, .none⟩)
    (claim : s.plans.claim = none) (hold : s.meter.hold = none) (mode : s.mode = .dark) : LinkInv s := by
  refine (linkInv_iff s).mpr ⟨by simp [HoldsInHold, hold, mode], fun l _ => ⟨?_, ?_, by simp [claim], by simp [hold], by simp [mode]⟩⟩
  · rw [orders]; cases l <;> rfl
  · rw [requests]; cases l <;> rfl

theorem keeps_showRaw (s : State) : KeepsHolders s (showRaw s) := by
  unfold showRaw
  exact keeps_foldl (fun t d => .ite (fun _ => keeps_risingEdge d t) fun _ => .refl t) _ _

theorem keeps_showUnfiltered (s : State) : KeepsHolders s (showUnfiltered s) := by
  unfold showUnfiltered
  exact keeps_foldl (fun t d => .ite (fun _ => keeps_risingEdge d t) fun _ => .refl t) _ _

theorem linkInv_softReset (s : State) : LinkInv (softReset s).state := by
  have base : LinkInv (softResetBase s) := linkInv_of_nothing rfl rfl rfl rfl rfl
  unfold softReset
  exact accept_keeps _ (linkInv_of_keeps (keeps_showUnfiltered _) base)

theorem linkInv_tick {s : State} (inv : LinkInv s) : LinkInv (tick s) := by
  refine linkInv_of_givesNothing (s := s) (t := tick s)
    ⟨fun l h => by simp [h], fun _ => id, fun c hc => ?_, fun h hh => ?_, id, ?_⟩ (fun l => ?_) inv
  · simp only [tick, Option.map_eq_some_iff] at hc
    obtain ⟨c', hc', rfl⟩ := hc
    exact ⟨c', hc', rfl⟩
  · simp only [tick, Option.map_eq_some_iff] at hh
    obtain ⟨h', hh', rfl⟩ := hh
    exact ⟨h', hh', rfl⟩
  · simp [HoldsInHold, tick, State.mode]
  · rw [tick_link, LinkInterface.tick]
    split <;> simp

/-! ### Every step -/

theorem linkInv_owners : KeptByOwners LinkInv where
  configureLink l p s inv _ := linkInv_of_blocks (by simp) (by simp) (by simp) (fun m => by
    by_cases e : m = l <;> simp [configureLink, configured, State.link, State.setLink, e]) inv
  readEvents l n s inv _ := linkInv_of_keeps (keeps_lanes (by simp) (by simp) (by simp) (by simp)) inv
  readRecord l s inv := linkInv_of_keeps (keeps_lanes (by simp) (by simp) (by simp) (by simp)) inv
  flushEvents l s inv := linkInv_of_keeps (keeps_lanes (by simp) (by simp) (by simp) (by simp)) inv
  flushRecords l s inv := linkInv_of_keeps (keeps_lanes (by simp) (by simp) (by simp) (by simp)) inv
  openPlan l k s inv hp := linkInv_openPlan l k inv hp
  planData p c s inv hc := linkInv_planData p inv hc
  commitPlan c s inv hc := linkInv_commit inv hc
  abortPlan s inv := linkInv_putClaim_none inv
  selectPlan k s inv := linkInv_of_keeps (keeps_selectChecked k s) inv
  requestMetering l a s inv hp := linkInv_requestMetering l a inv hp
  rateOrder l p s inv hp := linkInv_of_keeps (keeps_recombine _) (linkInv_putOrder l _ inv hp)
  cancelOrder l s inv := linkInv_cancelOrder l inv
  hold l s inv hp := linkInv_hold l inv hp
  resume l s inv := by
    unfold resumeChecked
    split
    · exact inv
    · split
      · exact linkInv_of_keeps (keeps_leaveHold _ s) inv
      · exact inv
  clearLane i s inv := by
    unfold clearLaneChecked
    split
    · exact inv
    · split
      · exact linkInv_of_keeps (keeps_clearLaneFault i s) inv
      · exact inv
  intervalMark n s inv := by
    unfold intervalMark
    split
    · exact linkInv_of_keeps (keeps_post s _ _ _) inv
    · exact linkInv_of_keeps (keeps_closeInterval _ _ s) inv
  writeLimits p s inv _ _ := linkInv_of_keeps (keeps_writeLimits p s) inv
  lockLimits s inv _ := linkInv_of_keeps (keeps_lockLimits s) inv
  writeMap p s inv _ := linkInv_of_keeps (keeps_writeMap p s) inv
  enterManual l s inv hl hp := linkInv_enterManual inv hl hp
  setAspect i a s inv := by
    unfold setAspectChecked
    split
    · exact inv
    · split
      · exact inv
      · exact linkInv_of_keeps ((keeps_setAspectOf i _ s).trans (keeps_workLane i _)) inv
  setBeacon on s inv _ := linkInv_of_keeps (keeps_commandBeacon on s) inv
  exitManual s inv _ := linkInv_of_keeps (keeps_endManual _ s) inv
  clearMeter s inv := by
    unfold clearMeterChecked
    split
    · exact inv
    · split
      · exact inv
      · exact accept_keeps _ (linkInv_of_keeps ((keeps_post s _ _ _).trans (keeps_enterDarkJudged _ _)) inv)
  softReset s _ := linkInv_softReset s

theorem linkInv_event (c : Instr) {s : State} (inv : LinkInv s) : LinkInv (eventEffect c s) := by
  have same : ∀ {t : State}, KeepsHolders s t → LinkInv t := fun k => linkInv_of_keeps k inv
  have lane : ∀ {t : State}, t.meter = s.meter → t.rate = s.rate → t.plans = s.plans → t.links = s.links → LinkInv t :=
    fun m r p l => same (keeps_lanes m r p l)
  cases c <;> dsimp only [eventEffect]
  case powerOn => exact linkInv_of_keeps (keeps_showRaw (hardResetBase 1 s)) (linkInv_of_nothing rfl rfl rfl rfl rfl)
  case resetLine => exact linkInv_of_keeps (keeps_showRaw (keepSlots s (hardResetBase 2 s))) (linkInv_of_nothing rfl rfl rfl rfl rfl)
  case chipSelectAsserted l => exact linkInv_setLink l _ inv (.inr rfl)
  case badFrame l bytes =>
    have ended := linkInv_setLink l { s.link l with transaction := .idle } inv (.inr rfl)
    split
    · exact ended
    · exact linkInv_setLink l _ ended (.inr rfl)
  case detectorRawChange d v => exact same (keeps_rawChange d v s)
  case filterTimerExpiry d => exact same (keeps_filterExpiry d s)
  case stuckTimerExpiry d => exact same (keeps_stuckExpiry d s)
  case intervalTimedExpiry => exact same (keeps_closeTimed s)
  case freeRunExpiry => exact same (keeps_closeFreeRun s)
  case recordPlaced => exact same (keeps_placeWaiting s)
  case spillOn => exact same (keeps_judgeSpillOn true s)
  case spillOff => exact same (keeps_judgeSpillOff true s)
  case orderExpired l =>
    split
    · exact linkInv_of_givesNothing (removeOrder_gives l _ s) (fun m => by simp [State.link]) inv
    · exact inv
  case holdExpired => exact same (.ite (fun _ => keeps_endHold _ _ s) fun _ => .refl s)
  case greenTimerExpiry i =>
    refine same (.ite (fun _ => .trans (t := endGreen i s) ?_ (keeps_afterLaneChange i _)) fun _ => .refl s)
    exact keeps_lanes (by simp) (by simp) (by simp) (by simp)
  case amberTimerExpiry i =>
    refine same (.ite (fun _ => .trans (.trans (t := endAmber i s) ?_ (keeps_afterLaneChange i _)) (keeps_judgeWish _)) fun _ => .refl s)
    exact keeps_lanes (by simp) (by simp) (by simp) (by simp)
  case redTimerExpiry i =>
    refine same (.ite (fun _ => .trans (.trans (t := endRed i s) ?_ (keeps_afterLaneChange i _)) (keeps_takePending _)) fun _ => .refl s)
    exact keeps_lanes (by simp) (by simp) (by simp) (by simp)
  case headwayExpiry => exact same (.ite (fun _ => keeps_releaseDue s) fun _ => .refl s)
  case graceExpiry i => exact lane (by simp) (by simp) (by simp) (by simp)
  case greenMinReached i => exact same (keeps_judgeHeld i s)
  case startupRestExpiry =>
    exact same (.ite (fun _ => (keeps_orderEach keeps_orderClear _ s).trans (keeps_putPhase _ _ _)) fun _ => .refl s)
  case shutdownRestExpiry =>
    exact same (.ite (fun _ => (keeps_orderEach keeps_orderCut _ s).trans (keeps_enterDarkJudged _ _)) fun _ => .refl s)
  case lampSenseChange k v => exact lane (by simp) (by simp) (by simp) (by simp)
  case blankingExpiry k => exact lane (by simp) (by simp) (by simp) (by simp)
  case deglitchExpiry k w => exact same (keeps_latch k w s)
  case proofExpiry k w => exact lane (by simp) (by simp) (by simp) (by simp)
  case stagingTimeout =>
    unfold stagingTimeout
    split
    · split
      · exact linkInv_of_keeps (keeps_post _ _ _ _) (linkInv_putClaim_none inv)
      · exact inv
    · exact inv
  case lateViolation l =>
    split
    · exact linkInv_violate l 2 inv
    · exact inv
  all_goals exact inv

theorem linkInv_parts : KeptByParts LinkInv where
  owners := linkInv_owners
  lines s inv := linkInv_of_blocks (by simp) (by simp) (by simp) (fun l => by cases l <;> exact id) inv
  reply l r s inv := linkInv_setLink l _ inv (.inr rfl)
  done l s inv := linkInv_setLink l _ inv (.inr rfl)
  frame l ka s inv := linkInv_takeFrame l ka inv
  resolve s inv := linkInv_of_keeps (keeps_resolve s) inv
  event c s _ inv := linkInv_event c inv

/-- Settles O7: every part of a frame, every owner of a request, every event and the passing of time keep the
invariant. -/
theorem everyStepKeepsAbsentLinksEmptyHanded : Obligations.EveryStepKeepsAbsentLinksEmptyHanded := by
  unfold Obligations.EveryStepKeepsAbsentLinksEmptyHanded
  intro s t inv run
  refine step_keeps (P := LinkInv) (fun s q n inv => ?_) (fun c s t inv run => linkInv_parts.exec inv run)
    (fun s inv => linkInv_tick inv) inv run
  exact linkInv_of_blocks (s := s) (t := { s with pending := q, choices := n }) rfl rfl rfl (fun _ => id) inv

end Sys2Proof.AbsentLinks
end

section
/-! What the lane orders make of a lane (R72), as functions of the lane alone, and what they do to the lamps: each order
works on its lane and hands over that lane's drives alone. -/

namespace Sys2Proof.LaneLaws
open Sys2Proof.Machine Sys2Proof.Steps Sys2Proof.Holders

/-! ### Elements that an operation on another block leaves as they are -/

section Elements
variable (s : State)

@[simp] theorem lane_post (k : EventKind) (a b : Nat) (j : Fin 3) : (s.post k a b).lane j = s.lane j := rfl
@[simp] theorem drive_post (k : EventKind) (a b : Nat) (j : Fin 10) : (s.post k a b).drive j = s.drive j := rfl
@[simp] theorem lane_changeMode (m : Mode) (c : ModeCause) (j : Fin 3) : (changeMode m c s).lane j = s.lane j := rfl
@[simp] theorem drive_changeMode (m : Mode) (c : ModeCause) (j : Fin 10) : (changeMode m c s).drive j = s.drive j := rfl
@[simp] theorem lane_putPhase (p : Phase) (n : Nat) (j : Fin 3) : (s.putPhase p n).lane j = s.lane j := rfl
@[simp] theorem drive_putPhase (p : Phase) (n : Nat) (j : Fin 10) : (s.putPhase p n).drive j = s.drive j := rfl
@[simp] theorem lane_putHold (h : Option HoldRecord) (j : Fin 3) : (s.putHold h).lane j = s.lane j := rfl
@[simp] theorem drive_putHold (h : Option HoldRecord) (j : Fin 10) : (s.putHold h).drive j = s.drive j := rfl
@[simp] theorem lane_clearAspects (j : Fin 3) : (clearAspects s).lane j = s.lane j := rfl
@[simp] theorem drive_clearAspects (j : Fin 10) : (clearAspects s).drive j = s.drive j := rfl
@[simp] theorem lane_leaveReleases (j : Fin 3) : (leaveReleases s).lane j = s.lane j := rfl
@[simp] theorem drive_leaveReleases (j : Fin 10) : (leaveReleases s).drive j = s.drive j := rfl
@[simp] theorem lane_setRelease (r : List (Fin 3)) (n : Nat) (b : Bool) (j : Fin 3) : (s.setRelease r n b).lane j = s.lane j := rfl
@[simp] theorem drive_setRelease (r : List (Fin 3)) (n : Nat) (b : Bool) (j : Fin 10) : (s.setRelease r n b).drive j = s.drive j := rfl
@[simp] theorem lane_setHeadway (n : Nat) (j : Fin 3) : (s.setHeadway n).lane j = s.lane j := rfl
@[simp] theorem drive_setHeadway (n : Nat) (j : Fin 10) : (s.setHeadway n).drive j = s.drive j := rfl
@[simp] theorem lane_putRate (o : RateOut) (j : Fin 3) : (s.putRate o).lane j = s.lane j := rfl
@[simp] theorem drive_putRate (o : RateOut) (j : Fin 10) : (s.putRate o).drive j = s.drive j := rfl
@[simp] theorem lane_setAspectOf (i : Fin 3) (a : Option Aspect) (j : Fin 3) : (s.setAspectOf i a).lane j = s.lane j := rfl
@[simp] theorem drive_setAspectOf (i : Fin 3) (a : Option Aspect) (j : Fin 10) : (s.setAspectOf i a).drive j = s.drive j := rfl
@[simp] theorem lane_setInput (d : Fin 16) (x : Input) (j : Fin 3) : (s.setInput d x).lane j = s.lane j := rfl
@[simp] theorem drive_setInput (d : Fin 16) (x : Input) (j : Fin 10) : (s.setInput d x).drive j = s.drive j := rfl
@[simp] theorem lane_setDfeLane (i : Fin 3) (x : DfeLane) (j : Fin 3) : (s.setDfeLane i x).lane j = s.lane j := rfl
@[simp] theorem drive_setDfeLane (i : Fin 3) (x : DfeLane) (j : Fin 10) : (s.setDfeLane i x).drive j = s.drive j := rfl
@[simp] theorem lane_setLink (l : LinkId) (x : LinkInterface) (j : Fin 3) : (s.setLink l x).lane j = s.lane j := rfl
@[simp] theorem drive_setLink (l : LinkId) (x : LinkInterface) (j : Fin 10) : (s.setLink l x).drive j = s.drive j := rfl
@[simp] theorem lane_judgeLines (j : Fin 3) : (s.judgeLines).lane j = s.lane j := rfl
@[simp] theorem drive_judgeLines (j : Fin 10) : (s.judgeLines).drive j = s.drive j := rfl
@[simp] theorem lane_commandBeacon (on : Bool) (j : Fin 3) : (commandBeacon on s).lane j = s.lane j := rfl
@[simp] theorem lane_setDrive (k : Fin 10) (x : Drive) (j : Fin 3) : (s.setDrive k x).lane j = s.lane j := rfl
@[simp] theorem drive_setLane (i : Fin 3) (x : Lane) (j : Fin 10) : (s.setLane i x).drive j = s.drive j := rfl

@[simp] theorem drive_commandBeacon_lane (on : Bool) (j : Fin 3) (c : Colour) :
    (commandBeacon on s).drive (driveOf j c) = s.drive (driveOf j c) := by
  rw [commandBeacon, drive_handDrive, if_neg (driveOf_ne_beacon j c)]
  rfl

@[simp] theorem drive_commandBeacon (on : Bool) :
    (commandBeacon on s).drive beaconDrive = (s.drive beaconDrive).command s.limits (driverOutput s on) := by
  rw [commandBeacon, drive_handDrive, if_pos rfl]
  rfl

end Elements

/-! ### The orders as functions of the lane -/

/-- A lane after the rest order. -/
def restLane (x : Lane) : Lane :=
  match x.state with
  | .off | .red | .ready => x.toRestGreen
  | .green | .amber => { x with held := none, restAwaits := true }
  | .restGreen => { x with held := none }
  | .faulted => x

/-- A lane after the clear order, with the green_min, the amber and the red that apply, in cs. -/
def clearLane (greenMin amber red : Nat) (x : Lane) : Lane :=
  match x.state with
  | .restGreen | .green => if x.age < greenMin then { x with held := some .clear } else x.toAmber amber false
  | .off => x.toRed red
  | .amber | .red | .ready | .faulted => x

/-- A lane after the stop order. -/
def stopLane (greenMin amber : Nat) (x : Lane) : Lane :=
  match x.state with
  | .restGreen | .green => if x.age < greenMin then { x with held := some .stop } else x.toAmber amber true
  | .amber => { x with toOff := true }
  | .red | .ready | .off => x.toOFF
  | .faulted => x

/-- A lane after the go order. -/
def goLane (x : Lane) : Lane :=
  match x.state with
  | .ready => x.toGreen none
  | .faulted => x
  | .off | .restGreen | .green | .amber | .red => { x with held := none }

/-- A lane after the cut order. -/
def cutLane (x : Lane) : Lane :=
  match x.state with
  | .faulted => x
  | .off | .restGreen | .green | .amber | .red | .ready => x.toOFF

/-- An operation that replaces one lane by a function of it, hands over that lane's drives or leaves all drives alone, and
touches nothing else. -/
def ActsOnLane (i : Fin 3) (x : Lane) (s t : State) : Prop :=
  t = enterLane i x s ∨ (x.state = (s.lane i).state ∧ t = s.setLane i x)

theorem setLane_same (i : Fin 3) (s : State) : s.setLane i (s.lane i) = s := by
  have : s.sched.lanes.set i (s.sched.lanes[i]) = s.sched.lanes := by simp
  show { s with sched := { s.sched with lanes := s.sched.lanes.set i (s.sched.lanes[i]) } } = s
  rw [this]

theorem ActsOnLane.same (i : Fin 3) (s : State) : ActsOnLane i (s.lane i) s s :=
  .inr ⟨rfl, (setLane_same i s).symm⟩

theorem actsOnLane_rest (i : Fin 3) (s : State) : ActsOnLane i (restLane (s.lane i)) s (orderRest i s) := by
  cases h : (s.lane i).state <;> simp only [restLane, orderRest, h]
  case off | red | ready => exact .inl rfl
  case green | amber | restGreen => exact .inr ⟨by simp [h], rfl⟩
  case faulted => exact .same i s

theorem actsOnLane_clear (i : Fin 3) (s : State) :
    ActsOnLane i (clearLane (s.limits.greenMin * 10) (amberTime s) (redTime s) (s.lane i)) s (orderClear i s) := by
  cases h : (s.lane i).state <;> simp only [clearLane, orderClear, h]
  case restGreen | green =>
    simp only [belowGreenMin, decide_eq_true_eq]
    split
    · exact .inr ⟨h.symm, rfl⟩
    · exact .inl rfl
  case off => exact .inl rfl
  case amber | red | ready | faulted => exact .same i s

theorem actsOnLane_stop (i : Fin 3) (s : State) :
    ActsOnLane i (stopLane (s.limits.greenMin * 10) (amberTime s) (s.lane i)) s (orderStop i s) := by
  cases h : (s.lane i).state <;> simp only [stopLane, orderStop, h]
  case restGreen | green =>
    simp only [belowGreenMin, decide_eq_true_eq]
    split
    · exact .inr ⟨h.symm, rfl⟩
    · exact .inl rfl
  case red | ready | off => exact .inl rfl
  case amber => exact .inr ⟨by simp [h], rfl⟩
  case faulted => exact .same i s

theorem actsOnLane_go (i : Fin 3) (s : State) : ActsOnLane i (goLane (s.lane i)) s (orderGo i s) := by
  cases h : (s.lane i).state <;> simp only [goLane, orderGo, h]
  case ready => exact .inl rfl
  case faulted => exact .same i s
  case off | restGreen | green | amber | red => exact .inr ⟨by simp [h], rfl⟩

theorem actsOnLane_cut (i : Fin 3) (s : State) : ActsOnLane i (cutLane (s.lane i)) s (orderCut i s) := by
  cases h : (s.lane i).state <;> simp only [cutLane, orderCut, h]
  case faulted => exact .same i s
  case off | restGreen | green | amber | red | ready => exact .inl rfl

/-! ### What an operation on one lane keeps -/

section Acts
variable {i : Fin 3} {x : Lane} {s t : State}

theorem ActsOnLane.lane (h : ActsOnLane i x s t) (j : Fin 3) : t.lane j = if j = i then x else s.lane j := by
  obtain rfl | ⟨-, rfl⟩ := h <;> simp

theorem ActsOnLane.frame (h : ActsOnLane i x s t) :
    t.meter = s.meter ∧ t.plans = s.plans ∧ t.limits = s.limits ∧ t.locked = s.locked ∧ t.rate = s.rate ∧
      t.links = s.links ∧ t.sched.ring = s.sched.ring := by
  obtain rfl | ⟨-, rfl⟩ := h
  · refine ⟨by simp, by simp, by simp, by simp, by simp, by simp, ?_⟩
    show (handLane i x.state (s.setLane i x)).sched.ring = s.sched.ring
    rw [(handLane_frame i x.state (s.setLane i x)).2.2.2.2.2.1]
    rfl
  · exact ⟨by simp, by simp, by simp, by simp, by simp, by simp, rfl⟩

theorem ActsOnLane.mode (h : ActsOnLane i x s t) : t.mode = s.mode := by
  rw [State.mode, h.frame.1, ← State.mode]

theorem ActsOnLane.beaconDrive (h : ActsOnLane i x s t) : t.drive beaconDrive = s.drive beaconDrive := by
  obtain rfl | ⟨-, rfl⟩ := h
  · simp
  · rfl

theorem ActsOnLane.otherDrive (h : ActsOnLane i x s t) {j : Fin 3} (hj : j ≠ i) (c : Colour) :
    t.drive (driveOf j c) = s.drive (driveOf j c) := by
  obtain rfl | ⟨-, rfl⟩ := h
  · rw [drive_enterLane, if_neg hj]
  · rfl

end Acts

/-! ### Orders given to several lanes -/

/-- What each order of a list keeps, the list of orders keeps. -/
theorem orderEach_keeps {P : State → Prop} {f : Fin 3 → State → State} {l : List (Fin 3)}
    (h : ∀ i ∈ l, ∀ s, P s → P (f i s)) {s : State} (hs : P s) : P (orderEach f l s) := by
  induction l generalizing s with
  | nil => exact hs
  | cons i l ih =>
    exact ih (fun j hj => h j (List.mem_cons_of_mem _ hj)) (h i List.mem_cons_self s hs)

theorem allLanes_nodup : allLanes.Nodup := by decide

theorem mem_allLanes (i : Fin 3) : i ∈ allLanes := by revert i; decide

theorem workingLanes_nodup (s : State) : (workingLanes s).Nodup := allLanes_nodup.filter _

theorem mem_workingLanes (s : State) (i : Fin 3) : i ∈ workingLanes s ↔ working s i = true := by
  simp [workingLanes, mem_allLanes]

/-- What orders given to different lanes make of each lane, where an order works on its lane by a function `g` of the
lane and of what no order changes, `E`. -/
theorem lane_orderEach {ε : Type} {f : Fin 3 → State → State} {E : State → ε} {g : ε → Lane → Lane}
    (hE : ∀ i s, E (f i s) = E s) (hf : ∀ i s j, (f i s).lane j = if j = i then g (E s) (s.lane i) else s.lane j)
    {l : List (Fin 3)} (nodup : l.Nodup) (s : State) (j : Fin 3) :
    (orderEach f l s).lane j = if j ∈ l then g (E s) (s.lane j) else s.lane j := by
  induction l generalizing s with
  | nil => rfl
  | cons i l ih =>
    obtain ⟨fresh, nodup⟩ := List.nodup_cons.mp nodup
    show (orderEach f l (f i s)).lane j = _
    rw [ih nodup, hE, hf]
    by_cases hj : j = i
    · subst hj
      simp [fresh]
    · simp [hj]

theorem lane_orderRests {l : List (Fin 3)} (nodup : l.Nodup) (s : State) (j : Fin 3) :
    (orderEach orderRest l s).lane j = if j ∈ l then restLane (s.lane j) else s.lane j :=
  lane_orderEach (E := fun _ => ()) (g := fun _ => restLane) (fun _ _ => rfl)
    (fun i s j => (actsOnLane_rest i s).lane j) nodup s j

theorem lane_orderCuts {l : List (Fin 3)} (nodup : l.Nodup) (s : State) (j : Fin 3) :
    (orderEach orderCut l s).lane j = if j ∈ l then cutLane (s.lane j) else s.lane j :=
  lane_orderEach (E := fun _ => ()) (g := fun _ => cutLane) (fun _ _ => rfl)
    (fun i s j => (actsOnLane_cut i s).lane j) nodup s j

/-- The times that the orders of R72 go by: green_min, and the amber and the red that begin now, in cs. -/
def orderTimes (s : State) : Nat × Nat × Nat := (s.limits.greenMin * 10, amberTime s, redTime s)

theorem orderTimes_congr {s t : State} (meter : t.meter = s.meter) (limits : t.limits = s.limits) (plans : t.plans = s.plans) :
    orderTimes t = orderTimes s := by
  unfold orderTimes amberTime redTime planTime State.mode
  rw [meter, limits, plans]

theorem lane_orderStops {l : List (Fin 3)} (nodup : l.Nodup) (s : State) (j : Fin 3) :
    (orderEach orderStop l s).lane j =
      if j ∈ l then stopLane (s.limits.greenMin * 10) (amberTime s) (s.lane j) else s.lane j :=
  lane_orderEach (E := orderTimes) (g := fun e => stopLane e.1 e.2.1)
    (fun i s => orderTimes_congr (by simp) (by simp) (by simp)) (fun i s j => (actsOnLane_stop i s).lane j) nodup s j

theorem lane_orderClears {l : List (Fin 3)} (nodup : l.Nodup) (s : State) (j : Fin 3) :
    (orderEach orderClear l s).lane j =
      if j ∈ l then clearLane (s.limits.greenMin * 10) (amberTime s) (redTime s) (s.lane j) else s.lane j :=
  lane_orderEach (E := orderTimes) (g := fun e => clearLane e.1 e.2.1 e.2.2)
    (fun i s => orderTimes_congr (by simp) (by simp) (by simp)) (fun i s j => (actsOnLane_clear i s).lane j) nodup s j

end Sys2Proof.LaneLaws
end

section
/-! The agreement of lamps, lanes, ring, lock and mode (R69, R73, R89, R94, R97, R99, R111): every step keeps it. Its
parts that no sequence of lane orders breaks (`MeterBase`) are kept apart from what holds only between events. -/

namespace Sys2Proof.Agreement
open Sys2Proof.Machine Sys2Proof.Steps Sys2Proof.Holders Sys2Proof.LaneLaws Sys2Proof.AbsentLinks

/-! ### The parts of the invariant -/

/-- Every lane drive is commanded as the state of its lane says. -/
def LampsAgree (s : State) : Prop := ∀ i c, (s.drive (driveOf i c)).commanded = commands (s.lane i).state c

/-- The part of the invariant that also holds while the lanes of an event are given their orders. -/
structure MeterBase (s : State) : Prop where
  lamps : LampsAgree s
  beacon : (s.drive beaconDrive).commanded = s.meter.beacon
  dark : s.mode = .dark ∨ s.mode = .faultDark → (∀ i, darkLane (s.lane i).state) ∧ s.meter.beacon = false
  locked : inService s = true → s.locked = true ∧ s.plans.plan.isSome = true
  unused : inService s = true → ∀ i, enabled s i = false → darkLane (s.lane i).state
  hold : HoldsInHold s

/-- The ring holds each working lane once. -/
def RingAgrees (s : State) : Prop := s.sched.ring.Nodup ∧ ∀ i, i ∈ s.sched.ring ↔ working s i = true

theorem ring_perm_iff (s : State) : s.sched.ring.Perm (workingLanes s) ↔ RingAgrees s := by
  constructor
  · intro h
    exact ⟨h.nodup_iff.mpr (workingLanes_nodup s), fun i => by rw [h.mem_iff, mem_workingLanes]⟩
  · rintro ⟨nodup, mem⟩
    exact (List.perm_ext_iff_of_nodup nodup (workingLanes_nodup s)).mpr fun i => by rw [mem, mem_workingLanes]

/-- In SHUTDOWN no resting lane holds an order, and in phase RESTING every lane rests or is dark. -/
structure RestAgrees (s : State) : Prop where
  noHeld : s.mode = .shutdown → ∀ i, (s.lane i).state = .restGreen → (s.lane i).held = none
  resting : s.mode = .shutdown → s.meter.phase = .resting →
    ∀ i, (s.lane i).state = .restGreen ∨ darkLane (s.lane i).state

theorem meterInv_iff (s : State) :
    MeterInv s ↔ MeterBase s ∧ RestAgrees s ∧ (engaged s = true → RingAgrees s) := by
  constructor
  · intro h
    exact ⟨⟨h.lamps, h.beacon, h.dark, h.locked, h.unused, h.hold⟩, ⟨h.noHeld, h.resting⟩,
      fun e => (ring_perm_iff s).mp (h.ring e)⟩
  · rintro ⟨b, r, e⟩
    exact ⟨b.lamps, b.beacon, b.dark, b.locked, b.unused, r.noHeld, r.resting, fun h => (ring_perm_iff s).mpr (e h), b.hold⟩

theorem RestAgrees.of_mode {s : State} (h : s.mode ≠ .shutdown) : RestAgrees s :=
  ⟨fun e => absurd e h, fun e => absurd e h⟩

/-- Outside SHUTDOWN, METERING and HOLD the base is all. -/
theorem meterInv_of_base {s : State} (b : MeterBase s) (h : s.mode ≠ .shutdown ∧ s.mode ≠ .metering ∧ s.mode ≠ .hold) :
    MeterInv s :=
  (meterInv_iff s).mpr ⟨b, .of_mode h.1, by simp [engaged, h.2.1, h.2.2]⟩

theorem meterBase_of_inv {s : State} (h : MeterInv s) : MeterBase s := ((meterInv_iff s).mp h).1

/-! ### States that agree in what the invariant speaks of -/

theorem enabled_congr {s t : State} (plan : t.plans.plan = s.plans.plan) (i : Fin 3) : enabled t i = enabled s i := by
  simp only [enabled, plan]

theorem inService_congr {s t : State} (mode : t.mode = s.mode) : inService t = inService s := by simp [inService, mode]

theorem engaged_congr {s t : State} (mode : t.mode = s.mode) : engaged t = engaged s := by simp [engaged, mode]

theorem engaged_inService {s : State} (h : engaged s = true) : inService s = true := by
  simp only [engaged, inService, Bool.or_eq_true] at *
  tauto

/-- A later state shows the lanes, lamps, ring, lock and mode of an earlier one. -/
structure SameAgreement (s t : State) : Prop where
  lanes : ∀ i, (t.lane i).state = (s.lane i).state ∧ (t.lane i).held = (s.lane i).held
  drives : ∀ k, (t.drive k).commanded = (s.drive k).commanded
  mode : t.mode = s.mode
  phase : t.meter.phase = s.meter.phase
  beacon : t.meter.beacon = s.meter.beacon
  hold : t.meter.hold.isSome = s.meter.hold.isSome
  ring : t.sched.ring = s.sched.ring
  lock : s.locked = true → t.locked = true
  plan : inService s = true → (∀ i, enabled t i = enabled s i) ∧ (s.plans.plan.isSome = true → t.plans.plan.isSome = true)

theorem meterInv_of_same {s t : State} (h : SameAgreement s t) (inv : MeterInv s) : MeterInv t := by
  obtain ⟨b, r, ring⟩ := (meterInv_iff s).mp inv
  have service := inService_congr h.mode
  refine (meterInv_iff t).mpr ⟨⟨fun i c => ?_, ?_, fun d => ?_, fun e => ?_, fun e i he => ?_, ?_⟩, ⟨fun m i hi => ?_, fun m p i => ?_⟩,
    fun e => ?_⟩
  · rw [h.drives, (h.lanes i).1]; exact b.lamps i c
  · rw [h.drives, h.beacon]; exact b.beacon
  · rw [h.mode] at d
    rw [h.beacon]
    exact ⟨fun i => by rw [(h.lanes i).1]; exact (b.dark d).1 i, (b.dark d).2⟩
  · rw [service] at e
    exact ⟨h.lock (b.locked e).1, (h.plan e).2 (b.locked e).2⟩
  · rw [service] at e
    rw [(h.plan e).1] at he
    rw [(h.lanes i).1]
    exact b.unused e i he
  · simpa only [HoldsInHold, h.hold, h.mode] using b.hold
  · rw [(h.lanes i).1] at hi
    rw [(h.lanes i).2]
    exact r.noHeld (h.mode ▸ m) i hi
  · rw [(h.lanes i).1]
    exact r.resting (h.mode ▸ m) (h.phase ▸ p) i
  · rw [engaged_congr h.mode] at e
    obtain ⟨nodup, mem⟩ := ring e
    refine ⟨h.ring ▸ nodup, fun i => ?_⟩
    rw [h.ring, mem, working, working, isFaulted, isFaulted, (h.plan (engaged_inService e)).1, (h.lanes i).1]

/-- An operation that leaves the lanes, the drives, the mode controller, the lock and the plan in force alone. -/
theorem meterInv_of_blocks {s t : State} (sched : t.sched = s.sched) (drives : t.drives = s.drives) (meter : t.meter = s.meter)
    (locked : t.locked = s.locked) (plan : t.plans.plan = s.plans.plan) (inv : MeterInv s) : MeterInv t := by
  refine meterInv_of_same ⟨fun i => ?_, fun k => ?_, ?_, ?_, ?_, ?_, ?_, ?_, fun _ => ⟨enabled_congr plan, ?_⟩⟩ inv
  · simp [State.lane, sched]
  · simp [State.drive, drives]
  · simp [State.mode, meter]
  · rw [meter]
  · rw [meter]
  · rw [meter]
  · rw [sched]
  · rw [locked]; exact id
  · rw [plan]; exact id

theorem meterInv_post {s : State} (kind : EventKind) (subject detail : Nat) (inv : MeterInv s) :
    MeterInv (s.post kind subject detail) :=
  meterInv_of_blocks (by simp) (by simp) (by simp) (by simp) (by simp) inv

/-- A change of the mode controller's requests and counts. -/
theorem meterInv_meter {s : State} (m : ModeController) (inv : MeterInv s) (mode : m.mode = s.meter.mode)
    (phase : m.phase = s.meter.phase) (beacon : m.beacon = s.meter.beacon) (hold : m.hold = s.meter.hold) :
    MeterInv { s with meter := m } :=
  meterInv_of_same (s := s) (t := { s with meter := m })
    ⟨fun _ => ⟨rfl, rfl⟩, fun _ => rfl, mode, phase, beacon, by rw [hold], rfl, id, fun _ => ⟨fun _ => rfl, id⟩⟩ inv

/-! ### One lane enters a state -/

theorem commands_dark {st : LaneState} (h : darkLane st) (c : Colour) : commands st c = false := by
  obtain rfl | rfl := h <;> cases c <;> rfl

theorem lampsAgree_enterLane {s : State} (i : Fin 3) {x : Lane} (h : LampsAgree s)
    (hx : s.mode ≠ .faultDark ∨ darkLane x.state) : LampsAgree (enterLane i x s) := by
  intro j c
  rw [drive_enterLane, lane_enterLane]
  split
  · rw [Drive.command_commanded, driverOutput]
    obtain hm | hd := hx
    · simp [hm]
    · simp [commands_dark hd]
  · exact h j c

theorem lampsAgree_setLane {s : State} (i : Fin 3) {x : Lane} (h : LampsAgree s) (hx : x.state = (s.lane i).state) :
    LampsAgree (s.setLane i x) := by
  intro j c
  rw [lane_setLane]
  show (s.drive (driveOf j c)).commanded = _
  split
  · next e => rw [hx, ← e]; exact h j c
  · exact h j c

theorem lampsAgree_acts {i : Fin 3} {x : Lane} {s t : State} (a : ActsOnLane i x s t) (h : LampsAgree s)
    (hx : s.mode ≠ .faultDark ∨ darkLane x.state) : LampsAgree t := by
  obtain rfl | ⟨hs, rfl⟩ := a
  · exact lampsAgree_enterLane i h hx
  · exact lampsAgree_setLane i h hs

/-- An order keeps the base, if it leaves a lane dark that has to be dark. -/
theorem meterBase_acts {i : Fin 3} {x : Lane} {s t : State} (a : ActsOnLane i x s t) (b : MeterBase s)
    (dark : s.mode = .dark ∨ s.mode = .faultDark → darkLane x.state)
    (unused : inService s = true → enabled s i = false → darkLane x.state) : MeterBase t := by
  obtain ⟨meter, plans, -, locked, -, -, -⟩ := a.frame
  have service := inService_congr a.mode
  refine ⟨lampsAgree_acts a b.lamps ?_, ?_, fun d => ?_, fun e => ?_, fun e j he => ?_, ?_⟩
  · by_cases hm : s.mode = .faultDark
    · exact .inr (dark (.inr hm))
    · exact .inl hm
  · rw [a.beaconDrive, meter]; exact b.beacon
  · rw [a.mode] at d
    rw [meter]
    refine ⟨fun j => ?_, (b.dark d).2⟩
    rw [a.lane]
    split
    · exact dark d
    · exact (b.dark d).1 j
  · rw [service] at e
    rw [locked, plans]; exact b.locked e
  · rw [service] at e
    rw [enabled_congr (s := s) (by rw [plans])] at he
    rw [a.lane]
    split
    · next hj => exact unused e (hj ▸ he)
    · exact b.unused e j he
  · simpa only [HoldsInHold, a.mode, meter] using b.hold

/-- An order keeps the whole invariant, if in SHUTDOWN it leaves the lane as the sequence has it, and while engaged makes
no lane FAULTED that was not, nor the other way round. -/
theorem meterInv_acts {i : Fin 3} {x : Lane} {s t : State} (a : ActsOnLane i x s t) (inv : MeterInv s)
    (dark : s.mode = .dark ∨ s.mode = .faultDark → darkLane x.state)
    (unused : inService s = true → enabled s i = false → darkLane x.state)
    (noHeld : s.mode = .shutdown → x.state = .restGreen → x.held = none)
    (resting : s.mode = .shutdown → s.meter.phase = .resting → x.state = .restGreen ∨ darkLane x.state)
    (faulted : engaged s = true → (x.state = .faulted ↔ (s.lane i).state = .faulted)) : MeterInv t := by
  obtain ⟨b, r, ring⟩ := (meterInv_iff s).mp inv
  obtain ⟨meter, plans, -, -, -, -, sameRing⟩ := a.frame
  refine (meterInv_iff t).mpr ⟨meterBase_acts a b dark unused, ⟨fun m j hj => ?_, fun m p j => ?_⟩, fun e => ?_⟩
  · rw [a.mode] at m
    rw [a.lane] at hj ⊢
    split at hj
    · next h => rw [if_pos h]; exact noHeld m hj
    · next h => rw [if_neg h]; exact r.noHeld m j hj
  · rw [a.mode] at m
    rw [meter] at p
    rw [a.lane]
    split
    · exact resting m p
    · exact r.resting m p j
  · rw [engaged_congr a.mode] at e
    obtain ⟨nodup, mem⟩ := ring e
    refine ⟨sameRing ▸ nodup, fun j => ?_⟩
    have same : isFaulted t j = isFaulted s j := by
      simp only [isFaulted, a.lane]
      split
      · next h => subst h; rw [Bool.eq_iff_iff, beq_iff_eq, beq_iff_eq]; exact faulted e
      · rfl
    rw [sameRing, mem, working, working, enabled_congr (s := s) (t := t) (by rw [plans]), same]

/-- A lane that shows something in service is enabled, and the meter is lit. -/
theorem lit_facts {s : State} (b : MeterBase s) {i : Fin 3} (h : ¬ darkLane (s.lane i).state) :
    ¬ (s.mode = .dark ∨ s.mode = .faultDark) ∧ (inService s = true → enabled s i = true) := by
  refine ⟨fun d => h ((b.dark d).1 i), fun e => ?_⟩
  by_contra he
  exact h (b.unused e i (by simpa using he))

/-- A lane on its way through the cycle takes its next state. -/
theorem meterInv_enterMoving {s : State} {i : Fin 3} {x : Lane} (inv : MeterInv s)
    (moving : ¬ darkLane (s.lane i).state) (notResting : s.mode = .shutdown → (s.lane i).state ≠ .restGreen)
    (notFaulted : x.state ≠ .faulted) (held : x.state = .restGreen → x.held = none) : MeterInv (enterLane i x s) := by
  obtain ⟨lit, on⟩ := lit_facts (meterBase_of_inv inv) moving
  refine meterInv_acts (.inl rfl) inv (fun d => absurd d lit) (fun e he => ?_) (fun _ => held) (fun m p => ?_) (fun _ => ?_)
  · simp [on e] at he
  · obtain h | h := inv.resting m p i
    · exact absurd h (notResting m)
    · exact absurd h moving
  · exact iff_of_false notFaulted fun h => moving (.inr h)

/-! ### Releases and rates -/

theorem meterInv_setRelease {s : State} {ring : List (Fin 3)} (elapsed : Nat) (due : Bool) (inv : MeterInv s)
    (perm : engaged s = true → ring.Perm s.sched.ring) : MeterInv (s.setRelease ring elapsed due) := by
  obtain ⟨b, r, agrees⟩ := (meterInv_iff s).mp inv
  refine (meterInv_iff _).mpr ⟨⟨b.lamps, b.beacon, b.dark, b.locked, b.unused, b.hold⟩, ⟨r.noHeld, r.resting⟩, fun e => ?_⟩
  obtain ⟨nodup, mem⟩ := agrees e
  exact ⟨(perm e).nodup_iff.mpr nodup, fun i => ((perm e).mem_iff).trans (mem i)⟩

theorem enterLane_ring (i : Fin 3) (x : Lane) (s : State) : (enterLane i x s).sched.ring = s.sched.ring :=
  (ActsOnLane.frame (x := x) (.inl rfl)).2.2.2.2.2.2

theorem meterInv_grant {s : State} {i : Fin 3} (inv : MeterInv s) (hm : s.mode = .metering) (ready : (s.lane i).state = .ready)
    (mem : i ∈ s.sched.ring) : MeterInv (grant i s) := by
  have moving : ¬ darkLane (s.lane i).state := by simp [darkLane, ready]
  have entered := meterInv_enterMoving (x := (s.lane i).toGreen (some (greenTime s))) inv moving (by simp [hm]) (by simp [Lane.toGreen])
    (by simp [Lane.toGreen])
  refine meterInv_setRelease 0 false entered fun _ => ?_
  rw [enterLane_ring]
  exact (List.perm_append_singleton i _).trans (List.perm_cons_erase mem).symm

theorem meterInv_releaseDue {s : State} (inv : MeterInv s) (hm : s.mode = .metering) : MeterInv (releaseDue s) := by
  obtain ⟨i, next, e⟩ | ⟨-, e⟩ := releaseDue_cases s <;> rw [e]
  · obtain ⟨can, front, back, ring, -⟩ := (nextLane_eq_some s i).mp next
    refine meterInv_grant inv hm ?_ (by simp [ring])
    simp only [eligible, Bool.and_eq_true, beq_iff_eq] at can
    exact can.1
  · exact meterInv_setRelease _ _ inv fun _ => .refl _

theorem meterInv_takePending {s : State} (inv : MeterInv s) : MeterInv (takePending s) := by
  obtain e | ⟨i, hm, -, next, e⟩ := takePending_cases s <;> rw [e]
  · exact inv
  · obtain ⟨can, front, back, ring, -⟩ := (nextLane_eq_some s i).mp next
    refine meterInv_grant inv hm ?_ (by simp [ring])
    simp only [eligible, Bool.and_eq_true, beq_iff_eq] at can
    exact can.1

theorem meterInv_setHeadway {s : State} (h : Nat) (inv : MeterInv s) : MeterInv (s.setHeadway h) :=
  meterInv_of_same (s := s) (t := s.setHeadway h)
    ⟨fun _ => ⟨rfl, rfl⟩, fun _ => rfl, rfl, rfl, rfl, rfl, rfl, id, fun _ => ⟨fun _ => rfl, id⟩⟩ inv

theorem meterInv_handHeadway {s : State} (h : Nat) (inv : MeterInv s) : MeterInv (handHeadway h s) := by
  obtain ⟨-, e⟩ | ⟨hm, -, -, e⟩ := handHeadway_cases h s <;> rw [e]
  · exact meterInv_setHeadway h inv
  · exact meterInv_releaseDue (meterInv_setHeadway h inv) hm

/-- The rate computer's own values are nothing to the invariant. -/
theorem meterInv_rate {s : State} (r : RateComputer) (inv : MeterInv s) : MeterInv { s with rate := r } :=
  meterInv_of_blocks (s := s) (t := { s with rate := r }) rfl rfl rfl rfl rfl inv

theorem meterInv_runCombine {s : State} (entry : Bool) (inv : MeterInv s) : MeterInv (runCombine entry s) := by
  unfold runCombine
  split
  · exact inv
  · dsimp only
    have put : ∀ o, MeterInv (s.putRate o) := fun _ => meterInv_rate _ inv
    split
    · exact meterInv_handHeadway _ (put _)
    · exact put _

theorem meterInv_recombine {s : State} (inv : MeterInv s) : MeterInv (recombine s) := by
  unfold recombine
  split
  · exact meterInv_runCombine false inv
  · exact inv

theorem meterInv_recombineFault {s : State} (inv : MeterInv s) : MeterInv (recombineFault s) := by
  unfold recombineFault
  split
  · exact inv
  · exact meterInv_recombine inv

theorem meterInv_resumeReleases {s : State} (inv : MeterInv s) (hm : s.mode = .metering) : MeterInv (resumeReleases s) := by
  unfold resumeReleases
  split
  · exact meterInv_takePending inv
  · split
    · exact meterInv_releaseDue inv hm
    · exact inv

/-! ### Hold -/

/-- The changes between METERING and HOLD touch the mode and the hold record alone. -/
theorem meterInv_engaged {s t : State} (inv : MeterInv s) (hs : engaged s = true) (ht : engaged t = true)
    (hold : HoldsInHold t) (beacon : t.meter.beacon = s.meter.beacon) (sched : t.sched = s.sched) (drives : t.drives = s.drives)
    (plans : t.plans = s.plans) (locked : t.locked = s.locked) : MeterInv t := by
  obtain ⟨b, -, ring⟩ := (meterInv_iff s).mp inv
  have lane : ∀ i, t.lane i = s.lane i := fun i => by simp [State.lane, sched]
  have drive : ∀ k, t.drive k = s.drive k := fun k => by simp [State.drive, drives]
  have on : ∀ i, enabled t i = enabled s i := enabled_congr (by rw [plans])
  have service := engaged_inService hs
  have notDark : ¬(t.mode = .dark ∨ t.mode = .faultDark) := by
    rintro (h | h) <;> simp [engaged, h] at ht
  have notShutdown : t.mode ≠ .shutdown := by intro h; simp [engaged, h] at ht
  refine (meterInv_iff t).mpr ⟨⟨fun i c => ?_, ?_, fun d => absurd d notDark, fun _ => ?_, fun _ i he => ?_, hold⟩,
    .of_mode notShutdown, fun _ => ?_⟩
  · rw [drive, lane]; exact b.lamps i c
  · rw [drive, beacon]; exact b.beacon
  · rw [locked, plans]; exact b.locked service
  · rw [lane]; exact b.unused service i (on i ▸ he)
  · obtain ⟨nodup, mem⟩ := ring hs
    exact ⟨sched ▸ nodup, fun i => by rw [sched, mem, working, working, isFaulted, isFaulted, on, lane]⟩

theorem meterInv_enterHold {s : State} (l : LinkId) (inv : MeterInv s) (hm : s.mode = .metering) : MeterInv (enterHold l s) := by
  have meter : (enterHold l s).meter = { s.meter with mode := .hold, hold := some ⟨l, s.limits.holdMax * 100⟩ } := by
    simp [enterHold, State.putHold]
  exact meterInv_engaged inv (by simp [engaged, hm]) (by simp [engaged, State.mode, meter]) (by simp [HoldsInHold, State.mode, meter])
    (by rw [meter]) (by simp) (by simp) (by simp) (by simp)

theorem meterInv_leaveHold {s : State} (cause : ModeCause) (inv : MeterInv s) (hm : s.mode = .hold) :
    MeterInv (leaveHold cause s) := by
  have meter : ((changeMode .metering cause s).putHold none).meter = { s.meter with mode := .metering, hold := none } := by
    simp [State.putHold]
  have mode : ((changeMode .metering cause s).putHold none).mode = .metering := by rw [State.mode, meter]
  unfold leaveHold
  refine meterInv_resumeReleases ?_ mode
  exact meterInv_engaged inv (by simp [engaged, hm]) (by simp [engaged, mode]) (by simp [HoldsInHold, State.mode, meter])
    (by rw [meter]) (by simp) (by simp) (by simp) (by simp)

theorem meterInv_endHold {s : State} (kind : EventKind) (detail : Nat) (inv : MeterInv s) : MeterInv (endHold kind detail s) := by
  unfold endHold
  split
  · split
    · next hm => exact meterInv_leaveHold _ (meterInv_post _ _ _ inv) (by simpa [State.mode] using hm)
    · exact inv
  · exact inv

/-! ### Modes: entries to DARK and FAULT_DARK -/

/-- The base in a new mode outside service, HOLD and the dark modes' conditions, from the lamps and the beacon alone. -/
theorem meterBase_commandBeacon {s : State} (on : Bool) (b : MeterBase s)
    (lit : on = false ∨ ¬(s.mode = .dark ∨ s.mode = .faultDark)) : MeterBase (commandBeacon on s) := by
  have lane : ∀ i, (commandBeacon on s).lane i = s.lane i := fun i => by simp
  have mode : (commandBeacon on s).mode = s.mode := by simp [State.mode]
  have drive : ∀ i c, (commandBeacon on s).drive (driveOf i c) = s.drive (driveOf i c) := fun i c => by simp
  refine ⟨fun i c => ?_, ?_, fun d => ?_, fun e => ?_, fun e i he => ?_, ?_⟩
  · rw [drive, lane]; exact b.lamps i c
  · rw [commandBeacon_meter]
    simp only [drive_commandBeacon, Drive.command_commanded, driverOutput]
    obtain rfl | h := lit
    · rfl
    · have : s.meter.mode ≠ .faultDark := fun e => h (.inr e)
      simp [State.mode, this]
  · rw [mode] at d
    obtain rfl | h := lit
    · exact ⟨fun i => by rw [lane]; exact (b.dark d).1 i, by simp⟩
    · exact absurd d h
  · rw [inService_congr mode] at e
    simpa using b.locked e
  · rw [inService_congr mode] at e
    rw [lane]
    exact b.unused e i (by rwa [enabled_congr (s := s) (by simp)] at he)
  · simpa [HoldsInHold, State.mode] using b.hold

/-- A state outside service whose lanes, lamps and beacon agree. -/
theorem meterBase_of_lamps {s : State} (lamps : LampsAgree s) (beacon : (s.drive beaconDrive).commanded = s.meter.beacon)
    (dark : s.mode = .dark ∨ s.mode = .faultDark → (∀ i, darkLane (s.lane i).state) ∧ s.meter.beacon = false)
    (service : inService s = false) (hold : s.meter.hold = none) : MeterBase s := by
  refine ⟨lamps, beacon, dark, by simp [service], by simp [service], ?_⟩
  have : s.mode ≠ .hold := fun h => by simp [inService, h] at service
  simp [HoldsInHold, hold, this]

theorem lampsAgree_of_blocks {s t : State} (sched : t.sched.lanes = s.sched.lanes) (drives : ∀ k, (t.drive k).commanded = (s.drive k).commanded)
    (h : LampsAgree s) : LampsAgree t := by
  intro i c
  rw [drives]
  simpa [State.lane, sched] using h i c

/-- The entry to DARK before the lane faults end and the drives are proved again. -/
def darkEntered (cause : ModeCause) (s : State) : State :=
  commandBeacon false (leaveReleases (clearAspects (((changeMode .dark cause s).putPhase .idle 0).putHold none)))

theorem enterDark_eq (cause : ModeCause) (s : State) :
    enterDark cause s = reproveAll (orderEach restoreDark allLanes (darkEntered cause s)) := by rfl

theorem darkEntered_meter (cause : ModeCause) (s : State) :
    (darkEntered cause s).meter = { s.meter with mode := .dark, phase := .idle, seqTimer := 0, hold := none, beacon := false,
                                                 aspects := Vector.replicate 3 none } := by
  simp [darkEntered, clearAspects, State.putPhase, State.putHold]

theorem meterBase_darkEntered {s : State} (cause : ModeCause) (lamps : LampsAgree s) (dark : ∀ i, darkLane (s.lane i).state) :
    MeterBase (darkEntered cause s) := by
  have meter := darkEntered_meter cause s
  have lane : ∀ i, (darkEntered cause s).lane i = s.lane i := fun i => by simp [darkEntered]
  have drive : ∀ i c, (darkEntered cause s).drive (driveOf i c) = s.drive (driveOf i c) := fun i c => by simp [darkEntered]
  refine meterBase_of_lamps (fun i c => ?_) ?_ (fun _ => ⟨fun i => by rw [lane]; exact dark i, by rw [meter]⟩) ?_ (by rw [meter])
  · rw [drive, lane]
    exact lamps i c
  · rw [meter]
    simp [darkEntered, driverOutput]
  · rw [inService, State.mode, meter]
    rfl

theorem meterBase_restoreDark {u : State} (i : Fin 3) (b : MeterBase u) : MeterBase (restoreDark i u) := by
  unfold restoreDark
  split
  · exact meterBase_acts (.inl rfl) b (fun _ => .inl rfl) (fun _ _ => .inl rfl)
  · exact b

theorem meterInv_reproveAll {s : State} (inv : MeterInv s) : MeterInv (reproveAll s) := by
  refine meterInv_of_same (s := s) (t := reproveAll s) ⟨fun _ => ⟨rfl, rfl⟩, fun k => ?_, rfl, rfl, rfl, rfl, rfl, id, fun _ => ⟨fun _ => rfl, id⟩⟩ inv
  simp [reproveAll, State.drive]

/-- The entry to DARK from dark lanes (R121). -/
theorem meterInv_enterDark {s : State} (cause : ModeCause) (lamps : LampsAgree s) (dark : ∀ i, darkLane (s.lane i).state) :
    MeterInv (enterDark cause s) := by
  have restored : MeterBase (orderEach restoreDark allLanes (darkEntered cause s)) :=
    orderEach_keeps (fun i _ u => meterBase_restoreDark i) (meterBase_darkEntered cause lamps dark)
  have mode : (orderEach restoreDark allLanes (darkEntered cause s)).mode = .dark := by
    rw [State.mode, orderEach_meter restoreDark (by simp), darkEntered_meter]
  rw [enterDark_eq]
  exact meterInv_reproveAll (meterInv_of_base restored (by simp [mode]))

theorem enabled_of_working {s : State} {i : Fin 3} (h : working s i = true) : enabled s i = true := by
  simp only [working, Bool.and_eq_true] at h
  exact h.1

theorem plan_of_enabled {s : State} {i : Fin 3} (h : enabled s i = true) : s.plans.plan.isSome = true := by
  unfold enabled at h
  split at h
  · next e => simp [e]
  · cases h

/-- A list of orders to enabled lanes of a lit meter keeps the base, the mode and the plans. -/
theorem meterBase_orderEach {f : Fin 3 → State → State} {g : State → Fin 3 → Lane} (acts : ∀ i s, ActsOnLane i (g s i) s (f i s))
    {l : List (Fin 3)} {s : State} (b : MeterBase s) (lit : ¬(s.mode = .dark ∨ s.mode = .faultDark))
    (on : ∀ i ∈ l, inService s = true → enabled s i = true) : MeterBase (orderEach f l s) := by
  refine (orderEach_keeps (P := fun u => MeterBase u ∧ u.mode = s.mode ∧ u.plans = s.plans) (fun i hi u hu => ?_) ⟨b, rfl, rfl⟩).1
  obtain ⟨bu, mu, pu⟩ := hu
  refine ⟨meterBase_acts (acts i u) bu (fun d => absurd (mu ▸ d) lit) (fun e he => ?_), (acts i u).mode.trans mu,
    (acts i u).frame.2.1.trans pu⟩
  rw [inService_congr mu] at e
  rw [enabled_congr (s := s) (by rw [pu]), on i hi e] at he
  cases he

theorem meterInv_startMeter {s : State} (cause : ModeCause) (inv : MeterInv s) (hm : s.mode = .dark) (ok : startConditions s = true) :
    MeterInv (startMeter cause s) := by
  obtain ⟨lanes, -⟩ := inv.dark (.inl hm)
  simp only [startConditions, Bool.and_eq_true, Bool.not_eq_true', List.isEmpty_eq_false_iff_exists_mem] at ok
  obtain ⟨⟨locked, -⟩, j, hj⟩ := ok
  rw [mem_workingLanes] at hj
  have plan := plan_of_enabled (enabled_of_working hj)
  have meter : (changeMode .startup cause s).meter = { s.meter with mode := .startup } := by simp
  have mode : (changeMode .startup cause s).mode = .startup := by simp
  have changed : MeterBase (changeMode .startup cause s) := by
    have lane : ∀ i, (changeMode .startup cause s).lane i = s.lane i := fun i => by simp
    refine ⟨lampsAgree_of_blocks (s := s) (by simp) (by simp) (meterBase_of_inv inv).lamps, ?_, by simp [mode], fun _ => ?_,
      fun _ i _ => by rw [lane]; exact lanes i, ?_⟩
    · simpa [State.drive] using (meterBase_of_inv inv).beacon
    · simp [locked, plan]
    · have := inv.hold
      rw [hm] at this
      simp [HoldsInHold, mode, this]
  have lit : MeterBase (commandBeacon true (changeMode .startup cause s)) :=
    meterBase_commandBeacon true changed (.inr (by simp [mode]))
  have litMode : (commandBeacon true (changeMode .startup cause s)).mode = .startup := by simp [State.mode]
  have working : ∀ i ∈ workingLanes (commandBeacon true (changeMode .startup cause s)),
      enabled (commandBeacon true (changeMode .startup cause s)) i = true :=
    fun i hi => enabled_of_working ((mem_workingLanes _ i).mp hi)
  have rested := meterBase_orderEach (g := fun s i => restLane (s.lane i)) actsOnLane_rest lit (by simp [litMode]) (fun i hi _ => working i hi)
  have restedMode : (orderEach orderRest (workingLanes (commandBeacon true (changeMode .startup cause s)))
      (commandBeacon true (changeMode .startup cause s))).mode = .startup := by simp [State.mode]
  have inv' := meterInv_of_base rested (by simp [restedMode])
  unfold startMeter
  exact meterInv_of_base ⟨rested.lamps, rested.beacon, rested.dark, rested.locked, rested.unused, rested.hold⟩
    (by show _ ∧ _; simp [State.mode, State.putPhase])

theorem meterInv_tryStart {s : State} (cause : ModeCause) (inv : MeterInv s) : MeterInv (tryStart cause s) := by
  unfold tryStart
  split
  · next h => exact meterInv_startMeter cause inv h.1 h.2
  · exact inv

theorem meterInv_judgeStart {s : State} (inv : MeterInv s) : MeterInv (judgeStart s) := by
  unfold judgeStart
  split
  · exact meterInv_tryStart _ inv
  · exact inv

theorem meterInv_enterDarkJudged {s : State} (cause : ModeCause) (lamps : LampsAgree s) (dark : ∀ i, darkLane (s.lane i).state) :
    MeterInv (enterDarkJudged cause s) :=
  meterInv_judgeStart (meterInv_enterDark cause lamps dark)

/-! ### Modes: the sequences -/

theorem allDark_iff (s : State) : allDark s = true ↔ ∀ i, darkLane (s.lane i).state := by
  simp [allDark, List.all_eq_true, mem_allLanes, darkLane]

theorem meterInv_checkStopped {s : State} (inv : MeterInv s) : MeterInv (checkStopped s) := by
  unfold checkStopped
  split
  · next h => exact meterInv_enterDarkJudged _ (meterBase_of_inv inv).lamps ((allDark_iff s).mp h.2.2)
  · exact inv

theorem workingLanes_congr {s t : State} (plan : t.plans.plan = s.plans.plan) (lanes : ∀ i, (t.lane i).state = (s.lane i).state) :
    workingLanes t = workingLanes s := by
  simp [workingLanes, working, isFaulted, enabled_congr plan, lanes]

/-- A new phase outside SHUTDOWN, or one that is not RESTING, is nothing to the invariant. -/
theorem meterInv_putPhase {s : State} (p : Phase) (n : Nat) (inv : MeterInv s) (h : s.mode = .shutdown → p ≠ .resting) :
    MeterInv (s.putPhase p n) := by
  obtain ⟨b, r, ring⟩ := (meterInv_iff s).mp inv
  exact (meterInv_iff _).mpr ⟨⟨b.lamps, b.beacon, b.dark, b.locked, b.unused, b.hold⟩, ⟨r.noHeld, fun m e => absurd e (h m)⟩, ring⟩

/-- An entry to METERING forms the ring of the working lanes (R73). -/
theorem meterInv_formRing {s : State} (b : MeterBase s) (hm : s.mode = .metering) : MeterInv (formRing s) := by
  refine (meterInv_iff _).mpr ⟨⟨b.lamps, b.beacon, b.dark, b.locked, b.unused, b.hold⟩, .of_mode (s := formRing s) ?_, fun _ => ?_⟩
  · show s.mode ≠ .shutdown
    simp [hm]
  · exact ⟨workingLanes_nodup s, fun i => mem_workingLanes s i⟩

/-- A change of mode within service: lanes, lamps and plan are as they were. -/
theorem meterBase_changeMode {s : State} {m : Mode} (cause : ModeCause) (b : MeterBase s) (hs : inService s = true)
    (hm : m = .startup ∨ m = .metering ∨ m = .shutdown) (hold : s.mode ≠ .hold) : MeterBase (changeMode m cause s) := by
  have lane : ∀ i, (changeMode m cause s).lane i = s.lane i := fun i => by simp
  have noHold : s.meter.hold.isSome = false := by
    have := b.hold
    simp only [HoldsInHold, hold, iff_false, Bool.not_eq_true] at this
    exact this
  refine ⟨lampsAgree_of_blocks (s := s) (by simp) (by simp) b.lamps, ?_, ?_, fun _ => ?_, fun _ i he => ?_, ?_⟩
  · simpa [State.drive] using b.beacon
  · rw [changeMode_mode]
    rintro (rfl | rfl) <;> simp at hm
  · simpa using b.locked hs
  · rw [lane]
    exact b.unused hs i (by rwa [enabled_congr (s := s) (by simp)] at he)
  · have : m ≠ .hold := by rintro rfl; simp at hm
    simp only [HoldsInHold, changeMode_mode, changeMode_meter, noHold, this]
    simp

theorem meterInv_enterMetering {s : State} (inv : MeterInv s) (hm : s.mode = .startup) : MeterInv (enterMetering s) := by
  have changed := meterBase_changeMode (s := s) (m := .metering) .sequence (meterBase_of_inv inv) (by simp [inService, hm]) (by simp) (by simp [hm])
  have mode : (changeMode .metering .sequence s).mode = .metering := by simp
  have phased : MeterBase ((changeMode .metering .sequence s).putPhase .idle 0) :=
    ⟨changed.lamps, changed.beacon, changed.dark, changed.locked, changed.unused, changed.hold⟩
  have formed := meterInv_formRing phased mode
  unfold enterMetering entryFromStartup
  split
  · exact formed
  · exact meterInv_runCombine true (meterInv_rate _ formed)

theorem meterInv_checkCleared {s : State} (inv : MeterInv s) : MeterInv (checkCleared s) := by
  unfold checkCleared
  split
  · next h =>
    simp only [cleared, Bool.and_eq_true, beq_iff_eq] at h
    exact meterInv_enterMetering inv h.1.1.1
  · exact inv

/-- In service each lane that does not work is dark. -/
theorem dark_of_not_working {s : State} (b : MeterBase s) (hs : inService s = true) {i : Fin 3} (h : working s i = false) :
    darkLane (s.lane i).state := by
  by_cases he : enabled s i = true
  · simp only [working, he, Bool.true_and, Bool.not_eq_false', isFaulted, beq_iff_eq] at h
    exact .inr h
  · exact b.unused hs i (by simpa using he)

theorem meterInv_checkResting {s : State} (inv : MeterInv s) : MeterInv (checkResting s) := by
  unfold checkResting
  split
  · next h =>
    obtain ⟨hm, -, all⟩ := h
    obtain ⟨b, r, ring⟩ := (meterInv_iff s).mp inv
    refine (meterInv_iff _).mpr ⟨⟨b.lamps, b.beacon, b.dark, b.locked, b.unused, b.hold⟩, ⟨r.noHeld, fun _ _ i => ?_⟩, ring⟩
    show (s.lane i).state = .restGreen ∨ darkLane (s.lane i).state
    by_cases hw : working s i = true
    · simp only [allResting, List.all_eq_true, beq_iff_eq] at all
      exact .inl (all i ((mem_workingLanes s i).mpr hw))
    · exact .inr (dark_of_not_working b (by simp [inService, hm]) (by simpa using hw))
  · exact inv

theorem meterInv_advanceSequence {s : State} (inv : MeterInv s) : MeterInv (advanceSequence s) :=
  meterInv_checkResting (meterInv_checkStopped (meterInv_checkCleared inv))

/-- A lane that shows something is enabled while in service. -/
theorem enabled_of_lit {s : State} (b : MeterBase s) {i : Fin 3} (h : i ∈ litLanes s) (hs : inService s = true) : enabled s i = true := by
  simp only [litLanes, List.mem_filter, Bool.not_eq_true', Bool.or_eq_false_iff, beq_eq_false_iff_ne] at h
  exact (lit_facts b fun d => d.elim h.2.1 h.2.2).2 hs

theorem meterInv_interruptStartup {s : State} (inv : MeterInv s) (hm : s.mode = .startup) : MeterInv (interruptStartup s) := by
  have lit : ∀ u : State, u.mode = .startup → ¬(u.mode = .dark ∨ u.mode = .faultDark) := fun u h => by simp [h]
  have beacon := meterBase_commandBeacon false (meterBase_of_inv inv) (.inl rfl)
  have phased : MeterBase ((commandBeacon false s).putPhase .stopping 0) :=
    ⟨beacon.lamps, beacon.beacon, beacon.dark, beacon.locked, beacon.unused, beacon.hold⟩
  have mode : ((commandBeacon false s).putPhase .stopping 0).mode = .startup := by
    simpa [State.mode, State.putPhase] using hm
  have stopped := meterBase_orderEach (l := litLanes ((commandBeacon false s).putPhase .stopping 0))
    (g := fun s i => stopLane (s.limits.greenMin * 10) (amberTime s) (s.lane i)) actsOnLane_stop phased (lit _ mode)
    (fun i hi => enabled_of_lit phased hi)
  have stoppedMode : (orderEach orderStop (litLanes ((commandBeacon false s).putPhase .stopping 0))
      ((commandBeacon false s).putPhase .stopping 0)).mode = .startup := by
    rw [State.mode, orderEach_meter orderStop (by simp), ← State.mode, mode]
  exact meterInv_checkStopped (meterInv_of_base stopped (by simp [stoppedMode]))

/-- What a rest order leaves a resting lane with. -/
theorem restLane_held (x : Lane) (h : (restLane x).state = .restGreen) : (restLane x).held = none := by
  cases e : x.state <;> simp_all [restLane, Lane.toRestGreen]

/-- SHUTDOWN before the rest orders. -/
def shutdownEntered (cause : ModeCause) (s : State) : State :=
  (leaveReleases ((commandBeacon false (changeMode .shutdown cause s)).putHold none)).putPhase .finishing 0

theorem shutdown_eq (cause : ModeCause) (s : State) :
    shutdown cause s =
      checkResting (orderEach orderRest (workingLanes (commandBeacon false (changeMode .shutdown cause s))) (shutdownEntered cause s)) := by
  rfl

theorem shutdownEntered_meter (cause : ModeCause) (s : State) :
    (shutdownEntered cause s).meter =
      { s.meter with mode := .shutdown, beacon := false, hold := none, phase := .finishing, seqTimer := 0 } := by
  simp [shutdownEntered, State.putHold, State.putPhase]

theorem meterBase_shutdownEntered {s : State} (cause : ModeCause) (inv : MeterInv s) (service : inService s = true) :
    MeterBase (shutdownEntered cause s) := by
  have meter := shutdownEntered_meter cause s
  have mode : (shutdownEntered cause s).mode = .shutdown := by rw [State.mode, meter]
  have lane : ∀ i, (shutdownEntered cause s).lane i = s.lane i := fun i => by simp [shutdownEntered]
  have drive : ∀ i c, (shutdownEntered cause s).drive (driveOf i c) = s.drive (driveOf i c) := fun i c => by
    simp [shutdownEntered]
  have plans : (shutdownEntered cause s).plans = s.plans := by simp [shutdownEntered]
  have locked : (shutdownEntered cause s).locked = s.locked := by simp [shutdownEntered]
  refine ⟨fun i c => by rw [drive, lane]; exact inv.lamps i c, ?_, by simp [mode], fun _ => ?_, fun _ i he => ?_, ?_⟩
  · rw [meter]
    simp [shutdownEntered, driverOutput]
  · rw [plans, locked]
    exact inv.locked service
  · rw [lane]
    exact inv.unused service i (by rwa [enabled_congr (s := s) (by rw [plans])] at he)
  · rw [HoldsInHold, mode, meter]
    simp

theorem meterInv_shutdown {s : State} (cause : ModeCause) (inv : MeterInv s) (hs : engaged s = true) : MeterInv (shutdown cause s) := by
  have base := meterBase_shutdownEntered cause inv (engaged_inService hs)
  have entered : (shutdownEntered cause s).mode = .shutdown := by rw [State.mode, shutdownEntered_meter]
  have phase : (shutdownEntered cause s).meter.phase = .finishing := by rw [shutdownEntered_meter]
  have same : workingLanes (commandBeacon false (changeMode .shutdown cause s)) = workingLanes (shutdownEntered cause s) :=
    workingLanes_congr (by simp [shutdownEntered]) (fun i => by simp [shutdownEntered])
  rw [shutdown_eq, same]
  generalize shutdownEntered cause s = u at base entered phase
  have rested := meterBase_orderEach (l := workingLanes u) (g := fun s i => restLane (s.lane i)) actsOnLane_rest base (by simp [entered])
    (fun i hi _ => enabled_of_working ((mem_workingLanes u i).mp hi))
  have lanes := lane_orderRests (workingLanes_nodup u) u
  have meter : (orderEach orderRest (workingLanes u) u).meter = u.meter := by simp
  have mode : (orderEach orderRest (workingLanes u) u).mode = .shutdown := by rw [State.mode, meter, ← State.mode, entered]
  refine meterInv_checkResting ((meterInv_iff _).mpr ⟨rested, ⟨fun _ i hi => ?_, fun _ p => ?_⟩, by simp [engaged, mode]⟩)
  · rw [lanes] at hi ⊢
    split at hi
    · next h => rw [if_pos h]; exact restLane_held _ hi
    · next h =>
      have dark := dark_of_not_working base (by simp [inService, entered]) (by simpa [mem_workingLanes] using h)
      rw [hi] at dark
      simp [darkLane] at dark
  · rw [meter, phase] at p
    cases p

theorem actsOnLane_returnLane (i : Fin 3) (s : State) : ∃ x, ActsOnLane i x s (returnLane i s) ∧ ((s.lane i).state = .off → x.state = .off) ∧
    ((s.lane i).state = .faulted → x.state = .faulted) := by
  cases h : (s.lane i).state <;> simp only [returnLane, h]
  case restGreen => exact ⟨_, actsOnLane_clear i s, by simp, by simp⟩
  case green | amber => exact ⟨{ s.lane i with restAwaits := false }, .inr ⟨rfl, rfl⟩, by simp, by simp⟩
  case off | red | ready | faulted => exact ⟨_, .same i s, by simp [h], by simp [h]⟩

theorem meterInv_returnToMetering {s : State} (inv : MeterInv s) (hm : s.mode = .shutdown) : MeterInv (returnToMetering s) := by
  have changed := meterBase_changeMode (s := s) (m := .metering) .start (meterBase_of_inv inv) (by simp [inService, hm]) (by simp) (by simp [hm])
  have mode : (changeMode .metering .start s).mode = .metering := by simp
  have lit := meterBase_commandBeacon true changed (.inr (by simp [mode]))
  have phased : MeterBase ((commandBeacon true (changeMode .metering .start s)).putPhase .idle 0) :=
    ⟨lit.lamps, lit.beacon, lit.dark, lit.locked, lit.unused, lit.hold⟩
  have phasedMode : ((commandBeacon true (changeMode .metering .start s)).putPhase .idle 0).mode = .metering := by
    simp [State.mode, State.putPhase]
  have returned := orderEach_keeps (P := fun u => MeterBase u ∧ u.mode = .metering) (f := returnLane) (l := allLanes)
    (s := (commandBeacon true (changeMode .metering .start s)).putPhase .idle 0) (fun i _ u hu => ?_) ⟨phased, phasedMode⟩
  · have formed := meterInv_formRing returned.1 returned.2
    unfold returnToMetering entryFromShutdown
    dsimp only
    split
    · exact formed
    · exact meterInv_runCombine true (meterInv_rate _ formed)
  · obtain ⟨b, m⟩ := hu
    obtain ⟨x, a, off, faulted⟩ := actsOnLane_returnLane i u
    refine ⟨meterBase_acts a b (by simp [m]) (fun e he => ?_), a.mode.trans m⟩
    obtain h | h := b.unused e i he
    · exact .inl (off h)
    · exact .inr (faulted h)

theorem meterInv_actOnStop {s : State} (cause : ModeCause) (inv : MeterInv s) : MeterInv (actOnStop cause s) := by
  unfold actOnStop
  split
  case h_1 hm =>
    split
    · exact inv
    · exact meterInv_interruptStartup inv hm
  case h_2 hm | h_3 hm => exact meterInv_shutdown cause inv (by simp [engaged, hm])
  case h_4 | h_5 | h_6 | h_7 => exact inv

theorem meterInv_actOnStart {s : State} (inv : MeterInv s) : MeterInv (actOnStart s) := by
  unfold actOnStart
  split
  case h_1 => exact meterInv_tryStart _ inv
  case h_2 hm => exact meterInv_returnToMetering inv hm
  case h_3 | h_4 | h_5 | h_6 | h_7 => exact inv

theorem meterInv_judgeWish {s : State} (inv : MeterInv s) : MeterInv (judgeWish s) := by
  unfold judgeWish
  split
  · exact meterInv_actOnStart inv
  · exact meterInv_actOnStop _ inv
  · exact inv

theorem meterInv_resolve {s : State} (inv : MeterInv s) : MeterInv (resolve s) := by
  refine meterInv_judgeWish ?_
  unfold formResolved
  split
  · exact inv
  · exact meterInv_meter (s := s) _ inv rfl rfl rfl rfl

end Sys2Proof.Agreement
end

section
/-! The agreement of lamps, lanes, ring, lock and mode, continued: manual control, faults, detectors, plans and closes, and
with them every step. -/

namespace Sys2Proof.Agreement
open Sys2Proof.Machine Sys2Proof.Steps Sys2Proof.Holders Sys2Proof.LaneLaws Sys2Proof.AbsentLinks

/-! ### Manual control -/

/-- The base in MANUAL, where a lane may take any state. -/
def ManualBase (s : State) : Prop := MeterBase s ∧ s.mode = .manual

theorem manualBase_acts {i : Fin 3} {x : Lane} {s t : State} (a : ActsOnLane i x s t) (b : ManualBase s) : ManualBase t :=
  ⟨meterBase_acts a b.1 (by simp [b.2]) (by simp [inService, b.2]), a.mode.trans b.2⟩

theorem manualBase_setAspectOf {s : State} (i : Fin 3) (a : Option Aspect) (b : ManualBase s) : ManualBase (s.setAspectOf i a) :=
  ⟨⟨b.1.lamps, b.1.beacon, b.1.dark, b.1.locked, b.1.unused, b.1.hold⟩, b.2⟩

theorem manualBase_workOnce {s : State} (i : Fin 3) (b : ManualBase s) : ManualBase (workOnce i s) := by
  unfold workOnce
  split
  · exact b
  · split
    · exact manualBase_acts (actsOnLane_clear i s) b
    · exact manualBase_acts (actsOnLane_go i s) b
    · obtain ⟨-, e⟩ | ⟨-, e⟩ := handStop_cases i s <;> rw [e]
      · exact b
      · exact manualBase_acts (actsOnLane_stop i s) b
    · exact manualBase_setAspectOf i none b
    · exact b

theorem manualBase_workLane {s : State} (i : Fin 3) (b : ManualBase s) : ManualBase (workLane i s) := by
  unfold workLane
  dsimp only
  split
  · exact manualBase_workOnce i b
  · exact manualBase_workOnce i (manualBase_workOnce i b)

theorem meterInv_of_manual {s : State} (b : ManualBase s) : MeterInv s := meterInv_of_base b.1 (by simp [b.2])

/-- MANUAL before the lanes are taken. -/
def manualEntered (s : State) : State :=
  leaveReleases (((changeMode .manual .manualEntered s).putPhase .idle 0).putHold none)

theorem enterManual_eq (s : State) : enterManual s = orderEach takeManual allLanes (manualEntered s) := by rfl

theorem meterInv_enterManual {s : State} (inv : MeterInv s) : MeterInv (enterManual s) := by
  have meter : (manualEntered s).meter = { s.meter with mode := .manual, phase := .idle, seqTimer := 0, hold := none } := by
    simp [manualEntered, State.putHold, State.putPhase]
  have mode : (manualEntered s).mode = .manual := by rw [State.mode, meter]
  have entered : ManualBase (manualEntered s) := by
    refine ⟨meterBase_of_lamps (fun i c => ?_) ?_ (by simp [mode]) (by simp [inService, mode]) (by rw [meter]), mode⟩
    · simpa [manualEntered] using inv.lamps i c
    · rw [meter]
      simpa [manualEntered] using inv.beacon
  rw [enterManual_eq]
  refine meterInv_of_manual (orderEach_keeps (fun i _ u b => ?_) entered)
  unfold takeManual
  split
  · exact b
  · exact manualBase_workLane i (manualBase_setAspectOf i _ (manualBase_acts (x := { u.lane i with restAwaits := false }) (.inr ⟨rfl, rfl⟩) b))

/-- What a cut order leaves of a lane is dark. -/
theorem cutLane_dark (x : Lane) : darkLane (cutLane x).state := by
  cases e : x.state <;> simp [cutLane, e, Lane.toOFF, darkLane]

theorem lampsAgree_cuts {s : State} (l : List (Fin 3)) (h : LampsAgree s) : LampsAgree (orderEach orderCut l s) :=
  orderEach_keeps (fun i _ _ h => lampsAgree_acts (actsOnLane_cut i _) h (.inr (cutLane_dark _))) h

theorem cuts_dark (s : State) (i : Fin 3) : darkLane ((orderEach orderCut allLanes s).lane i).state := by
  rw [lane_orderCuts allLanes_nodup, if_pos (mem_allLanes i)]
  exact cutLane_dark _

theorem meterInv_endManual {s : State} (cause : ModeCause) (inv : MeterInv s) : MeterInv (endManual cause s) := by
  have lamps : LampsAgree (orderEach orderCut allLanes (clearAspects s)) :=
    lampsAgree_cuts allLanes (s := clearAspects s) inv.lamps
  unfold endManual
  refine meterInv_enterDarkJudged cause (fun i c => ?_) fun i => ?_
  · simpa using lamps i c
  · simpa using cuts_dark (clearAspects s) i

/-! ### Meter faults -/

/-- FAULT_DARK before the lanes are cut. -/
def faultDarkEntered (s : State) : State :=
  commandBeacon false (leaveReleases (clearAspects (((drivesOff (changeMode .faultDark .meterFault s)).putPhase .idle 0).putHold none)))

theorem enterFaultDark_eq (s : State) : enterFaultDark s = orderEach orderCut allLanes (faultDarkEntered s) := by rfl

theorem faultDarkEntered_meter (s : State) :
    (faultDarkEntered s).meter =
      { s.meter with mode := .faultDark, phase := .idle, seqTimer := 0, hold := none, beacon := false,
                     aspects := Vector.replicate 3 none } := by
  simp [faultDarkEntered, clearAspects, State.putPhase, State.putHold]

theorem drivesOff_commanded (s : State) (k : Fin 10) : ((drivesOff s).drive k).commanded = false := by
  simp [drivesOff, State.drive]

/-- No drive of a lane is commanded on. -/
def LanesUnlit (s : State) : Prop := ∀ i c, (s.drive (driveOf i c)).commanded = false

theorem lanesUnlit_cut {s : State} (i : Fin 3) (h : LanesUnlit s) : LanesUnlit (orderCut i s) := by
  intro j c
  obtain e | ⟨-, e⟩ := actsOnLane_cut i s <;> rw [e]
  · rw [drive_enterLane]
    split
    · rw [Drive.command_commanded, commands_dark (cutLane_dark _)]
      rfl
    · exact h j c
  · exact h j c

theorem cut_beaconDrive (i : Fin 3) (s : State) : (orderCut i s).drive beaconDrive = s.drive beaconDrive :=
  (actsOnLane_cut i s).beaconDrive

theorem meterInv_enterFaultDark (s : State) : MeterInv (enterFaultDark s) := by
  have entered : LanesUnlit (faultDarkEntered s) := fun i c => by simp [faultDarkEntered, drivesOff_commanded]
  have beacon : ((faultDarkEntered s).drive beaconDrive).commanded = false := by simp [faultDarkEntered, driverOutput]
  have unlit : LanesUnlit (orderEach orderCut allLanes (faultDarkEntered s)) :=
    orderEach_keeps (fun i _ _ => lanesUnlit_cut i) entered
  have beacon' : ((orderEach orderCut allLanes (faultDarkEntered s)).drive beaconDrive).commanded = false :=
    orderEach_keeps (P := fun u => (u.drive beaconDrive).commanded = false)
      (fun i _ u h => by rwa [cut_beaconDrive]) beacon
  have meter : (orderEach orderCut allLanes (faultDarkEntered s)).meter = (faultDarkEntered s).meter := by simp
  have dark := cuts_dark (faultDarkEntered s)
  rw [enterFaultDark_eq]
  refine meterInv_of_base (meterBase_of_lamps (fun i c => ?_) ?_ (fun _ => ⟨dark, ?_⟩) ?_ ?_) ?_
  · rw [unlit, commands_dark (dark i)]
  · rw [beacon', meter, faultDarkEntered_meter]
  · rw [meter, faultDarkEntered_meter]
  · rw [inService, State.mode, meter, faultDarkEntered_meter]
    rfl
  · rw [meter, faultDarkEntered_meter]
  · rw [State.mode, meter, faultDarkEntered_meter]
    simp

theorem meterInv_meterFault {s : State} (i : Fin 3) (cause : MeterFaultCause) (inv : MeterInv s) : MeterInv (meterFault i cause s) := by
  unfold meterFault
  dsimp only
  split
  · exact meterInv_post _ _ _ inv
  · exact meterInv_enterFaultDark _

/-! ### Lane faults and restores -/

/-- A lane that has become FAULTED leaves the ring. -/
def leaveRing (i : Fin 3) (s : State) : State :=
  (s.setAspectOf i none).setRelease (s.sched.ring.erase i) s.sched.elapsed s.sched.releasePending

theorem faultLane_eq (i : Fin 3) (s : State) : faultLane i s = leaveRing i (enterLane i (s.lane i).toFaulted s) := by
  dsimp only [faultLane, leaveRing]

theorem leaveRing_ring (i : Fin 3) (s : State) : (leaveRing i s).sched.ring = s.sched.ring.erase i := by simp [leaveRing, State.setRelease]

theorem leaveRing_lane (i j : Fin 3) (s : State) : (leaveRing i s).lane j = s.lane j := by simp [leaveRing]

theorem meterBase_leaveRing {s : State} (i : Fin 3) (b : MeterBase s) : MeterBase (leaveRing i s) :=
  ⟨b.lamps, b.beacon, b.dark, b.locked, b.unused, b.hold⟩

theorem restAgrees_leaveRing {s : State} (i : Fin 3) (r : RestAgrees s) : RestAgrees (leaveRing i s) := ⟨r.noHeld, r.resting⟩

theorem restAgrees_toFaulted {s : State} (i : Fin 3) (r : RestAgrees s) : RestAgrees (enterLane i (s.lane i).toFaulted s) := by
  have mode : (enterLane i (s.lane i).toFaulted s).mode = s.mode := by simp [State.mode]
  refine ⟨fun m j hj => ?_, fun m p j => ?_⟩
  · rw [lane_enterLane] at hj ⊢
    split at hj
    · simp [Lane.toFaulted] at hj
    · next h => rw [if_neg h]; exact r.noHeld (mode ▸ m) j hj
  · rw [lane_enterLane]
    split
    · exact .inr (.inr rfl)
    · exact r.resting (mode ▸ m) (by simpa using p) j

theorem ringAgrees_faultLane {s : State} (i : Fin 3) (ring : RingAgrees s) : RingAgrees (faultLane i s) := by
  obtain ⟨nodup, mem⟩ := ring
  have ring' : (faultLane i s).sched.ring = s.sched.ring.erase i := by rw [faultLane_eq, leaveRing_ring, enterLane_ring]
  have lane : ∀ j, (faultLane i s).lane j = if j = i then (s.lane i).toFaulted else s.lane j := fun j => by
    rw [faultLane_eq, leaveRing_lane, lane_enterLane]
  have on : ∀ j, enabled (faultLane i s) j = enabled s j := enabled_congr (by simp)
  refine ⟨ring' ▸ nodup.erase i, fun j => ?_⟩
  rw [ring', nodup.mem_erase_iff, mem, working, working, isFaulted, isFaulted, lane, on]
  by_cases h : j = i
  · simp [h, Lane.toFaulted]
  · simp [h]

theorem meterInv_faultLane {s : State} (i : Fin 3) (inv : MeterInv s) : MeterInv (faultLane i s) := by
  obtain ⟨b, r, ring⟩ := (meterInv_iff s).mp inv
  have mode : (faultLane i s).mode = s.mode := by simp [faultLane_eq, leaveRing, State.mode, State.setAspectOf]
  have base := meterBase_acts (x := (s.lane i).toFaulted) (t := enterLane i (s.lane i).toFaulted s) (.inl rfl) b
    (fun _ => .inr rfl) (fun _ _ => .inr rfl)
  refine (meterInv_iff _).mpr ⟨faultLane_eq i s ▸ meterBase_leaveRing i base,
    faultLane_eq i s ▸ restAgrees_leaveRing i (restAgrees_toFaulted i r), fun e => ?_⟩
  rw [engaged_congr mode] at e
  exact ringAgrees_faultLane i (ring e)

theorem meterInv_laneFault {s : State} (i : Fin 3) (c : Colour) (w : WatchKind) (inv : MeterInv s) :
    MeterInv (laneFault i c w s) := by
  have posted := meterInv_post .laneFault (i.val + 1) (twoBytes c.code (watchCode w)) inv
  unfold laneFault
  dsimp only
  split
  · exact posted
  · have faulted := meterInv_recombineFault (meterInv_faultLane i posted)
    split
    · exact meterInv_meterFault _ _ faulted
    · exact meterInv_judgeWish (meterInv_advanceSequence faulted)

theorem meterInv_consequence {s : State} (k : Fin 10) (w : WatchKind) (inv : MeterInv s) : MeterInv (consequence k w s) := by
  unfold consequence
  split
  · exact meterInv_post _ _ _ inv
  · split
    · exact meterInv_meterFault _ _ inv
    · exact meterInv_laneFault _ _ _ inv
  · split
    · exact meterInv_laneFault _ _ _ inv
    · split
      · exact meterInv_laneFault _ _ _ inv
      · exact meterInv_meterFault _ _ inv
  · split
    · exact meterInv_laneFault _ _ _ inv
    · split
      · exact meterInv_post _ _ _ inv
      · exact meterInv_laneFault _ _ _ inv

/-- A drive with the same command is nothing to the invariant. -/
theorem meterInv_setDrive {s : State} (k : Fin 10) {x : Drive} (inv : MeterInv s) (hx : x.commanded = (s.drive k).commanded) :
    MeterInv (s.setDrive k x) := by
  refine meterInv_of_same (s := s) (t := s.setDrive k x)
    ⟨fun _ => ⟨rfl, rfl⟩, fun j => ?_, rfl, rfl, rfl, rfl, rfl, id, fun _ => ⟨fun _ => rfl, id⟩⟩ inv
  rw [drive_setDrive]
  split
  · next e => rw [hx, e]
  · rfl

theorem meterInv_latch {s : State} (k : Fin 10) (w : WatchKind) (inv : MeterInv s) : MeterInv (latch k w s) := by
  unfold latch
  split
  · exact meterInv_consequence k w (meterInv_setDrive k inv (by simp))
  · exact inv

theorem clearLaneWatches_commanded (i : Fin 3) (s : State) (k : Fin 10) :
    ((clearLaneWatches i s).drive k).commanded = (s.drive k).commanded := by
  have one : ∀ (c : Colour) (u : State),
      ((u.setDrive (driveOf i c) ((u.drive (driveOf i c)).clearWatches u.limits)).drive k).commanded = (u.drive k).commanded := by
    intro c u
    rw [drive_setDrive]
    split
    · next e => rw [Drive.clearWatches_commanded, e]
    · rfl
  unfold clearLaneWatches
  simp only [List.foldl]
  rw [one, one, one]

/-- A restored lane joins the ring at its tail. -/
def joinRing (i : Fin 3) (s : State) : State := s.setRelease (s.sched.ring ++ [i]) s.sched.elapsed s.sched.releasePending

theorem joinRing_ring (i : Fin 3) (s : State) : (joinRing i s).sched.ring = s.sched.ring ++ [i] := by simp [joinRing, State.setRelease]

theorem joinRing_lane (i j : Fin 3) (s : State) : (joinRing i s).lane j = s.lane j := by simp [joinRing]

theorem meterInv_restoreLane {s : State} (i : Fin 3) (inv : MeterInv s) (faulted : isFaulted s i = true)
    (hm : s.mode = .metering ∨ s.mode = .hold ∨ s.mode = .manual) : MeterInv (restoreLane i s) := by
  have lit : ¬(s.mode = .dark ∨ s.mode = .faultDark) := by
    rintro (h | h) <;> simp [h] at hm
  have open_ : s.mode ≠ .shutdown := by
    intro h
    simp [h] at hm
  simp only [isFaulted, beq_iff_eq] at faulted
  unfold restoreLane
  split
  · next m =>
    refine meterInv_of_manual (manualBase_acts (.inl rfl) ⟨meterBase_of_inv inv, m⟩)
  · next m =>
    have engage : engaged s = true := by simp only [engaged, Bool.or_eq_true, beq_iff_eq]; tauto
    obtain ⟨b, -, ring⟩ := (meterInv_iff s).mp inv
    obtain ⟨nodup, mem⟩ := ring engage
    have absent : i ∉ s.sched.ring := by rw [mem]; simp [working, isFaulted, faulted]
    split
    · next on =>
      have base := meterBase_acts (s := s) (t := enterLane i ((s.lane i).toRed (redTime s)) s) (x := (s.lane i).toRed (redTime s))
        (.inl rfl) b (fun d => absurd d lit) (fun _ he => by simp [on] at he)
      have on' : ∀ j, enabled (joinRing i (enterLane i ((s.lane i).toRed (redTime s)) s)) j = enabled s j :=
        enabled_congr (by simp [joinRing])
      change MeterInv (joinRing i (enterLane i ((s.lane i).toRed (redTime s)) s))
      have ring' : (joinRing i (enterLane i ((s.lane i).toRed (redTime s)) s)).sched.ring = s.sched.ring ++ [i] := by
        rw [joinRing_ring, enterLane_ring]
      refine (meterInv_iff _).mpr ⟨⟨base.lamps, base.beacon, base.dark, base.locked, base.unused, base.hold⟩,
        .of_mode (s := joinRing i (enterLane i ((s.lane i).toRed (redTime s)) s)) open_, fun _ =>
        ⟨ring' ▸ by simpa [List.nodup_append] using ⟨nodup, fun a ha e => absent (e ▸ ha)⟩, fun j => ?_⟩⟩
      rw [ring', List.mem_append, mem, List.mem_singleton, working, working, isFaulted, isFaulted, joinRing_lane, lane_enterLane, on']
      by_cases h : j = i
      · simp [h, on, Lane.toRed]
      · simp [h]
    · next off =>
      have off : enabled s i = false := by simpa using off
      obtain ⟨b', r', -⟩ := (meterInv_iff s).mp inv
      have base := meterBase_acts (s := s) (t := enterLane i (s.lane i).toOFF s) (x := (s.lane i).toOFF) (.inl rfl) b
        (fun d => absurd d lit) (fun _ _ => .inl rfl)
      refine (meterInv_iff _).mpr ⟨base, .of_mode open_, fun _ => ?_⟩
      refine ⟨(enterLane_ring i (s.lane i).toOFF s).symm ▸ nodup, fun j => ?_⟩
      rw [enterLane_ring, mem, working, working, isFaulted, isFaulted, lane_enterLane,
        enabled_congr (s := s) (t := enterLane i (s.lane i).toOFF s) (by simp)]
      by_cases h : j = i
      · simp [h, off]
      · simp [h]

theorem meterInv_clearLaneFault {s : State} (i : Fin 3) (inv : MeterInv s) (faulted : isFaulted s i = true)
    (hm : s.mode = .metering ∨ s.mode = .hold ∨ s.mode = .manual) : MeterInv (clearLaneFault i s) := by
  have lane : ∀ j, (clearLaneWatches i s).lane j = s.lane j := fun j => by simp [State.lane]
  have cleared : MeterInv (clearLaneWatches i s) :=
    meterInv_of_same (s := s) (t := clearLaneWatches i s) ⟨fun j => by rw [lane]; exact ⟨rfl, rfl⟩, clearLaneWatches_commanded i s, by simp [State.mode], by simp, by simp,
      by simp, by simp, by simp, fun _ => ⟨enabled_congr (s := s) (t := clearLaneWatches i s) (by simp), by simp⟩⟩ inv
  rw [clearLaneFault_eq]
  refine meterInv_recombine (meterInv_restoreLane i (meterInv_post _ _ _ cleared) ?_ ?_)
  · rw [isFaulted, lane_post, lane]; exact faulted
  · simpa [State.mode] using hm

/-! ### Lanes that change by themselves -/

theorem meterInv_afterLaneChange {s : State} (i : Fin 3) (inv : MeterInv s) : MeterInv (afterLaneChange i s) := by
  unfold afterLaneChange
  split
  · next m => exact meterInv_of_manual (manualBase_workLane i ⟨meterBase_of_inv inv, m⟩)
  · exact meterInv_advanceSequence inv

theorem meterInv_endGreen {s : State} {i : Fin 3} (inv : MeterInv s) (h : (s.lane i).state = .green) : MeterInv (endGreen i s) :=
  meterInv_enterMoving inv (by simp [darkLane, h]) (by simp [h]) (by simp [Lane.toAmber]) (by simp [Lane.toAmber])

theorem meterInv_endAmber {s : State} {i : Fin 3} (inv : MeterInv s) (h : (s.lane i).state = .amber) : MeterInv (endAmber i s) := by
  have moving : ¬ darkLane (s.lane i).state := by simp [darkLane, h]
  unfold endAmber
  split
  · exact meterInv_enterMoving inv moving (by simp [h]) (by simp [Lane.toOFF]) (by simp [Lane.toOFF])
  · have red := meterInv_enterMoving (x := (s.lane i).toRed (redTime s)) inv moving (by simp [h]) (by simp [Lane.toRed]) (by simp [Lane.toRed])
    dsimp only
    split
    · have shown : ((enterLane i ((s.lane i).toRed (redTime s)) s).lane i).state = .red := by simp [Lane.toRed]
      unfold orderRest
      rw [shown]
      exact meterInv_enterMoving red (by rw [shown]; simp [darkLane]) (by rw [shown]; simp) (by simp [Lane.toRestGreen])
        (by simp [Lane.toRestGreen])
    · exact red

theorem meterInv_endRed {s : State} {i : Fin 3} (inv : MeterInv s) (h : (s.lane i).state = .red) : MeterInv (endRed i s) :=
  meterInv_enterMoving inv (by simp [darkLane, h]) (by simp [h]) (by simp [Lane.toReady]) (by simp [Lane.toReady])

/-- A held order that is due makes a lane that shows green AMBER. -/
theorem carryOutHeld_due {s : State} {i : Fin 3} (h : heldDue s i = true) :
    ∃ off, carryOutHeld i s = enterLane i ((s.lane i).toAmber (amberTime s) off) s := by
  simp only [heldDue, Bool.and_eq_true, Bool.not_eq_true', Lane.showsGreen, Bool.or_eq_true, beq_iff_eq] at h
  obtain ⟨⟨held, green⟩, age⟩ := h
  obtain ⟨o, ho⟩ := Option.isSome_iff_exists.mp held
  cases o <;> obtain g | g := green <;> simp [carryOutHeld, ho, orderClear, orderStop, g, age]

theorem meterInv_judgeHeld {s : State} (i : Fin 3) (inv : MeterInv s) : MeterInv (judgeHeld i s) := by
  unfold judgeHeld
  split
  · next h =>
    obtain ⟨off, e⟩ := carryOutHeld_due h
    rw [e]
    simp only [heldDue, Bool.and_eq_true, Bool.not_eq_true', Lane.showsGreen, Bool.or_eq_true, beq_iff_eq] at h
    obtain ⟨⟨held, green⟩, -⟩ := h
    refine meterInv_afterLaneChange i (meterInv_enterMoving inv ?_ (fun m rest => ?_) (by simp [Lane.toAmber]) (by simp [Lane.toAmber]))
    · rintro (d | d) <;> simp [d] at green
    · rw [inv.noHeld m i rest] at held
      cases held
  · exact inv

/-- A lane with the same state and held order is nothing to the invariant. -/
theorem meterInv_setLane {s : State} (i : Fin 3) {x : Lane} (inv : MeterInv s) (hx : x.state = (s.lane i).state)
    (hh : x.held = (s.lane i).held) : MeterInv (s.setLane i x) := by
  refine meterInv_of_same (s := s) (t := s.setLane i x)
    ⟨fun j => ?_, fun _ => rfl, rfl, rfl, rfl, rfl, rfl, id, fun _ => ⟨fun _ => rfl, id⟩⟩ inv
  rw [lane_setLane]
  split
  · next e => rw [hx, hh, e]; exact ⟨rfl, rfl⟩
  · exact ⟨rfl, rfl⟩

/-! ### Detectors and spill -/

theorem meterInv_spillRises {s : State} (b : Bool) (d : Fin 16) (inv : MeterInv s) : MeterInv (spillRises b d s) := by
  have put : MeterInv ((s.putSpill true).post .spillOn (d.val + 1) 0) := meterInv_post _ _ _ (meterInv_rate _ inv)
  unfold spillRises
  dsimp only
  refine meterInv_endHold _ _ ?_
  split
  · exact meterInv_recombine put
  · exact put

theorem meterInv_spillFalls {s : State} (b : Bool) (detail : Nat) (inv : MeterInv s) : MeterInv (spillFalls b detail s) := by
  have put : MeterInv ((s.putSpill false).post .spillOff 0 detail) := meterInv_post _ _ _ (meterInv_rate _ inv)
  unfold spillFalls
  dsimp only
  split
  · exact meterInv_recombine put
  · exact put

theorem meterInv_judgeSpillOn {s : State} (b : Bool) (inv : MeterInv s) : MeterInv (judgeSpillOn b s) := by
  unfold judgeSpillOn
  split
  · exact inv
  · split
    · exact meterInv_spillRises b _ inv
    · exact inv

theorem meterInv_judgeSpillOff {s : State} (b : Bool) (inv : MeterInv s) : MeterInv (judgeSpillOff b s) := by
  unfold judgeSpillOff
  split
  · split
    · exact meterInv_spillFalls b _ inv
    · exact inv
  · exact inv

theorem meterInv_judgeSpill {s : State} (b : Bool) (inv : MeterInv s) : MeterInv (judgeSpill b s) := by
  unfold judgeSpill
  split
  · exact meterInv_judgeSpillOff b inv
  · exact meterInv_judgeSpillOn b inv

theorem meterInv_raiseFault {s : State} (d : Fin 16) (k : FaultKind) (inv : MeterInv s) : MeterInv (raiseFault d k s) := by
  have raised : MeterInv (faultRaised d k s) :=
    meterInv_of_blocks (by simp [faultRaised]) (by simp [faultRaised]) (by simp [faultRaised]) (by simp [faultRaised])
      (by simp [faultRaised]) inv
  rw [raiseFault_eq]
  split
  · exact meterInv_judgeSpillOff true raised
  · exact raised

theorem meterInv_passageNotice {s : State} (i : Fin 3) (inv : MeterInv s) : MeterInv (passageNotice i s) := by
  have counted : ∀ x, MeterInv (s.setDfeLane i x) := fun _ =>
    meterInv_of_blocks (by simp) (by simp) (by simp) (by simp) (by simp) inv
  unfold passageNotice
  split
  · exact inv
  · split
    · exact inv
    · dsimp only
      split
      · exact meterInv_raiseFault _ _ (counted _)
      · exact counted _

theorem meterInv_passage {s : State} (i : Fin 3) (inv : MeterInv s) : MeterInv (passage i s) := by
  unfold passage
  split
  · exact inv
  all_goals exact meterInv_passageNotice i (meterInv_setLane i inv rfl rfl)

theorem meterInv_risingEdge {s : State} (d : Fin 16) (inv : MeterInv s) : MeterInv (risingEdge d s) := by
  have shown : ∀ x, MeterInv (s.setInput d x) := fun _ =>
    meterInv_of_blocks (by simp) (by simp) (by simp) (by simp) (by simp) inv
  have demand : ∀ x (u : State), MeterInv u → MeterInv (demandShown x d u) := fun x u inv => by
    unfold demandShown
    split
    · exact meterInv_of_blocks (by simp) (by simp) (by simp) (by simp) (by simp) inv
    · exact inv
  have chatter : ∀ x (u : State), MeterInv u → MeterInv (chatterJudged x d u) := fun x u inv => by
    unfold chatterJudged
    split
    · exact meterInv_raiseFault _ _ inv
    · exact inv
  have taken : ∀ x (u : State), MeterInv u → MeterInv (passageTaken x u) := fun x u inv => by
    unfold passageTaken
    split
    · exact meterInv_passage _ inv
    · exact inv
  rw [risingEdge_eq]
  exact meterInv_takePending (taken _ _ (chatter _ _ (demand _ _ (shown _))))

theorem meterInv_edge {s : State} (d : Fin 16) (level : Bool) (inv : MeterInv s) : MeterInv (edge d level s) := by
  unfold edge
  split
  · exact meterInv_risingEdge d inv
  · exact meterInv_of_blocks (by simp) (by simp) (by simp) (by simp) (by simp) inv

theorem meterInv_rawChange {s : State} (d : Fin 16) (level : Bool) (inv : MeterInv s) : MeterInv (rawChange d level s) := by
  have put : ∀ (u : State) x, MeterInv u → MeterInv (u.setInput d x) := fun _ _ =>
    meterInv_of_blocks (by simp) (by simp) (by simp) (by simp) (by simp)
  unfold rawChange
  dsimp only
  split
  · exact inv
  · split
    · exact put _ _ inv
    · split
      · exact meterInv_edge _ _ (put _ _ inv)
      · exact put _ _ (put _ _ inv)

theorem meterInv_writeMap {s : State} (p : List Byte) (inv : MeterInv s) : MeterInv (writeMap p s) := by
  have written : MeterInv (mapWritten p s) :=
    meterInv_of_blocks (by simp [mapWritten]) (by simp [mapWritten]) (by simp [mapWritten]) (by simp [mapWritten])
      (by simp [mapWritten]) inv
  rw [writeMap_eq]
  exact meterInv_takePending (meterInv_judgeSpillOff true written)

/-! ### Plans -/

/-- Outside service the plan in force is nothing to the invariant. -/
theorem meterInv_of_plans {s : State} (p : PlanStore) (inv : MeterInv s) (h : inService s = false) :
    MeterInv { s with plans := p } :=
  meterInv_of_same (s := s) (t := { s with plans := p })
    ⟨fun _ => ⟨rfl, rfl⟩, fun _ => rfl, rfl, rfl, rfl, rfl, rfl, id, fun e => by simp [h] at e⟩ inv

theorem meterInv_planChanged {s : State} (inv : MeterInv s) : MeterInv (planChanged s) := by
  have floor : MeterInv (setFloor false 65535 s) := by
    unfold setFloor
    split
    · exact inv
    · exact meterInv_post _ _ _ (meterInv_rate _ inv)
  unfold planChanged
  refine meterInv_judgeSpill true ?_
  split
  · split
    · exact inv
    · exact floor
  · exact floor

theorem meterInv_applySlot_idle {s : State} (k : Fin 8) (inv : MeterInv s) (h : inService s = false) : MeterInv (applySlot k s) :=
  meterInv_post _ _ _ (meterInv_of_plans _ inv h)

theorem planEnables_congr {a b : List Byte} (h : planLaneSet a = planLaneSet b) (i : Fin 3) : planEnables a i = planEnables b i := by
  have : a.getD 1 0 = b.getD 1 0 := BitVec.eq_of_toNat_eq h
  rw [planEnables, planEnables, this]

/-- A plan with the lane set of the plan in force may take its place in service. -/
theorem meterInv_applySlot_same {s : State} {img : List Byte} (k : Fin 8) (inv : MeterInv s) (plan : s.plans.plan = some img)
    (same : planLaneSet img = planLaneSet (s.slot k).image) : MeterInv (applySlot k s) := by
  refine meterInv_of_same (s := s) (t := applySlot k s)
    ⟨fun _ => ⟨rfl, rfl⟩, fun _ => rfl, rfl, rfl, rfl, rfl, rfl, id, fun _ => ⟨fun i => ?_, fun _ => ?_⟩⟩ inv
  · have applied : (applySlot k s).plans.plan = some (s.slot k).image := by simp [applySlot]
    simp only [enabled, applied, plan]
    exact (planEnables_congr same i).symm
  · simp [applySlot]

theorem meterInv_planAtClose {s : State} (inv : MeterInv s) : MeterInv (planAtClose s) := by
  unfold planAtClose
  cases s.plans.pendingSlot with
  | none => exact inv
  | some k =>
    cases plan : s.plans.plan with
    | none =>
      dsimp only
      split
      · next h => exact meterInv_judgeSpill false (meterInv_applySlot_idle k inv (by simp [inService, show s.mode = .dark by simpa using h]))
      · exact inv
    | some img =>
      dsimp only
      split
      · next h =>
        simp only [Bool.or_eq_true, beq_iff_eq] at h
        refine meterInv_judgeSpill false ?_
        obtain dark | same := h
        · exact meterInv_applySlot_idle k inv (by simp [inService, dark])
        · exact meterInv_applySlot_same k inv plan same
      · exact inv

theorem meterInv_putPending {s : State} (k : Option (Fin 8)) (inv : MeterInv s) : MeterInv (s.putPending k) :=
  meterInv_of_blocks (s := s) (t := s.putPending k) rfl rfl rfl rfl rfl inv

theorem meterInv_selectChecked {s : State} (k : Fin 8) (inv : MeterInv s) : MeterInv (selectChecked k s).state := by
  have selected : MeterInv (selectPlan k s).state := by
    rw [selectPlan_eq]
    split
    · next h =>
      refine meterInv_judgeWish (meterInv_planChanged (meterInv_applySlot_idle k inv ?_))
      obtain dark | none := h
      · simp [inService, dark]
      · by_contra e
        have := (inv.locked (by simpa using e)).2
        simp [none] at this
    · exact meterInv_putPending _ inv
  unfold selectChecked
  split
  · exact inv
  · split
    · exact inv
    · exact selected

theorem judgeSlot_blocks (k : Fin 8) (s : State) :
    (judgeSlot k s).sched = s.sched ∧ (judgeSlot k s).drives = s.drives ∧ (judgeSlot k s).meter = s.meter ∧
      (judgeSlot k s).plans.plan = s.plans.plan := by
  refine ⟨by simp, by simp, by simp, ?_⟩
  unfold judgeSlot
  (repeat' split) <;> simp [State.putSlot]

theorem meterInv_lockLimits {s : State} (inv : MeterInv s) (h : s.locked = false) : MeterInv (lockLimits s).state := by
  have idle : inService s = false := by
    by_contra e
    have := (inv.locked (by simpa using e)).1
    simp [h] at this
  have lock : MeterInv { s with locked := true } :=
    meterInv_of_same (s := s) (t := { s with locked := true })
      ⟨fun _ => ⟨rfl, rfl⟩, fun _ => rfl, rfl, rfl, rfl, rfl, rfl, fun _ => rfl, fun _ => ⟨fun _ => rfl, id⟩⟩ inv
  have slots : ∀ (l : List (Fin 8)) (u : State), MeterInv u ∧ inService u = false →
      MeterInv (l.foldl (fun s k => judgeSlot k s) u) ∧ inService (l.foldl (fun s k => judgeSlot k s) u) = false := by
    intro l
    induction l with
    | nil => exact fun u h => h
    | cons k l ih =>
      rintro u ⟨inv, idle⟩
      obtain ⟨sched, drives, meter, plan⟩ := judgeSlot_blocks k u
      exact ih _ ⟨meterInv_of_blocks sched drives meter (by simp) plan inv,
        (inService_congr (s := u) (t := judgeSlot k u) (by simp [State.mode])).trans idle⟩
  obtain ⟨judged, idle⟩ : MeterInv (slotsJudged s) ∧ inService (slotsJudged s) = false := slots allSlots _ ⟨lock, idle⟩
  rw [lockLimits_eq, accept_state]
  generalize slotsJudged s = u at judged idle
  have pending : MeterInv (pendingJudged u) ∧ inService (pendingJudged u) = false := by
    unfold pendingJudged
    split
    · exact ⟨meterInv_putPending none judged, idle⟩
    · exact ⟨judged, idle⟩
  refine meterInv_judgeWish ?_
  unfold activeJudged
  split
  · unfold deselect
    exact meterInv_planChanged (meterInv_of_plans _ pending.1 pending.2)
  · exact pending.1

/-! ### Closes -/

theorem meterInv_placeWaiting {s : State} (inv : MeterInv s) : MeterInv (placeWaiting s) := by
  unfold placeWaiting
  split
  · exact inv
  · next w _ =>
    have placed : MeterInv (placeRecord w.record s) := meterInv_of_blocks (by simp) (by simp) (by simp) (by simp) (by simp) inv
    refine meterInv_judgeWish ?_
    unfold actOnAuto
    split
    · split
      · exact meterInv_tryStart _ placed
      · split
        · split
          case h_1 hm | h_2 hm => exact meterInv_shutdown _ placed (by simp [engaged, hm])
          case h_3 | h_4 | h_5 | h_6 | h_7 => exact placed
        · exact placed
    · exact placed

theorem meterInv_rateAtClose {s : State} (dets : List DetEntry) (inv : MeterInv s) : MeterInv (rateAtClose dets s) := by
  have floor : MeterInv (floorAtClose dets s) := meterInv_of_blocks (by simp) (by simp) (by simp) (by simp) (by simp) inv
  unfold rateAtClose
  dsimp only
  split
  · refine meterInv_runCombine false ?_
    exact meterInv_of_blocks (by simp) (by simp) (by simp) (by simp) (by simp) floor
  · exact floor

theorem meterInv_runsAtClose {s : State} (om : Option Nat) (inv : MeterInv s) : MeterInv (runsAtClose om s) := by
  have put : ∀ a b, MeterInv (s.putRuns a b) := fun _ _ => meterInv_meter _ inv rfl rfl rfl rfl
  unfold runsAtClose
  split
  · split
    · exact put _ _
    · exact put _ _
  · exact put _ _

theorem meterInv_schedAtClose {s : State} (inv : MeterInv s) : MeterInv (schedAtClose s) := by
  have lane : ∀ i, (schedAtClose s).lane i = (s.lane i).newInterval := fun i => by simp [schedAtClose, State.lane]
  exact meterInv_of_same (s := s) (t := schedAtClose s)
    ⟨fun i => by rw [lane]; exact ⟨rfl, rfl⟩, fun _ => rfl, rfl, rfl, rfl, rfl, rfl, id, fun _ => ⟨fun _ => rfl, id⟩⟩ inv

theorem meterInv_dfeAtClose {s : State} (inv : MeterInv s) : MeterInv (dfeAtClose s) :=
  meterInv_of_blocks (by simp) (by simp) (by simp) (by simp) (by simp) inv

theorem meterInv_putWaiting {s : State} (w : Waiting) (inv : MeterInv s) : MeterInv (putWaiting w s) :=
  meterInv_of_blocks (s := s) (t := putWaiting w s) rfl rfl rfl rfl rfl inv

theorem meterInv_closeInterval {s : State} (cause : Cause) (next : Nat) (inv : MeterInv s) : MeterInv (closeInterval cause next s) := by
  have blocks : ∀ u, MeterInv u → MeterInv (blocksAtClose cause next u) := fun u inv => by
    have begun : MeterInv (beginInterval next (postClosed cause next u)) :=
      meterInv_of_blocks (by simp) (by simp) (by simp) (by simp) (by simp) inv
    unfold blocksAtClose
    exact meterInv_runsAtClose _ (meterInv_rateAtClose _ (meterInv_planAtClose (meterInv_schedAtClose (meterInv_dfeAtClose begun))))
  rw [closeInterval_eq]
  exact meterInv_putWaiting _ (blocks _ (meterInv_placeWaiting inv))

theorem meterInv_judgeInterval {s : State} (inv : MeterInv s) : MeterInv (closeFreeRun (closeTimed s)) := by
  have timed : MeterInv (closeTimed s) := by
    unfold closeTimed
    split
    · exact meterInv_closeInterval _ _ inv
    · exact inv
  unfold closeFreeRun
  split
  · exact meterInv_closeInterval _ _ timed
  · exact timed

theorem meterInv_writeLimits {s : State} (p : List Byte) (inv : MeterInv s) : MeterInv (writeLimits p s).state := by
  have limits : MeterInv { s with limits := limitsOf p } :=
    meterInv_of_blocks (s := s) (t := { s with limits := limitsOf p }) rfl rfl rfl rfl rfl inv
  rw [writeLimits_eq, accept_state]
  refine orderEach_keeps (fun i _ u inv => meterInv_judgeHeld i inv) ?_
  unfold fallbackJudged
  split
  · exact meterInv_resolve (meterInv_judgeInterval limits)
  · exact meterInv_judgeInterval limits

/-! ### Links -/

theorem meterInv_becomeAbsent {s : State} (l : LinkId) (inv : MeterInv s) : MeterInv (becomeAbsent l s) := by
  have marked : MeterInv (markedAbsent l s) := meterInv_of_blocks (by simp [markedAbsent]) (by simp [markedAbsent])
    (by simp [markedAbsent]) (by simp [markedAbsent]) (by simp [markedAbsent]) inv
  have order : ∀ u, MeterInv u → MeterInv (removeOrder l .orderWithdrawn u) := fun u inv => by
    unfold removeOrder
    split
    · exact meterInv_recombine (meterInv_post _ _ _ (meterInv_rate _ inv))
    · exact inv
  have hold : ∀ u, MeterInv u → MeterInv (withdrawHold l u) := fun u inv => by
    unfold withdrawHold
    split
    · split
      · exact meterInv_endHold _ _ inv
      · exact inv
    · exact inv
  have manual : ∀ u, MeterInv u → MeterInv (withdrawManual l u) := fun u inv => by
    unfold withdrawManual
    split
    · exact meterInv_endManual _ inv
    · exact inv
  have claim : ∀ u, MeterInv u → MeterInv (releaseClaim l u) := fun u inv => by
    unfold releaseClaim
    split
    · split
      · exact meterInv_of_blocks (s := u) (t := { u with plans := { u.plans with claim := none } }) rfl rfl rfl rfl rfl inv
      · exact inv
    · exact inv
  rw [becomeAbsent_eq]
  exact meterInv_resolve (meterInv_meter _ (claim _ (manual _ (hold _ (order _ marked)))) rfl rfl rfl rfl)

theorem meterInv_violate {s : State} (l : LinkId) (code : Nat) (inv : MeterInv s) : MeterInv (violate l code s) := by
  have counted : ∀ x n m, MeterInv ((s.setLink l x).post .supervisionViolation n m) := fun _ _ _ =>
    meterInv_of_blocks (by simp) (by simp) (by simp) (by simp) (by simp) inv
  unfold violate
  dsimp only
  split
  · exact meterInv_becomeAbsent l (counted _ _ _)
  · exact counted _ _ _

theorem meterInv_takeFrame {s : State} (l : LinkId) (ka : Bool) (inv : MeterInv s) : MeterInv (takeFrame l ka s) := by
  have put : ∀ x, MeterInv (s.setLink l x) := fun _ => meterInv_of_blocks (by simp) (by simp) (by simp) (by simp) (by simp) inv
  unfold takeFrame
  dsimp only
  split
  · exact meterInv_post _ _ _ (put _)
  · split
    · exact meterInv_post _ _ _ (put _)
    · exact inv
  · split
    · split
      · exact meterInv_violate l 1 inv
      · exact put _
    · exact inv

/-! ### Resets and time -/

/-- A state with every lane OFF and every drive off, in DARK. -/
theorem meterInv_of_reset {s : State} (lanes : ∀ i, s.lane i = .reset) (drives : ∀ k, (s.drive k).commanded = false)
    (meter : s.meter = .reset) : MeterInv s := by
  have mode : s.mode = .dark := by rw [State.mode, meter]; rfl
  refine meterInv_of_base (meterBase_of_lamps (fun i c => ?_) ?_ (fun _ => ⟨fun i => ?_, ?_⟩) (by simp [inService, mode]) ?_) (by simp [mode])
  · rw [drives, lanes]; rfl
  · rw [drives, meter]; rfl
  · rw [lanes]; exact .inl rfl
  · rw [meter]; rfl
  · rw [meter]; rfl

theorem replicate_lane (i : Fin 3) : (Vector.replicate 3 Lane.reset)[i] = Lane.reset := by simp

theorem meterInv_hardResetBase (cause : Nat) (s : State) : MeterInv (hardResetBase cause s) :=
  meterInv_of_reset replicate_lane (fun k => by simp [hardResetBase, State.drive, Drive.reset]) rfl

theorem meterInv_softResetBase (s : State) : MeterInv (softResetBase s) :=
  meterInv_of_reset replicate_lane (fun k => by simp [softResetBase, State.drive]) rfl

theorem meterInv_edges {f : State → Fin 16 → State} (h : ∀ s d, MeterInv s → MeterInv (f s d)) (l : List (Fin 16)) {s : State}
    (inv : MeterInv s) : MeterInv (l.foldl f s) := by
  induction l generalizing s with
  | nil => exact inv
  | cons d l ih => exact ih (h s d inv)

theorem meterInv_showRaw {s : State} (inv : MeterInv s) : MeterInv (showRaw s) := by
  unfold showRaw
  refine meterInv_edges (fun u d inv => ?_) _ inv
  split
  · exact meterInv_risingEdge d inv
  · exact inv

theorem meterInv_softReset (s : State) : MeterInv (softReset s).state := by
  unfold softReset showUnfiltered
  refine accept_keeps _ (meterInv_edges (fun u d inv => ?_) _ (meterInv_softResetBase s))
  split
  · exact meterInv_risingEdge d inv
  · exact inv

theorem meterInv_tick {s : State} (inv : MeterInv s) : MeterInv (tick s) :=
  meterInv_of_same (s := s) (t := tick s)
    ⟨fun i => by rw [tick_lane]; exact ⟨rfl, rfl⟩, fun k => by rw [tick_drive]; rfl, rfl, rfl, rfl, by simp [tick], rfl, id,
      fun _ => ⟨fun _ => rfl, id⟩⟩ inv

/-! ### Every step -/

theorem meterInv_owners : KeptByOwners MeterInv where
  configureLink l p s inv _ := meterInv_of_blocks (by simp) (by simp) (by simp) (by simp) (by simp) inv
  readEvents l n s inv _ := meterInv_of_blocks (by simp) (by simp) (by simp) (by simp) (by simp) inv
  readRecord l s inv := meterInv_of_blocks (by simp) (by simp) (by simp) (by simp) (by simp) inv
  flushEvents l s inv := meterInv_of_blocks (by simp) (by simp) (by simp) (by simp) (by simp) inv
  flushRecords l s inv := meterInv_of_blocks (by simp) (by simp) (by simp) (by simp) (by simp) inv
  openPlan l k s inv _ := meterInv_of_blocks (s := s) (t := (openPlan l k s).state) (by simp) (by simp) (by simp) (by simp) rfl inv
  planData p c s inv _ := by
    refine meterInv_of_blocks (by simp) (by simp) (by simp) (by simp) ?_ inv
    unfold planData
    dsimp only
    split <;> rfl
  commitPlan c s inv _ := by
    refine meterInv_of_blocks (by simp) (by simp) (by simp) (by simp) ?_ inv
    unfold commitChecked commitPlan
    dsimp only
    (repeat' split) <;> simp only [refuseRange_state, refuse_state, accept_state] <;> rfl
  abortPlan s inv := meterInv_of_blocks (s := s) (t := s.putClaim none) (by simp) (by simp) (by simp) (by simp) rfl inv
  selectPlan k s inv := meterInv_selectChecked k inv
  requestMetering l a s inv _ := meterInv_resolve (meterInv_meter _ inv rfl rfl rfl rfl)
  rateOrder l p s inv _ := meterInv_recombine (meterInv_rate _ inv)
  cancelOrder l s inv := by
    unfold cancelOrder
    split
    · exact meterInv_recombine (meterInv_rate _ inv)
    · exact inv
  hold l s inv _ := by
    unfold holdChecked
    split
    · exact inv
    · split
      · exact inv
      · next m =>
        split
        · exact inv
        · exact accept_keeps _ (meterInv_enterHold l inv (by simpa using m))
  resume l s inv := by
    unfold resumeChecked
    split
    · exact inv
    · next h hh =>
      have m : s.mode = .hold := inv.hold.mp (by simp [hh])
      split
      · exact accept_keeps _ (meterInv_leaveHold _ inv m)
      · exact inv
  clearLane i s inv := by
    unfold clearLaneChecked
    split
    · exact inv
    · next m =>
      split
      · next f => exact accept_keeps _ (meterInv_clearLaneFault i inv f (not_not.mp m))
      · exact inv
  intervalMark n s inv := by
    unfold intervalMark
    split
    · exact accept_keeps _ (meterInv_post _ _ _ inv)
    · exact accept_keeps _ (meterInv_closeInterval _ _ inv)
  writeLimits p s inv _ _ := meterInv_writeLimits p inv
  lockLimits s inv h := meterInv_lockLimits inv h
  writeMap p s inv _ := meterInv_writeMap p inv
  enterManual l s inv _ _ := by
    unfold enterManualChecked
    split
    · exact inv
    · split
      · exact inv
      · exact accept_keeps _ (meterInv_enterManual inv)
  setAspect i a s inv := by
    unfold setAspectChecked
    split
    · exact inv
    · next m =>
      split
      · exact inv
      · have m : s.mode = .manual := by simpa using m
        exact accept_keeps _ (meterInv_of_manual (manualBase_workLane i (manualBase_setAspectOf i _ ⟨meterBase_of_inv inv, m⟩)))
  setBeacon on s inv m := by
    have mode : (commandBeacon on s).mode = .manual := by simpa [State.mode] using m
    exact meterInv_of_base (meterBase_commandBeacon on (meterBase_of_inv inv) (.inr (by simp [m]))) (by simp [mode])
  exitManual s inv _ := meterInv_endManual _ inv
  clearMeter s inv := by
    unfold clearMeterChecked
    split
    · exact inv
    · next m =>
      split
      · exact inv
      · have dark := (inv.dark (.inr (by simpa using m))).1
        have posted := meterInv_post .faultCleared 0 0 inv
        exact accept_keeps _ (meterInv_enterDarkJudged _ posted.lamps (fun i => by rw [lane_post]; exact dark i))
  softReset s _ := meterInv_softReset s

theorem meterInv_event (c : Instr) {s : State} (inv : MeterInv s) : MeterInv (eventEffect c s) := by
  have ended : ∀ l (u : State), MeterInv u → MeterInv (endTransaction l u) := fun l u inv =>
    meterInv_of_blocks (by simp) (by simp) (by simp) (by simp) (by simp) inv
  cases c <;> dsimp only [eventEffect]
  case powerOn => exact meterInv_showRaw (meterInv_hardResetBase 1 s)
  case resetLine =>
    exact meterInv_showRaw (meterInv_of_blocks (s := hardResetBase 2 s) (t := keepSlots s (hardResetBase 2 s)) rfl rfl rfl rfl rfl (meterInv_hardResetBase 2 s))
  case chipSelectAsserted l => exact meterInv_of_blocks (by simp) (by simp) (by simp) (by simp) (by simp) inv
  case badFrame l bytes =>
    split
    · exact ended l s inv
    · exact meterInv_of_blocks (by simp) (by simp) (by simp) (by simp) (by simp) (ended l s inv)
  case detectorRawChange d v => exact meterInv_rawChange d v inv
  case filterTimerExpiry d =>
    unfold filterExpiry
    split
    · exact meterInv_edge d _ inv
    · exact inv
  case stuckTimerExpiry d =>
    unfold stuckExpiry
    split
    · exact meterInv_takePending (meterInv_raiseFault d _ inv)
    · exact inv
  case intervalTimedExpiry =>
    unfold closeTimed
    split
    · exact meterInv_closeInterval _ _ inv
    · exact inv
  case freeRunExpiry =>
    unfold closeFreeRun
    split
    · exact meterInv_closeInterval _ _ inv
    · exact inv
  case recordPlaced => exact meterInv_placeWaiting inv
  case spillOn => exact meterInv_judgeSpillOn true inv
  case spillOff => exact meterInv_judgeSpillOff true inv
  case orderExpired l =>
    split
    · unfold removeOrder
      split
      · exact meterInv_recombine (meterInv_post _ _ _ (meterInv_rate _ inv))
      · exact inv
    · exact inv
  case holdExpired =>
    split
    · exact meterInv_endHold _ _ inv
    · exact inv
  case greenTimerExpiry i =>
    split
    · next h =>
      simp only [phaseDue, Bool.and_eq_true, beq_iff_eq] at h
      exact meterInv_afterLaneChange i (meterInv_endGreen inv h.1)
    · exact inv
  case amberTimerExpiry i =>
    split
    · next h =>
      simp only [phaseDue, Bool.and_eq_true, beq_iff_eq] at h
      exact meterInv_judgeWish (meterInv_afterLaneChange i (meterInv_endAmber inv h.1))
    · exact inv
  case redTimerExpiry i =>
    split
    · next h =>
      simp only [phaseDue, Bool.and_eq_true, beq_iff_eq] at h
      exact meterInv_takePending (meterInv_afterLaneChange i (meterInv_endRed inv h.1))
    · exact inv
  case headwayExpiry =>
    split
    · next h =>
      simp only [headwayDue, Bool.and_eq_true, beq_iff_eq] at h
      exact meterInv_releaseDue inv h.1.1
    · exact inv
  case graceExpiry i =>
    split
    · exact meterInv_setLane i inv rfl rfl
    · exact inv
  case greenMinReached i => exact meterInv_judgeHeld i inv
  case startupRestExpiry =>
    split
    · next h =>
      simp only [restDue, Bool.and_eq_true, beq_iff_eq] at h
      have m := h.1.1
      have on : ∀ i ∈ restingLanes s, inService s = true → enabled s i = true := fun i hi hs => by
        simp only [restingLanes, List.mem_filter, beq_iff_eq] at hi
        exact (lit_facts (meterBase_of_inv inv) (by simp [darkLane, hi.2])).2 hs
      have base := meterBase_orderEach
        (g := fun s i => clearLane (s.limits.greenMin * 10) (amberTime s) (redTime s) (s.lane i)) actsOnLane_clear
        (meterBase_of_inv inv) (by simp [m]) on
      have mode : (orderEach orderClear (restingLanes s) s).mode = .startup := by
        rw [State.mode, orderEach_meter orderClear (by simp), ← State.mode, m]
      exact meterInv_putPhase _ _ (meterInv_of_base base (by simp [mode])) (by simp [mode])
    · exact inv
  case shutdownRestExpiry =>
    split
    · next h =>
      simp only [restDue, Bool.and_eq_true, beq_iff_eq] at h
      refine meterInv_enterDarkJudged _ (lampsAgree_cuts _ inv.lamps) fun i => ?_
      rw [lane_orderCuts (l := restingLanes s) (allLanes_nodup.filter _)]
      split
      · exact cutLane_dark _
      · next hi =>
        obtain rest | dark := inv.resting h.1.1 h.1.2 i
        · exact absurd (by simp [restingLanes, mem_allLanes, rest]) hi
        · exact dark
    · exact inv
  case lampSenseChange k v => exact meterInv_setDrive k inv rfl
  case blankingExpiry k =>
    unfold endBlanking
    split
    · exact meterInv_setDrive k inv rfl
    · exact inv
  case deglitchExpiry k w => exact meterInv_latch k w inv
  case proofExpiry k w =>
    unfold prove
    split
    · exact meterInv_setDrive k inv (by simp)
    · exact inv
  case stagingTimeout =>
    refine meterInv_of_blocks (by simp) (by simp) (by simp) (by simp) ?_ inv
    unfold stagingTimeout
    (repeat' split) <;> simp [State.putClaim]
  case lateViolation l =>
    split
    · exact meterInv_violate l 2 inv
    · exact inv
  all_goals exact inv

theorem meterInv_parts : KeptByParts MeterInv where
  owners := meterInv_owners
  lines s inv := meterInv_of_blocks (by simp) (by simp) (by simp) (by simp) (by simp) inv
  reply l r s inv := meterInv_of_blocks (by simp) (by simp) (by simp) (by simp) (by simp) inv
  done l s inv := meterInv_of_blocks (by simp) (by simp) (by simp) (by simp) (by simp) inv
  frame l ka s inv := meterInv_takeFrame l ka inv
  resolve s inv := meterInv_resolve inv
  event c s _ inv := meterInv_event c inv

/-- Settles O6: every part of a frame, every owner of a request, every event and the passing of time keep the
agreement. -/
theorem everyStepKeepsLampsLanesRingAndMode : Obligations.EveryStepKeepsLampsLanesRingAndMode := by
  unfold Obligations.EveryStepKeepsLampsLanesRingAndMode
  intro s t inv run
  refine step_keeps (P := MeterInv) (fun s q n inv => ?_) (fun c s t inv run => meterInv_parts.exec inv run)
    (fun s inv => meterInv_tick inv) inv run
  exact meterInv_of_blocks (s := s) (t := { s with pending := q, choices := n }) rfl rfl rfl rfl rfl inv

end Sys2Proof.Agreement
end

section
/-! The queue of waiting commands and the passing of time: what a step takes, what one cs moves on, and that no command
touches the commands that wait behind it. -/

namespace Sys2Proof.Idle
open Sys2Proof.Machine Sys2Proof.Steps

/-! ### The waiting commands -/

/-- The commands that wait are as given. -/
def Waits (q : List Instr) (s : State) : Prop := s.pending = q

theorem waits_of_eq {q : List Instr} {s t : State} (h : t.pending = s.pending) (w : Waits q s) : Waits q t := h.trans w

theorem foldl_pending {α : Type} {f : State → α → State} (h : ∀ s a, (f s a).pending = s.pending) (l : List α) (s : State) :
    (l.foldl f s).pending = s.pending := by
  induction l generalizing s with
  | nil => rfl
  | cons a l ih => rw [List.foldl_cons, ih, h]

theorem showRaw_pending (s : State) : (showRaw s).pending = s.pending := by
  unfold showRaw
  refine foldl_pending (fun s d => ?_) _ s
  split <;> simp

theorem softReset_pending (s : State) : (softReset s).state.pending = s.pending := by
  unfold softReset showUnfiltered
  rw [accept_state]
  refine (foldl_pending (fun s d => ?_) _ _).trans rfl
  split <;> simp

theorem waits_owners (q : List Instr) : KeptByOwners (Waits q) where
  configureLink l p s h _ := waits_of_eq (by simp) h
  readEvents l n s h _ := waits_of_eq (by simp) h
  readRecord l s h := waits_of_eq (by simp) h
  flushEvents l s h := waits_of_eq (by simp) h
  flushRecords l s h := waits_of_eq (by simp) h
  openPlan l k s h _ := waits_of_eq (by simp) h
  planData p c s h _ := waits_of_eq (by simp) h
  commitPlan c s h _ := waits_of_eq (by simp) h
  abortPlan s h := waits_of_eq (by simp) h
  selectPlan k s h := waits_of_eq (by simp) h
  requestMetering l a s h _ := waits_of_eq (by simp) h
  rateOrder l p s h _ := waits_of_eq (by simp) h
  cancelOrder l s h := waits_of_eq (by simp) h
  hold l s h _ := waits_of_eq (by simp) h
  resume l s h := waits_of_eq (by simp) h
  clearLane i s h := waits_of_eq (by simp) h
  intervalMark n s h := waits_of_eq (by simp) h
  writeLimits p s h _ _ := waits_of_eq (by simp) h
  lockLimits s h _ := waits_of_eq (by simp) h
  writeMap p s h _ := waits_of_eq (by simp) h
  enterManual l s h _ _ := waits_of_eq (by simp) h
  setAspect i a s h := waits_of_eq (by simp) h
  setBeacon on s h _ := waits_of_eq (by simp) h
  exitManual s h _ := waits_of_eq (by simp) h
  clearMeter s h := waits_of_eq (by simp) h
  softReset s h := waits_of_eq (softReset_pending s) h

theorem eventEffect_pending (c : Instr) (s : State) : (eventEffect c s).pending = s.pending := by
  cases c <;> dsimp only [eventEffect]
  case powerOn => exact (showRaw_pending _).trans rfl
  case resetLine => exact (showRaw_pending _).trans rfl
  case startupRestExpiry => split <;> simp
  case shutdownRestExpiry => split <;> simp
  all_goals (repeat' split) <;> simp

theorem waits_parts (q : List Instr) : KeptByParts (Waits q) where
  owners := waits_owners q
  lines s h := waits_of_eq (by simp) h
  reply l r s h := waits_of_eq (by simp) h
  done l s h := waits_of_eq (by simp) h
  frame l ka s h := waits_of_eq (by simp) h
  resolve s h := waits_of_eq (by simp) h
  event c s _ h := waits_of_eq (eventEffect_pending c s) h

/-- Settles O3: every part of a command leaves the queue alone. -/
theorem everyCommandAnswersAndKeepsTheQueue : Obligations.EveryCommandAnswersAndKeepsTheQueue := by
  unfold Obligations.EveryCommandAnswersAndKeepsTheQueue
  intro c s
  obtain ⟨t, run⟩ := exec_total c s
  exact ⟨_, run, (waits_parts s.pending).exec rfl run⟩

/-- Settles O1. -/
theorem stepTakesTheFrontCommand : Obligations.StepTakesTheFrontCommand := by
  unfold Obligations.StepTakesTheFrontCommand
  intro s c rest waiting
  unfold step
  rw [waiting]

/-! ### Idle steps -/

theorem step_idle {s : State} (none : s.pending = []) (idle : due s = []) : step s = .next (tick s) := by
  simp [step, none, nextExpiry, idle]

/-- The expiry that an idle step takes is a due one. -/
theorem step_due {s : State} (none : s.pending = []) (some : due s ≠ []) :
    ∃ c ∈ due s, ∃ n, step s = exec c { s with choices := n } := by
  have taken : ∃ c ∈ due s, ∃ n, nextExpiry s = .some (c, { s with choices := n }) := by
    unfold nextExpiry
    cases several : due s with
    | nil => exact absurd several some
    | cons c rest =>
      cases rest with
      | nil => exact ⟨c, by simp, s.choices, rfl⟩
      | cons d rest =>
        refine ⟨_, ?_, s.choices + 1, rfl⟩
        have bound : Config.expiryChoice s.choices % ((d :: rest).length + 1) < (c :: d :: rest).length :=
          Nat.mod_lt _ (Nat.succ_pos _)
        rw [List.getD_eq_getElem _ _ bound]
        exact List.getElem_mem bound
  obtain ⟨c, mem, n, next⟩ := taken
  exact ⟨c, mem, n, by simp only [step, none, next]⟩

/-- What one cs leaves as it is, and the timers of the part that are fields of its blocks. -/
theorem tick_blocks (s : State) :
    (tick s).counter = { s.counter with elapsed := s.counter.elapsed + 1 } ∧ (tick s).events = s.events ∧
      (tick s).records = s.records ∧ (tick s).rate.inForce = s.rate.inForce ∧ (tick s).sched.ring = s.sched.ring ∧
      (tick s).sched.headway = s.sched.headway ∧ (tick s).sched.releasePending = s.sched.releasePending ∧
      (tick s).meter = { s.meter with seqTimer := s.meter.seqTimer - 1,
                                      hold := s.meter.hold.map fun h => { h with timer := h.timer - 1 } } ∧
      (tick s).plans = { s.plans with claim := s.plans.claim.map fun c => { c with timer := c.timer - 1 } } ∧
      (tick s).limits = s.limits ∧ (tick s).locked = s.locked ∧ (tick s).pending = s.pending := by
  simp [tick]

theorem inputTick_onTime (x : Input) : x.tick.onTime = x.onTime + (if x.cond then 1 else 0) := by
  unfold Input.tick
  cases x.cond <;> rfl

theorem inputTick_stuck (x : Input) : x.tick.stuck = x.stuck + (if x.cond = true ∧ x.stuck < 360000 then 1 else 0) := by
  unfold Input.tick upTo
  cases x.cond <;> grind

theorem laneTick_age (x : Lane) : x.tick.age = x.age + (if x.state = .green ∨ x.state = .restGreen then 1 else 0) := by
  simp only [Lane.tick, Lane.showsGreen, Bool.or_eq_true, beq_iff_eq]
  split <;> rfl

/-- What one cs makes of a counting window. -/
theorem laneTick_window (x : Lane) :
    (∀ c n, x.window = .inGrace c n → x.tick.window = .inGrace c (n - 1)) ∧
      (∀ c, x.window = .opened c → x.tick.window = .opened c) ∧ (x.window = .closed → x.tick.window = .closed) := by
  refine ⟨fun c n h => ?_, fun c h => ?_, fun h => ?_⟩ <;> simp [Lane.tick, h, Window.tick]

theorem laneTick_sinceRest (x : Lane) :
    (∀ n, x.sinceRest = some n → x.tick.sinceRest = if n < 100 then some (n + 1) else none) ∧
      (x.sinceRest = none → x.tick.sinceRest = none) := by
  refine ⟨fun n h => ?_, fun h => ?_⟩ <;> simp [Lane.tick, h, restTick]

/-- What one cs makes of a watch. -/
theorem watchTick (x : Drive) (w : WatchKind) :
    (x.watch w = .clear → x.tick.watch w = .clear) ∧
      (∀ e m, x.watch w = .suspect e m → x.tick.watch w = .suspect (e + 1) m) ∧
      (∀ e m, x.watch w = .latched (some (e, m)) → x.tick.watch w = .latched (some (e + 1, m))) ∧
      (x.watch w = .latched none → x.tick.watch w = .latched none) := by
  have ticked : x.tick.watch w = (x.watch w).tick := by cases w <;> rfl
  rw [ticked]
  refine ⟨fun h => ?_, fun e m h => ?_, fun e m h => ?_, fun h => ?_⟩ <;> simp [h, WatchState.tick]

theorem linkTick_window (x : LinkInterface) : x.tick.window = x.window + (if x.state = .present ∧ x.tHi ≠ 0 then 1 else 0) := by
  unfold LinkInterface.tick
  split <;> rfl

theorem headwayTick_eq (s : State) : (tick s).sched.elapsed = s.sched.elapsed + (if s.mode = .metering ∧
    s.sched.releasePending = false ∧ s.sched.elapsed < s.sched.headway then 1 else 0) := by
  obtain ⟨metering, free, below, e⟩ | ⟨stays, e⟩ := headwayTick_cases s <;> rw [e]
  · simp [metering, free, below]
  · rw [if_neg]
    · rfl
    · rintro ⟨m, f, b⟩
      simp [m, f] at stays
      omega

/-- Settles O2: the elements of the part move on one by one; a due expiry is one of the list. -/
theorem idleStepsLetTimePassOrTakeAnExpiry : Obligations.IdleStepsLetTimePassOrTakeAnExpiry := by
  unfold Obligations.IdleStepsLetTimePassOrTakeAnExpiry
  refine ⟨fun s none idle => ⟨tick s, step_idle none idle, ?_⟩, fun s => step_due⟩
  obtain ⟨counter, events, records, inForce, ring, headway, pending, meter, plans, limits, locked, queue⟩ := tick_blocks s
  rw [counter, events, records, inForce, ring, headway, pending, meter, plans, limits, locked, queue]
  refine ⟨rfl, rfl, tick_mode s, rfl, fun i => ?_, fun k => ?_, fun d => ?_, fun d => ?_,
    rfl, rfl, rfl, rfl, rfl, rfl, rfl, rfl, none, fun d => ⟨?_, ?_, ?_⟩, fun i => ?_, headwayTick_eq s, rfl, rfl, rfl, rfl,
    fun l => ?_, rfl, fun k => ?_, fun k w => ?_, fun l => ?_⟩
  · rw [tick_lane]; rfl
  · rw [tick_drive]; rfl
  · rw [tick_input]; rfl
  · rw [tick_input, inputTick_onTime]
  · rw [tick_input]; rfl
  · rw [tick_input, inputTick_stuck]
  · rw [tick_input]; rfl
  · rw [tick_lane]
    obtain ⟨grace, opened, closed⟩ := laneTick_window (s.lane i)
    exact ⟨rfl, laneTick_age _, grace, opened, closed, laneTick_sinceRest _⟩
  · rw [tick_order]; rfl
  · rw [tick_drive]; rfl
  · rw [tick_drive]; exact watchTick _ w
  · rw [tick_link, linkTick_window]

end Sys2Proof.Idle
end

section
/-! What each operation does to the event queues: it posts, and so only offers further entries to both queues, in the
same order (`Posts`). From this follow that the queues continue and that they stay within their bound. -/

namespace Sys2Proof.Postings
open Sys2Proof.Machine Sys2Proof.Steps

/-- Both event queues of `t` are those of `s` to which the same further entries have been offered. -/
def Posts (s t : State) : Prop := ∃ es : List Event, ∀ l, t.events.get l = es.foldl EventQueue.offer (s.events.get l)

theorem Posts.of_events {s t : State} (h : t.events = s.events) : Posts s t := ⟨[], fun l => by rw [h]; rfl⟩

theorem Posts.refl (s : State) : Posts s s := .of_events rfl

theorem Posts.trans {s t u : State} (h : Posts s t) (g : Posts t u) : Posts s u := by
  obtain ⟨es, h⟩ := h
  obtain ⟨fs, g⟩ := g
  exact ⟨es ++ fs, fun l => by rw [g, h, List.foldl_append]⟩

theorem Posts.ite {s a b : State} {c : Prop} [Decidable c] (ha : c → Posts s a) (hb : ¬c → Posts s b) :
    Posts s (if c then a else b) := by
  split
  · exact ha ‹_›
  · exact hb ‹_›

/-- A queue to which entries are offered begins as it did. -/
theorem offers_prefix (es : List Event) (q : EventQueue) : q.entries <+: (es.foldl EventQueue.offer q).entries := by
  induction es generalizing q with
  | nil => exact List.prefix_refl _
  | cons e es ih => exact (offer_prefix q e).trans (ih _)

theorem Posts.continue {s t : State} (h : Posts s t) : EventsContinue s t := by
  obtain ⟨es, h⟩ := h
  exact fun l => by rw [h]; exact offers_prefix es _

theorem posts_post (s : State) (kind : EventKind) (subject detail : Nat) : Posts s (s.post kind subject detail) :=
  ⟨[_], fun l => by cases l <;> rfl⟩

theorem posts_orderEach {f : Fin 3 → State → State} (h : ∀ i s, Posts s (f i s)) (l : List (Fin 3)) (s : State) :
    Posts s (orderEach f l s) := by
  induction l generalizing s with
  | nil => exact .refl s
  | cons i l ih => exact (h i s).trans (ih _)

theorem posts_foldl {β : Type} {f : State → β → State} (h : ∀ s b, Posts s (f s b)) (l : List β) (s : State) :
    Posts s (l.foldl f s) := by
  induction l generalizing s with
  | nil => exact .refl s
  | cons b l ih => exact (h s b).trans (ih _)

/-! ### Operations that post nothing -/

theorem posts_checkResting (s : State) : Posts s (checkResting s) := .of_events (by simp)
theorem posts_recombine (s : State) : Posts s (recombine s) := .of_events (by simp)
theorem posts_recombineFault (s : State) : Posts s (recombineFault s) := .of_events (by simp)
theorem posts_runCombine (entry : Bool) (s : State) : Posts s (runCombine entry s) := .of_events (by simp)
theorem posts_takePending (s : State) : Posts s (takePending s) := .of_events (by simp)
theorem posts_setInput (s : State) (d : Fin 16) (x : Input) : Posts s (s.setInput d x) := .of_events (by simp)
theorem posts_setDfeLane (s : State) (i : Fin 3) (x : DfeLane) : Posts s (s.setDfeLane i x) := .of_events (by simp)
theorem posts_setLane (s : State) (i : Fin 3) (x : Lane) : Posts s (s.setLane i x) := .of_events (by simp)
theorem posts_setDrive (s : State) (k : Fin 10) (x : Drive) : Posts s (s.setDrive k x) := .of_events (by simp)
theorem posts_setLink (s : State) (l : LinkId) (x : LinkInterface) : Posts s (s.setLink l x) := .of_events (by simp)
theorem posts_putSpill (s : State) (v : Bool) : Posts s (s.putSpill v) := .of_events (by simp)
theorem posts_putFloor (s : State) (v : Bool) : Posts s (s.putFloor v) := .of_events (by simp)
theorem posts_putOrder (l : LinkId) (o : Option RateOrder) (s : State) : Posts s (putOrder l o s) := .of_events (by simp)
theorem posts_putClaim (s : State) (c : Option Claim) : Posts s (s.putClaim c) := .of_events (by simp)
theorem posts_putSlot (s : State) (k : Fin 8) (x : Slot) : Posts s (s.putSlot k x) := .of_events (by simp)
theorem posts_markSubstitutions (s : State) : Posts s (markSubstitutions s) := .of_events (by simp)
theorem posts_faultLane (i : Fin 3) (s : State) : Posts s (faultLane i s) := .of_events (by simp)
theorem posts_restoreLane (i : Fin 3) (s : State) : Posts s (restoreLane i s) := .of_events (by simp)
theorem posts_clearLaneWatches (i : Fin 3) (s : State) : Posts s (clearLaneWatches i s) := .of_events (by simp)
theorem posts_carryOutHeld (i : Fin 3) (s : State) : Posts s (carryOutHeld i s) := .of_events (by simp)
theorem posts_closeDfeLane (i : Fin 3) (s : State) : Posts s (closeDfeLane i s) := .of_events (by simp)
theorem posts_schedAtClose (s : State) : Posts s (schedAtClose s) := .of_events (by simp)
theorem posts_beginInterval (next : Nat) (s : State) : Posts s (beginInterval next s) := .of_events (by simp)
theorem posts_runsAtClose (om : Option Nat) (s : State) : Posts s (runsAtClose om s) := .of_events (by simp)
theorem posts_placeRecord (r : IntervalRecord) (s : State) : Posts s (placeRecord r s) := .of_events (by simp)
theorem posts_releaseClaim (l : LinkId) (s : State) : Posts s (releaseClaim l s) := .of_events (by simp)
theorem posts_putRequest (l : LinkId) (a : Activation) (s : State) : Posts s (putRequest l a s) := .of_events (by simp)

/-! ### Modes -/

theorem posts_changeMode (m : Mode) (cause : ModeCause) (s : State) : Posts s (changeMode m cause s) := by
  unfold changeMode
  exact .trans (.of_events (by simp)) (posts_post _ _ _ _)

/-- An operation that changes the mode and then leaves the event queues alone. -/
theorem Posts.of_changeMode {m : Mode} {cause : ModeCause} {s t : State} (h : t.events = (changeMode m cause s).events) : Posts s t :=
  (posts_changeMode m cause s).trans (.of_events h)

theorem posts_enterDark (cause : ModeCause) (s : State) : Posts s (enterDark cause s) :=
  .of_changeMode (m := .dark) (cause := cause) (by simp [enterDark])

theorem posts_tryStart (cause : ModeCause) (s : State) : Posts s (tryStart cause s) :=
  .ite (fun _ => .of_changeMode (m := .startup) (cause := cause) (by simp [startMeter])) fun _ => .refl s

theorem posts_judgeStart (s : State) : Posts s (judgeStart s) := .ite (fun _ => posts_tryStart _ s) fun _ => .refl s

theorem posts_enterDarkJudged (cause : ModeCause) (s : State) : Posts s (enterDarkJudged cause s) :=
  (posts_enterDark cause s).trans (posts_judgeStart _)

theorem posts_checkStopped (s : State) : Posts s (checkStopped s) := .ite (fun _ => posts_enterDarkJudged _ s) fun _ => .refl s

theorem posts_checkCleared (s : State) : Posts s (checkCleared s) :=
  .ite (fun _ => .of_changeMode (m := .metering) (cause := .sequence) (by simp [enterMetering])) fun _ => .refl s

theorem posts_advanceSequence (s : State) : Posts s (advanceSequence s) :=
  ((posts_checkCleared s).trans (posts_checkStopped _)).trans (posts_checkResting _)

theorem posts_interruptStartup (s : State) : Posts s (interruptStartup s) :=
  .trans (.of_events (by simp)) (posts_checkStopped _)

theorem posts_shutdown (cause : ModeCause) (s : State) : Posts s (shutdown cause s) :=
  .of_changeMode (m := .shutdown) (cause := cause) (by simp [shutdown])

theorem posts_actOnStop (cause : ModeCause) (s : State) : Posts s (actOnStop cause s) := by
  unfold actOnStop
  split
  case h_1 => exact .ite (fun _ => .refl s) fun _ => posts_interruptStartup s
  case h_2 | h_3 => exact posts_shutdown cause s
  case h_4 | h_5 | h_6 | h_7 => exact .refl s

theorem posts_returnToMetering (s : State) : Posts s (returnToMetering s) :=
  .of_changeMode (m := .metering) (cause := .start) (by simp [returnToMetering])

theorem posts_actOnStart (s : State) : Posts s (actOnStart s) := by
  unfold actOnStart
  split
  case h_1 => exact posts_tryStart _ s
  case h_2 => exact posts_returnToMetering s
  case h_3 | h_4 | h_5 | h_6 | h_7 => exact .refl s

theorem posts_judgeWish (s : State) : Posts s (judgeWish s) := by
  unfold judgeWish
  split
  · exact posts_actOnStart s
  · exact posts_actOnStop _ s
  · exact .refl s

theorem posts_resolve (s : State) : Posts s (resolve s) := .trans (t := formResolved s) (.of_events (by simp)) (posts_judgeWish _)

theorem posts_leaveHold (cause : ModeCause) (s : State) : Posts s (leaveHold cause s) :=
  .of_changeMode (m := .metering) (cause := cause) (by simp [leaveHold])

theorem posts_enterHold (l : LinkId) (s : State) : Posts s (enterHold l s) :=
  .of_changeMode (m := .hold) (cause := .hold) (by simp [enterHold])

theorem posts_endHold (kind : EventKind) (detail : Nat) (s : State) : Posts s (endHold kind detail s) := by
  unfold endHold
  split
  · exact .ite (fun _ => (posts_post s _ _ _).trans (posts_leaveHold _ _)) fun _ => .refl s
  · exact .refl s

theorem posts_afterLaneChange (i : Fin 3) (s : State) : Posts s (afterLaneChange i s) :=
  .ite (fun _ => .of_events (by simp)) fun _ => posts_advanceSequence s

theorem posts_endManual (cause : ModeCause) (s : State) : Posts s (endManual cause s) :=
  .trans (.of_events (by simp)) (posts_enterDarkJudged cause _)

theorem posts_enterManual (s : State) : Posts s (enterManual s) :=
  .of_changeMode (m := .manual) (cause := .manualEntered) (by simp [enterManual])

theorem posts_meterFault (i : Fin 3) (cause : MeterFaultCause) (s : State) : Posts s (meterFault i cause s) :=
  .trans (posts_post s _ _ _) (.ite (fun _ => .refl _) fun _ =>
    .of_changeMode (m := .faultDark) (cause := .meterFault) (by simp [enterFaultDark]))

/-! ### Detectors and spill -/

theorem posts_spillRises (b : Bool) (d : Fin 16) (s : State) : Posts s (spillRises b d s) := by
  refine .trans (.trans (t := (s.putSpill true).post .spillOn (d.val + 1) 0) ?_ ?_) (posts_endHold _ _ _)
  · exact .trans (.of_events (by simp)) (posts_post _ _ _ _)
  · exact .ite (fun _ => .of_events (by simp)) fun _ => .refl _

theorem posts_spillFalls (b : Bool) (detail : Nat) (s : State) : Posts s (spillFalls b detail s) :=
  .trans (t := (s.putSpill false).post .spillOff 0 detail) (.trans (.of_events (by simp)) (posts_post _ _ _ _))
    (.ite (fun _ => .of_events (by simp)) fun _ => .refl _)

theorem posts_judgeSpillOn (b : Bool) (s : State) : Posts s (judgeSpillOn b s) := by
  unfold judgeSpillOn
  split
  · exact .refl s
  · split
    · exact posts_spillRises b _ s
    · exact .refl s

theorem posts_judgeSpillOff (b : Bool) (s : State) : Posts s (judgeSpillOff b s) := by
  unfold judgeSpillOff
  split
  · split
    · exact posts_spillFalls b _ s
    · exact .refl s
  · exact .refl s

theorem posts_judgeSpill (b : Bool) (s : State) : Posts s (judgeSpill b s) :=
  .ite (fun _ => posts_judgeSpillOff b s) fun _ => posts_judgeSpillOn b s

theorem posts_raiseFault (d : Fin 16) (k : FaultKind) (s : State) : Posts s (raiseFault d k s) := by
  have raised : Posts s (faultRaised d k s) := by
    unfold faultRaised
    exact ((posts_setInput _ _ _).trans (posts_post _ _ _ _)).trans (posts_markSubstitutions _)
  rw [raiseFault_eq]
  exact .ite (fun _ => raised.trans (posts_judgeSpillOff true _)) fun _ => raised

theorem posts_endFault (d : Fin 16) (k : FaultKind) (cause : Nat) (s : State) : Posts s (endFault d k cause s) := by
  unfold endFault
  exact .ite (fun _ => .trans (.of_events (by simp)) (posts_post _ _ _ _)) fun _ => .refl s

theorem posts_passageNotice (i : Fin 3) (s : State) : Posts s (passageNotice i s) := by
  unfold passageNotice
  split
  · exact .refl s
  · refine .ite (fun _ => .refl s) fun _ => ?_
    have counted : ∀ x, Posts s (s.setDfeLane i x) := fun _ => .of_events (by simp)
    exact .ite (fun _ => (counted _).trans (posts_raiseFault _ _ _)) fun _ => counted _

theorem posts_passage (i : Fin 3) (s : State) : Posts s (passage i s) := by
  have set : ∀ x, Posts s (s.setLane i x) := fun _ => .of_events (by simp)
  unfold passage
  split
  · exact .refl s
  all_goals exact (set _).trans (posts_passageNotice i _)

theorem posts_demandShown (x : Input) (d : Fin 16) (s : State) : Posts s (demandShown x d s) := by
  unfold demandShown
  split
  · exact .trans (.of_events (by simp)) (posts_endFault _ _ _ _)
  · exact .refl s

theorem posts_chatterJudged (x : Input) (d : Fin 16) (s : State) : Posts s (chatterJudged x d s) :=
  .ite (fun _ => posts_raiseFault _ _ _) fun _ => .refl _

theorem posts_passageTaken (x : Input) (s : State) : Posts s (passageTaken x s) := by
  unfold passageTaken
  split
  · exact posts_passage _ _
  · exact .refl _

theorem posts_risingEdge (d : Fin 16) (s : State) : Posts s (risingEdge d s) := by
  rw [risingEdge_eq]
  exact ((((posts_setInput _ _ _).trans (posts_demandShown _ d _)).trans (posts_chatterJudged _ d _)).trans
    (posts_passageTaken _ _)).trans (posts_takePending _)

theorem posts_fallingEdge (d : Fin 16) (s : State) : Posts s (fallingEdge d s) := by
  unfold fallingEdge
  exact .trans (.of_events (by simp)) (posts_endFault _ _ _ _)

theorem posts_edge (d : Fin 16) (level : Bool) (s : State) : Posts s (edge d level s) :=
  .ite (fun _ => posts_risingEdge d s) fun _ => posts_fallingEdge d s

theorem posts_rawChange (d : Fin 16) (level : Bool) (s : State) : Posts s (rawChange d level s) := by
  have set : ∀ t x, Posts t (t.setInput d x) := fun _ _ => .of_events (by simp)
  unfold rawChange
  exact .ite (fun _ => .refl s) fun _ => (set s _).trans
    (.ite (fun _ => .refl _) fun _ => .ite (fun _ => posts_edge _ _ _) fun _ => set _ _)

theorem posts_filterExpiry (d : Fin 16) (s : State) : Posts s (filterExpiry d s) :=
  .ite (fun _ => posts_edge _ _ s) fun _ => .refl s

theorem posts_stuckExpiry (d : Fin 16) (s : State) : Posts s (stuckExpiry d s) :=
  .ite (fun _ => (posts_raiseFault _ _ s).trans (posts_takePending _)) fun _ => .refl s

theorem posts_endFaultsByMap (d : Fin 16) (s : State) : Posts s (endFaultsByMap d s) := by
  unfold endFaultsByMap
  exact ((posts_endFault _ _ _ s).trans (posts_endFault _ _ _ _)).trans (posts_endFault _ _ _ _)

theorem posts_writeMap (p : List Byte) (s : State) : Posts s (writeMap p s) := by
  have written : Posts s (mapWritten p s) :=
    ((posts_foldl (fun s d => posts_endFaultsByMap d s) _ s).trans (posts_foldl (fun s _ => posts_setInput s _ _) _ _)).trans
      (posts_orderEach (fun _ s => posts_setDfeLane s _ _) _ _)
  rw [writeMap_eq]
  exact (written.trans (posts_judgeSpillOff true _)).trans (posts_takePending _)

/-! ### Lamps -/

theorem posts_laneFault (i : Fin 3) (c : Colour) (w : WatchKind) (s : State) : Posts s (laneFault i c w s) := by
  unfold laneFault
  refine .trans (posts_post s _ _ _) (.ite (fun _ => .refl _) fun _ => ?_)
  exact ((posts_faultLane i _).trans (posts_recombineFault _)).trans
    (.ite (fun _ => posts_meterFault _ _ _) fun _ => (posts_advanceSequence _).trans (posts_judgeWish _))

theorem posts_consequence (k : Fin 10) (w : WatchKind) (s : State) : Posts s (consequence k w s) := by
  unfold consequence
  split
  · exact posts_post s _ _ _
  · split
    · exact posts_meterFault _ _ s
    · exact posts_laneFault _ _ _ s
  · split
    · exact posts_laneFault _ _ _ s
    · split
      · exact posts_laneFault _ _ _ s
      · exact posts_meterFault _ _ s
  · split
    · exact posts_laneFault _ _ _ s
    · split
      · exact posts_post s _ _ _
      · exact posts_laneFault _ _ _ s

theorem posts_latch (k : Fin 10) (w : WatchKind) (s : State) : Posts s (latch k w s) :=
  .ite (fun _ => (posts_setDrive s _ _).trans (posts_consequence k w _)) fun _ => .refl s

theorem posts_clearLaneFault (i : Fin 3) (s : State) : Posts s (clearLaneFault i s) := by
  rw [clearLaneFault_eq]
  exact (((posts_clearLaneWatches i s).trans (posts_post _ _ _ _)).trans (posts_restoreLane i _)).trans (posts_recombine _)

theorem posts_judgeHeld (i : Fin 3) (s : State) : Posts s (judgeHeld i s) :=
  .ite (fun _ => (posts_carryOutHeld i s).trans (posts_afterLaneChange i _)) fun _ => .refl s

/-! ### Closes and plans -/

theorem posts_setFloor (v : Bool) (detail : Nat) (s : State) : Posts s (setFloor v detail s) := by
  unfold setFloor
  exact .ite (fun _ => .refl s) fun _ => .trans (.of_events (by simp)) (posts_post _ _ _ _)

theorem posts_planChanged (s : State) : Posts s (planChanged s) := by
  unfold planChanged
  refine .trans ?_ (posts_judgeSpill true _)
  split
  · exact .ite (fun _ => .refl s) fun _ => posts_setFloor _ _ s
  · exact posts_setFloor _ _ s

theorem posts_applySlot (k : Fin 8) (s : State) : Posts s (applySlot k s) := by
  unfold applySlot
  exact .trans (.of_events rfl) (posts_post _ _ _ _)

theorem posts_planAtClose (s : State) : Posts s (planAtClose s) := by
  unfold planAtClose
  split
  · exact .refl s
  · exact .ite (fun _ => (posts_applySlot _ s).trans (posts_judgeSpill false _)) fun _ => .refl s

theorem posts_feedbackAtClose (om : Option Nat) (s : State) : Posts s (feedbackAtClose om s) := by
  unfold feedbackAtClose
  split
  · exact .refl s
  · exact .of_events rfl
  · dsimp only
    split
    · exact .of_events rfl
    · exact .trans (.of_events rfl) (posts_post _ _ _ _)

theorem posts_rateAtClose (dets : List DetEntry) (s : State) : Posts s (rateAtClose dets s) := by
  have floor : Posts s (floorAtClose dets s) := posts_setFloor _ _ s
  unfold rateAtClose
  exact floor.trans (.ite (fun _ => (posts_feedbackAtClose _ _).trans (posts_runCombine _ _)) fun _ => .refl _)

theorem posts_closeInput (d : Fin 16) (s : State) : Posts s (closeInput d s) := by
  unfold closeInput
  exact .trans (.ite (fun _ => posts_endFault _ _ _ s) fun _ => .refl s) (posts_setInput _ _ _)

theorem posts_dfeAtClose (s : State) : Posts s (dfeAtClose s) := by
  unfold dfeAtClose
  exact .trans (posts_foldl (fun s d => posts_closeInput d s) _ s) (posts_orderEach posts_closeDfeLane _ _)

theorem posts_postClosed (cause : Cause) (next : Nat) (s : State) : Posts s (postClosed cause next s) := by
  unfold postClosed
  cases cause
  case freeRun => exact .trans (posts_post s _ _ _) (posts_post _ _ _ _)
  all_goals exact posts_post s _ _ _

theorem posts_actOnAuto (w : Waiting) (s : State) : Posts s (actOnAuto w s) := by
  unfold actOnAuto
  refine .ite (fun _ => .ite (fun _ => posts_tryStart _ _) fun _ => .ite (fun _ => ?_) fun _ => .refl _) fun _ => .refl _
  split
  case h_1 | h_2 => exact posts_shutdown _ _
  case h_3 | h_4 | h_5 | h_6 | h_7 => exact .refl _

theorem posts_placeWaiting (s : State) : Posts s (placeWaiting s) := by
  unfold placeWaiting
  split
  · exact .refl s
  · exact .trans (.trans (posts_placeRecord _ s) (posts_actOnAuto _ _)) (posts_judgeWish _)

theorem posts_blocksAtClose (cause : Cause) (next : Nat) (s : State) : Posts s (blocksAtClose cause next s) := by
  unfold blocksAtClose
  exact ((((((posts_postClosed cause next s).trans (posts_beginInterval _ _)).trans (posts_dfeAtClose _)).trans
    (posts_schedAtClose _)).trans (posts_planAtClose _)).trans (posts_rateAtClose _ _)).trans (posts_runsAtClose _ _)

theorem posts_putWaiting (w : Waiting) (s : State) : Posts s (putWaiting w s) := .of_events rfl

theorem posts_closeInterval (cause : Cause) (next : Nat) (s : State) : Posts s (closeInterval cause next s) := by
  rw [closeInterval_eq]
  exact .trans (.trans (posts_placeWaiting s) (posts_blocksAtClose _ _ _)) (posts_putWaiting _ _)

theorem posts_closeTimed (s : State) : Posts s (closeTimed s) := .ite (fun _ => posts_closeInterval _ _ s) fun _ => .refl s

theorem posts_closeFreeRun (s : State) : Posts s (closeFreeRun s) := .ite (fun _ => posts_closeInterval _ _ s) fun _ => .refl s

theorem posts_writeLimits (p : List Byte) (s : State) : Posts s (writeLimits p s).state := by
  rw [writeLimits_eq, accept_state]
  have fallback : ∀ b t, Posts t (fallbackJudged b t) := fun _ t => .ite (fun _ => posts_resolve t) fun _ => .refl t
  refine .trans (.trans (.trans (.trans (t := { s with limits := limitsOf p }) (.of_events rfl) (posts_closeTimed _))
    (posts_closeFreeRun _)) (fallback _ _)) (posts_orderEach posts_judgeHeld _ _)

theorem posts_judgeSlot (k : Fin 8) (s : State) : Posts s (judgeSlot k s) := by
  unfold judgeSlot
  split
  · split
    · exact (posts_putSlot s _ _).trans (posts_post _ _ _ _)
    · exact .refl s
  · exact .refl s

theorem posts_slotsJudged (s : State) : Posts s (slotsJudged s) := by
  have locked : Posts s { s with locked := true } := .of_events rfl
  unfold slotsJudged
  exact locked.trans (posts_foldl (fun t k => posts_judgeSlot k t) allSlots _)

theorem posts_pendingJudged (s : State) : Posts s (pendingJudged s) := .ite (fun _ => .of_events (by simp)) fun _ => .refl s

theorem posts_activeJudged (s : State) : Posts s (activeJudged s) := by
  refine .ite (fun _ => ?_) fun _ => .refl s
  unfold deselect
  exact .trans (.of_events rfl) (posts_planChanged _)

theorem posts_lockLimits (s : State) : Posts s (lockLimits s).state := by
  rw [lockLimits_eq, accept_state]
  exact (((posts_slotsJudged s).trans (posts_pendingJudged _)).trans (posts_activeJudged _)).trans (posts_judgeWish _)

theorem posts_selectChecked (k : Fin 8) (s : State) : Posts s (selectChecked k s).state := by
  have selected : Posts s (selectPlan k s).state := by
    rw [selectPlan_eq]
    exact .ite (fun _ => ((posts_applySlot k s).trans (posts_planChanged _)).trans (posts_judgeWish _)) fun _ => .of_events rfl
  unfold selectChecked
  split
  · exact .refl s
  · split
    · exact .refl s
    · exact selected

/-! ### Links -/

theorem posts_removeOrder (l : LinkId) (kind : EventKind) (s : State) : Posts s (removeOrder l kind s) := by
  unfold removeOrder
  split
  · exact .trans (posts_putOrder l none s) ((posts_post _ _ _ _).trans (posts_recombine _))
  · exact .refl s

theorem posts_withdrawHold (l : LinkId) (s : State) : Posts s (withdrawHold l s) := by
  unfold withdrawHold
  split
  · exact .ite (fun _ => posts_endHold _ _ s) fun _ => .refl s
  · exact .refl s

theorem posts_withdrawManual (l : LinkId) (s : State) : Posts s (withdrawManual l s) :=
  .ite (fun _ => posts_endManual _ s) fun _ => .refl s

theorem posts_becomeAbsent (l : LinkId) (s : State) : Posts s (becomeAbsent l s) := by
  unfold becomeAbsent
  exact (((((((posts_setLink s l _).trans (posts_post _ _ _ _)).trans (posts_removeOrder l _ _)).trans (posts_withdrawHold l _)).trans
    (posts_withdrawManual l _)).trans (posts_releaseClaim l _)).trans (posts_putRequest l _ _)).trans (posts_resolve _)

theorem posts_violate (l : LinkId) (code : Nat) (s : State) : Posts s (violate l code s) := by
  unfold violate
  exact ((posts_setLink s l _).trans (posts_post _ _ _ _)).trans (.ite (fun _ => posts_becomeAbsent l _) fun _ => .refl _)

theorem posts_becomePresent (l : LinkId) (left : Nat) (s : State) : Posts s (becomePresent l left s) := by
  unfold becomePresent
  exact .trans (.of_events (by simp)) (posts_post _ _ _ _)

theorem posts_takeFrame (l : LinkId) (ka : Bool) (s : State) : Posts s (takeFrame l ka s) := by
  unfold takeFrame
  dsimp only
  split
  · exact posts_becomePresent _ _ s
  · exact .ite (fun _ => posts_becomePresent _ _ s) fun _ => .refl s
  · exact .ite (fun _ => .ite (fun _ => posts_violate _ _ s) fun _ => .of_events (by simp)) fun _ => .refl s

theorem posts_stagingTimeout (s : State) : Posts s (stagingTimeout s) := by
  unfold stagingTimeout
  split
  · exact .ite (fun _ => .trans (.of_events (by simp)) (posts_post _ _ _ _)) fun _ => .refl s
  · exact .refl s

end Sys2Proof.Postings
end

section
/-! The request of a steady frame: it is answered with what its owner (`requestAnswer`) makes of the received state, and
what the checks in front of a handler answer where they pass and where they fail. -/

namespace Sys2Proof.Steady
open Sys2Proof.Machine Sys2Proof.Steps

/-- The request of a steady frame, NOP apart, is answered by its owner in the received state. -/
theorem exec_steady {c : Instr} {l : LinkId} {kind tag : Byte} {p : List Byte} {s : State}
    (parts : requestParts c = some (l, kind, tag, p)) (notNop : ∀ l' tag' p', c ≠ .nop l' tag' p')
    (steady : SteadyFrame l (kind == 0x02) s) {a : Answer} (answer : requestAnswer c (received l (kind == 0x02) s) = a) :
    exec c s = .next (answered l kind tag a.status a.payload a.state) := by
  rw [exec_request parts notNop, serve_steady tag (requestAnswer c) steady rfl, answer]
  rfl

section Replies
variable {c : Instr} {l : LinkId} {kind tag : Byte} {p q : List Byte} {s t : State}

theorem exec_accepts (parts : requestParts c = some (l, kind, tag, p)) (notNop : ∀ l' tag' p', c ≠ .nop l' tag' p')
    (steady : SteadyFrame l (kind == 0x02) s) (answer : requestAnswer c (received l (kind == 0x02) s) = accept t q) :
    exec c s = .next (answered l kind tag .accepted q t) := exec_steady parts notNop steady answer

theorem exec_refuses {status : Status} (parts : requestParts c = some (l, kind, tag, p))
    (notNop : ∀ l' tag' p', c ≠ .nop l' tag' p') (steady : SteadyFrame l (kind == 0x02) s)
    (answer : requestAnswer c (received l (kind == 0x02) s) = refuse t status) :
    exec c s = .next (answered l kind tag status [] t) := exec_steady parts notNop steady answer

theorem exec_refusesRange {k : Nat} (parts : requestParts c = some (l, kind, tag, p))
    (notNop : ∀ l' tag' p', c ≠ .nop l' tag' p') (steady : SteadyFrame l (kind == 0x02) s)
    (answer : requestAnswer c (received l (kind == 0x02) s) = refuseRange t k) :
    exec c s = .next (answered l kind tag .range [byte k] t) := exec_steady parts notNop steady answer

end Replies

/-- A reply given changes nothing but the links. -/
@[simp] theorem answered_frame (l : LinkId) (kind tag : Byte) (status : Status) (p : List Byte) (s : State) :
    (answered l kind tag status p s).inputs = s.inputs ∧ (answered l kind tag status p s).dfeLanes = s.dfeLanes ∧
      (answered l kind tag status p s).counter = s.counter ∧ (answered l kind tag status p s).records = s.records ∧
      (answered l kind tag status p s).rate = s.rate ∧ (answered l kind tag status p s).sched = s.sched ∧
      (answered l kind tag status p s).meter = s.meter ∧ (answered l kind tag status p s).drives = s.drives ∧
      (answered l kind tag status p s).plans = s.plans ∧ (answered l kind tag status p s).limits = s.limits ∧
      (answered l kind tag status p s).locked = s.locked ∧ (answered l kind tag status p s).events = s.events ∧
      (answered l kind tag status p s).pending = s.pending := by
  simp [answered]

section Elements
variable (l : LinkId) (kind tag : Byte) (status : Status) (p : List Byte) (s : State)

@[simp] theorem answered_mode : (answered l kind tag status p s).mode = s.mode := by simp [State.mode]
@[simp] theorem answered_input (d : Fin 16) : (answered l kind tag status p s).input d = s.input d := by simp [State.input]
@[simp] theorem answered_dfeLane (i : Fin 3) : (answered l kind tag status p s).dfeLane i = s.dfeLane i := by simp [State.dfeLane]
@[simp] theorem answered_lane (i : Fin 3) : (answered l kind tag status p s).lane i = s.lane i := by simp [State.lane]
@[simp] theorem answered_drive (k : Fin 10) : (answered l kind tag status p s).drive k = s.drive k := by simp [State.drive]
@[simp] theorem answered_slot (k : Fin 8) : (answered l kind tag status p s).slot k = s.slot k := by simp [State.slot]
@[simp] theorem answered_aspect (i : Fin 3) : (answered l kind tag status p s).aspect i = s.aspect i := by simp [State.aspect]

/-- A reply becomes the last reply of its link, and the attention lines are judged. -/
theorem answered_link (m : LinkId) : (answered l kind tag status p s).link m =
    { s.link m with
      lastReply := if m = l then ⟨kind, tag, status, p⟩ else (s.link m).lastReply
      attention := ((answered l kind tag status p s).link m).attention } := by
  cases l <;> cases m <;> rfl

end Elements

section Checks
variable {p : List Byte} {s : State}

theorem withoutPayload_nil (h : State → Answer) : withoutPayload [] h s = h s := rfl

theorem withLength_of_eq {n : Nat} (len : p.length = n) (h : State → Answer) : withLength n p h s = h s := if_pos len

theorem withLength_of_ne {n : Nat} (len : p.length ≠ n) (h : State → Answer) : withLength n p h s = refuseRange s 255 :=
  if_neg len

theorem withFields_of_pass {c : List FieldCheck} (pass : firstFailure c = none) (h : State → Answer) : withFields c h s = h s := by
  simp [withFields, pass]

theorem withFields_of_fail {c : List FieldCheck} {k : Nat} (fail : firstFailure c = some k) (h : State → Answer) :
    withFields c h s = refuseRange s k := by
  simp [withFields, fail]

theorem withSlot_of_some {k : Fin 8} (slot : slotOf (byteAt p 0) = some k) (h : Fin 8 → State → Answer) :
    withSlot p h s = h k s := by
  simp [withSlot, slot]

theorem withSlot_of_none (slot : slotOf (byteAt p 0) = none) (h : Fin 8 → State → Answer) : withSlot p h s = refuseRange s 0 := by
  simp [withSlot, slot]

theorem withLane_of_some {i : Fin 3} (lane : laneOf (byteAt p 0) = some i) (h : Fin 3 → State → Answer) :
    withLane p h s = h i s := by
  simp [withLane, lane]

theorem withLane_of_none (lane : laneOf (byteAt p 0) = none) (h : Fin 3 → State → Answer) : withLane p h s = refuseRange s 0 := by
  simp [withLane, lane]

theorem whenPresent_of_present {l : LinkId} (h : State → Answer) (on : (s.link l).state = .present) : whenPresent l h s = h s := by
  simp [whenPresent, present, on]

theorem whenPresent_of_not {l : LinkId} (h : State → Answer) (off : (s.link l).state ≠ .present) :
    whenPresent l h s = refuse s .wrongState := by
  simp [whenPresent, present, off]

end Checks

/-! ### Bytes -/

theorem byte_toNat (n : Nat) : (byte n).toNat = n % 256 := BitVec.toNat_ofNat n 8

theorem byte_toNat_of_lt {n : Nat} (h : n < 256) : (byte n).toNat = n := by rw [byte_toNat, Nat.mod_eq_of_lt h]

theorem byte_of_toNat (b : Byte) : byte b.toNat = b := by simp [byte]

theorem slotOf_succ (k : Fin 8) : slotOf (k.val + 1) = some k := by
  have range : 1 ≤ k.val + 1 ∧ k.val + 1 ≤ 8 := by omega
  simp [slotOf, range]

theorem slotOf_none {n : Nat} (h : n < 1 ∨ 8 < n) : slotOf n = none := by
  have range : ¬ (1 ≤ n ∧ n ≤ 8) := by omega
  simp [slotOf, range]

theorem laneOf_none {n : Nat} (h : n < 1 ∨ 3 < n) : laneOf n = none := by
  have range : ¬ (1 ≤ n ∧ n ≤ 3) := by omega
  simp [laneOf, range]

end Sys2Proof.Steady
end

section
/-! The resets. Every input of a state just reset is fresh, so that the rising edges shown at the end of a reset change
the inputs alone; from this the full state after each reset follows field by field. -/

namespace Sys2Proof.Resets
open Sys2Proof.Machine Sys2Proof.Steps Sys2Proof.Steady Sys2Proof.CancelOrder

/-! ### Edges shown in a fresh state -/

/-- The lanes and the mode of a state just reset. -/
structure FreshLanes (s : State) : Prop where
  mode : s.mode = .dark
  lanes : ∀ i, s.lane i = .reset
  dfe : ∀ i, s.dfeLane i = ⟨0, false⟩

theorem FreshLanes.of_blocks {s t : State} (h : FreshLanes s) (meter : t.meter = s.meter) (sched : t.sched = s.sched)
    (dfe : t.dfeLanes = s.dfeLanes) : FreshLanes t where
  mode := by rw [State.mode, meter]; exact h.mode
  lanes i := by rw [State.lane, sched]; exact h.lanes i
  dfe i := by rw [State.dfeLane, dfe]; exact h.dfe i

/-- An input that has seen nothing since its reset. -/
structure FreshInput (x : Input) : Prop where
  chatter : x.chatter = 0
  noFault : x.faultOff = false

theorem takePending_dark {s : State} (h : s.mode = .dark) : takePending s = s := by
  obtain e | ⟨i, m, -⟩ := takePending_cases s
  · exact e
  · rw [h] at m; cases m

theorem setDfeLane_same {s : State} {i : Fin 3} {x : DfeLane} (h : s.dfeLane i = x) : s.setDfeLane i x = s := by
  have same : s.dfeLanes.set i x = s.dfeLanes := by
    rw [← h]
    exact Vector.set_getElem_self i.isLt
  unfold State.setDfeLane
  rw [same]

/-- A rising edge of a fresh input shows itself and does nothing else: it ends no fault, passes no chatter limit, and the
lanes of a meter just reset count no passage. -/
theorem risingEdge_fresh {s : State} {d : Fin 16} (fresh : FreshLanes s) (x : FreshInput (s.input d)) :
    risingEdge d s = s.setInput d (s.input d).rise.restartRun := by
  generalize ht : s.setInput d (s.input d).rise.restartRun = t
  have lanes : FreshLanes t := by
    subst ht
    exact fresh.of_blocks (by simp) (by simp) (by simp)
  have noFault : (t.input d).faultOff = false := by
    subst ht
    simpa [Input.rise, Input.restartRun] using x.noFault
  have demand : demandShown (s.input d) d t = t := by
    unfold demandShown
    split
    · next i _ =>
      rw [setDfeLane_same (by rw [lanes.dfe])]
      simp [endFault, Input.hasFault, noFault]
    · rfl
  have chatter : chatterJudged (s.input d) d t = t := by
    refine if_neg ?_
    simp only [x.chatter, Input.detectsChatter, Bool.and_eq_true, Bool.not_eq_true', beq_eq_false_iff_ne, beq_iff_eq]
    rintro ⟨⟨⟨-, limit⟩, -⟩, e⟩
    exact limit e.symm
  have passage : passageTaken (s.input d) t = t := by
    unfold passageTaken
    split
    · next i _ => simp [passage, lanes.lanes, classify, Lane.reset]
    · rfl
  rw [risingEdge_eq, ht, demand, chatter, passage, takePending_dark lanes.mode]

/-- The inputs that meet a condition show their rising edge. -/
def showIf (c : Input → Bool) (s : State) (d : Fin 16) : State := if c (s.input d) then risingEdge d s else s

/-- The inputs, those of a list that meet a condition with their rising edge shown. -/
def shownInputs (c : Input → Bool) (l : List (Fin 16)) (s : State) : Vector Input 16 :=
  Vector.ofFn fun e => if e ∈ l ∧ c (s.input e) = true then (s.input e).rise.restartRun else s.input e

/-- The inputs of a list that meet a condition have shown their rising edge, and nothing else has changed. -/
def shown (c : Input → Bool) (l : List (Fin 16)) (s : State) : State := { s with inputs := shownInputs c l s }

theorem shown_input (c : Input → Bool) (l : List (Fin 16)) (s : State) (e : Fin 16) :
    (shown c l s).input e = if e ∈ l ∧ c (s.input e) = true then (s.input e).rise.restartRun else s.input e := by
  simp [shown, shownInputs, State.input]

theorem shown_nil (c : Input → Bool) (s : State) : shown c [] s = s := by
  have same : shownInputs c [] s = s.inputs := by ext; simp [shownInputs, State.input]
  unfold shown
  rw [same]

theorem shownInputs_cons {c : Input → Bool} {d : Fin 16} {l : List (Fin 16)} {s t : State} (h : d ∉ l)
    (ht : ∀ e, t.input e = if e = d ∧ c (s.input d) = true then (s.input d).rise.restartRun else s.input e) :
    shownInputs c l t = shownInputs c (d :: l) s := by
  unfold shownInputs
  refine congrArg Vector.ofFn (funext fun e => ?_)
  rw [ht]
  by_cases he : e = d
  · subst he
    by_cases hc : c (s.input e) = true <;> simp [h, hc]
  · simp [he]

theorem shown_cons {c : Input → Bool} {d : Fin 16} {l : List (Fin 16)} {s : State} (h : d ∉ l) :
    shown c l (if c (s.input d) then s.setInput d (s.input d).rise.restartRun else s) = shown c (d :: l) s := by
  unfold shown
  rw [← shownInputs_cons (t := if c (s.input d) then s.setInput d (s.input d).rise.restartRun else s) h fun e => ?_]
  · split
    · dsimp only [State.setInput]
    · rfl
  · split
    · next hc => rw [input_setInput]; simp [hc]
    · next hc => simp [hc]

theorem foldl_showIf {c : Input → Bool} (l : List (Fin 16)) (nodup : l.Nodup) {s : State} (fresh : FreshLanes s)
    (x : ∀ d ∈ l, FreshInput (s.input d)) : l.foldl (showIf c) s = shown c l s := by
  induction l generalizing s with
  | nil => rw [shown_nil]; rfl
  | cons d l ih =>
    obtain ⟨notin, nodup⟩ := List.nodup_cons.mp nodup
    have first : showIf c s d = if c (s.input d) then s.setInput d (s.input d).rise.restartRun else s := by
      unfold showIf
      rw [risingEdge_fresh fresh (x d (by simp))]
    rw [List.foldl_cons, ih nodup, first, shown_cons notin]
    · rw [first]
      split
      · exact fresh.of_blocks (by simp) (by simp) (by simp)
      · exact fresh
    · intro e he
      have ne : e ≠ d := fun h => notin (h ▸ he)
      rw [first]
      split <;> simpa [ne] using x e (by simp [he])

theorem allInputs_nodup : allInputs.Nodup := by decide

theorem mem_allInputs (d : Fin 16) : d ∈ allInputs := by revert d; decide

/-! ### The hard resets -/

theorem freshLanes_hardResetBase (cause : Nat) (s : State) : FreshLanes (hardResetBase cause s) :=
  ⟨rfl, fun i => by simp [hardResetBase, State.reset, State.lane], fun i => by simp [hardResetBase, State.reset, State.dfeLane]⟩

theorem hardResetBase_input (cause : Nat) (s : State) (d : Fin 16) :
    (hardResetBase cause s).input d = { Input.reset with raw := (s.input d).raw } := by
  simp [hardResetBase, State.input]

theorem showRaw_fresh {s : State} (fresh : FreshLanes s) (x : ∀ d, FreshInput (s.input d)) :
    showRaw s = shown (fun x => x.raw && !x.cond) allInputs s := by
  rw [← foldl_showIf allInputs allInputs_nodup fresh fun d _ => x d]
  unfold showRaw showIf
  rfl

theorem freshInput_reset (raw : Bool) : FreshInput { Input.reset with raw := raw } := ⟨rfl, rfl⟩

theorem showRaw_hardResetBase (cause : Nat) (s : State) :
    showRaw (hardResetBase cause s) = shown (fun x => x.raw && !x.cond) allInputs (hardResetBase cause s) :=
  showRaw_fresh (freshLanes_hardResetBase cause s) fun d => by rw [hardResetBase_input]; exact freshInput_reset _

theorem keepSlots_input (old s : State) (d : Fin 16) : (keepSlots old s).input d = s.input d := rfl

theorem showRaw_keepSlots (cause : Nat) (old s : State) :
    showRaw (keepSlots old (hardResetBase cause s)) =
      shown (fun x => x.raw && !x.cond) allInputs (keepSlots old (hardResetBase cause s)) := by
  refine showRaw_fresh ((freshLanes_hardResetBase cause s).of_blocks rfl rfl rfl) fun d => ?_
  rw [keepSlots_input, hardResetBase_input]
  exact freshInput_reset _

/-- The state of a hard reset with given plan slots, before the edges are shown. -/
def hardBase (cause : Nat) (slots : Vector Slot 8) (s : State) : State :=
  { hardResetBase cause s with plans := { PlanStore.reset with slots := slots } }

/-- The state that a hard reset leaves. -/
def hardReset (cause : Nat) (slots : Vector Slot 8) (s : State) : State :=
  (shown (fun x => x.raw && !x.cond) allInputs (hardBase cause slots s)).judgeLines

theorem exec_powerOn (s : State) : exec .powerOn s = .next (hardReset 1 (Vector.replicate 8 ⟨.empty, defaultImage⟩) s) := by
  rw [exec_event rfl, eventEffect, showRaw_hardResetBase]
  rfl

theorem exec_resetLine (s : State) : exec .resetLine s = .next (hardReset 2 s.plans.slots s) := by
  rw [exec_event rfl, eventEffect, showRaw_keepSlots]
  rfl

theorem input_judgeLines (s : State) (d : Fin 16) : s.judgeLines.input d = s.input d := by simp [State.input]

/-- What a hard reset leaves of an input: its pin's level, shown. -/
theorem hardReset_input (cause : Nat) (slots : Vector Slot 8) (s : State) (d : Fin 16) :
    (hardReset cause slots s).input d =
      { Input.reset with raw := (s.input d).raw, cond := (s.input d).raw, volume := if (s.input d).raw then 1 else 0,
                         chatter := if (s.input d).raw then 1 else 0 } := by
  have base : (hardBase cause slots s).input d = { Input.reset with raw := (s.input d).raw } := by
    simp [hardBase, hardResetBase, State.input]
  rw [hardReset, input_judgeLines, shown_input, base]
  cases (s.input d).raw <;> simp [mem_allInputs, Input.reset, Input.rise, Input.restartRun, Input.counts, MapEntry.reset]

theorem hardReset_lane (cause : Nat) (slots : Vector Slot 8) (s : State) (i : Fin 3) :
    (hardReset cause slots s).lane i = .reset := by
  simp [hardReset, hardBase, hardResetBase, State.reset, shown, State.lane, State.judgeLines]

theorem hardReset_dfeLane (cause : Nat) (slots : Vector Slot 8) (s : State) (i : Fin 3) :
    (hardReset cause slots s).dfeLane i = ⟨0, false⟩ := by
  simp [hardReset, hardBase, hardResetBase, State.reset, shown, State.dfeLane, State.judgeLines]

theorem hardReset_drive (cause : Nat) (slots : Vector Slot 8) (s : State) (k : Fin 10) :
    (hardReset cause slots s).drive k = { Drive.reset with sensed := (s.drive k).sensed } := by
  simp [hardReset, hardBase, hardResetBase, shown, State.drive, State.judgeLines]

theorem hardReset_link (cause : Nat) (slots : Vector Slot 8) (s : State) (l : LinkId) :
    (hardReset cause slots s).link l =
      { LinkInterface.reset with transaction := cutTransaction (s.link l).transaction } := by
  cases l <;> rfl

/-- The blocks of a state after a hard reset. -/
theorem hardReset_blocks (cause : Nat) (slots : Vector Slot 8) (s : State) :
    (hardReset cause slots s).sched = State.reset.sched ∧ (hardReset cause slots s).counter = ⟨0, 0, none⟩ ∧
      (hardReset cause slots s).meter = .reset ∧ (hardReset cause slots s).rate = resetRate s.choices ∧
      (hardReset cause slots s).locked = false ∧ (hardReset cause slots s).limits = .default ∧
      (hardReset cause slots s).plans = { PlanStore.reset with slots := slots } ∧
      (hardReset cause slots s).records = ⟨[], []⟩ ∧
      (hardReset cause slots s).events = ⟨.afterReset cause 0, .afterReset cause 0⟩ ∧
      (hardReset cause slots s).pending = s.pending := by
  unfold hardReset hardBase hardResetBase shown State.judgeLines
  exact ⟨rfl, rfl, rfl, rfl, rfl, rfl, rfl, rfl, rfl, rfl⟩

/-- Without a DEMAND input a lane has demand (R18). -/
theorem hasDemand_of_unused {s : State} (h : ∀ d, (s.input d).entry.role = .unused) (i : Fin 3) : hasDemand s i = true := by
  have none : demandInput s i = none := List.find?_eq_none.mpr fun d _ => by simp [Input.isDemandOf, h]
  simp [hasDemand, none]

theorem hardReset_hasDemand (cause : Nat) (slots : Vector Slot 8) (s : State) (i : Fin 3) :
    hasDemand (hardReset cause slots s) i = true := by
  refine hasDemand_of_unused (fun d => ?_) i
  rw [hardReset_input]
  rfl

/-- Settles O14: the power-on state, block by block, with the pins' levels shown and, after the reset line, the slots
kept. -/
theorem hardResetsLeaveTheStatedValues : Obligations.HardResetsLeaveTheStatedValues := by
  unfold Obligations.HardResetsLeaveTheStatedValues
  intro s c cause hc
  obtain ⟨slots, run, kept⟩ : ∃ slots : Vector Slot 8, exec c s = .next (hardReset cause slots s) ∧
      ∀ k : Fin 8, slots[k] = if c = .powerOn then ⟨.empty, defaultImage⟩ else s.slot k := by
    obtain ⟨rfl, rfl⟩ | ⟨rfl, rfl⟩ := hc
    · exact ⟨_, exec_powerOn s, fun k => by simp⟩
    · exact ⟨_, exec_resetLine s, fun k => by simp [State.slot]⟩
  obtain ⟨sched, counter, meter, rate, locked, limits, plans, records, events, pending⟩ := hardReset_blocks cause slots s
  refine ⟨_, run, fun d => ?_, fun i => ⟨hardReset_dfeLane .., hardReset_hasDemand .., ?_, hardReset_lane ..⟩, ?_⟩
  · rw [hardReset_input]
    exact ⟨rfl, rfl, rfl, rfl, rfl, rfl, rfl, rfl, rfl, rfl, rfl⟩
  · simp [State.aspect, meter, ModeController.reset]
  · rw [State.mode, sched, counter, meter, rate, locked, limits, plans, records, events, pending]
    refine ⟨rfl, rfl, rfl, rfl, rfl, rfl, rfl, rfl, rfl, rfl, rfl, rfl, rfl, rfl, rfl, rfl, rfl, rfl, rfl, rfl, fun k => ?_,
      rfl, rfl, rfl, rfl, rfl, rfl, rfl, fun k => ?_, fun l => ⟨?_, ?_, ?_⟩, rfl⟩
    · rw [hardReset_drive]; rfl
    · rw [State.slot, plans]; exact kept k
    · cases l <;> rfl
    · cases l <;> rfl
    · rw [hardReset_link]; rfl

/-! ### The soft reset -/

theorem softResetBase_input (s : State) (d : Fin 16) : (softResetBase s).input d = (s.input d).softReset := by
  simp [softResetBase, State.input]

theorem freshLanes_softResetBase (s : State) : FreshLanes (softResetBase s) :=
  ⟨rfl, fun i => by simp [softResetBase, State.lane], fun i => by simp [softResetBase, State.dfeLane]⟩

/-- Whether a soft reset ends with the rising edge of an input. -/
def showsAtOnce (x : Input) : Bool := x.raw && !x.cond && x.entry.onFilter == 0

theorem softReset_eq (s : State) : softReset s = accept (shown showsAtOnce allInputs (softResetBase s)) [] := by
  unfold softReset showUnfiltered
  rw [← foldl_showIf allInputs allInputs_nodup (freshLanes_softResetBase s) fun d _ => ?_]
  · rfl
  · rw [softResetBase_input]
    exact ⟨rfl, rfl⟩

/-- The state that an accepted SOFT RESET leaves. -/
def softDone (s : State) : State := shown showsAtOnce allInputs (softResetBase s)

theorem softDone_input (s : State) (d : Fin 16) :
    (softDone s).input d = if (s.input d).raw && (s.input d).entry.onFilter == 0
      then (s.input d).softReset.rise.restartRun else (s.input d).softReset := by
  rw [softDone, shown_input, softResetBase_input]
  simp [mem_allInputs, showsAtOnce, Input.softReset, Input.reset]

theorem softDone_lane (s : State) (i : Fin 3) : (softDone s).lane i = .reset := by
  simp [softDone, shown, softResetBase, State.lane]

theorem softDone_dfeLane (s : State) (i : Fin 3) : (softDone s).dfeLane i = ⟨0, false⟩ := by
  simp [softDone, shown, softResetBase, State.dfeLane]

theorem softDone_drive (s : State) (k : Fin 10) :
    (softDone s).drive k = ({ s.drive k with commanded := false } : Drive).reprove s.limits := by
  simp [softDone, shown, softResetBase, State.drive]

/-- A drive that is off, proved again from the start. -/
theorem reprove_off (d : Drive) (lim : SiteLimits) :
    ({ d with commanded := false } : Drive).reprove lim = ⟨false, d.sensed, startBlank lim.lampBlank, .clear,
      if lim.lampBlank = 0 ∧ d.sensed then .suspect 0 lim.lampDeglitch else .clear⟩ := by
  cases d.sensed <;> by_cases hb : lim.lampBlank = 0 <;>
    simp [Drive.reprove, Drive.judge, startBlank, hb, WatchState.judge]

/-- The blocks of a state after a soft reset. -/
theorem softDone_blocks (s : State) :
    (softDone s).sched = { lanes := Vector.replicate 3 .reset, ring := [], elapsed := 0, headway := s.sched.headway,
                           releasePending := false } ∧
      (softDone s).counter = ⟨(s.counter.number + 1) % 65536, 0, none⟩ ∧ (softDone s).meter = .reset ∧
      (softDone s).rate = resetRate s.choices ∧ (softDone s).plans = { s.plans with claim := none } ∧
      (softDone s).limits = s.limits ∧ (softDone s).locked = s.locked ∧ (softDone s).records = ⟨[], []⟩ ∧
      (softDone s).events = ⟨.afterReset 3 ((s.counter.number + 1) % 65536), .afterReset 3 ((s.counter.number + 1) % 65536)⟩ ∧
      (softDone s).links = ⟨s.links.L.softReset, s.links.C.softReset⟩ ∧ (softDone s).pending = s.pending := by
  unfold softDone shown softResetBase nextNumber
  exact ⟨rfl, rfl, rfl, rfl, rfl, rfl, rfl, rfl, rfl, rfl, rfl⟩

theorem exec_softReset (tag : Byte) {s : State} (steady : SteadyFrame .L false s) :
    exec (.softReset .L tag []) s = .next (answered .L 0x48 tag .accepted [] (softDone (received .L false s))) :=
  exec_accepts (c := .softReset .L tag []) rfl (by simp) steady (softReset_eq (received .L false s))

/-- Settles O15: the state after an accepted SOFT RESET, block by block; with a payload nothing is reset. -/
theorem softResetKeepsTheSiteAndClearsTheRest : Obligations.SoftResetKeepsTheSiteAndClearsTheRest := by
  unfold Obligations.SoftResetKeepsTheSiteAndClearsTheRest
  intro tag s steady
  refine ⟨⟨_, exec_softReset tag steady, ?_⟩, fun p some =>
    exec_refusesRange (c := .softReset .L tag p) rfl (by simp) steady (withoutPayload_of_ne_nil some softReset _)⟩
  generalize hr : received .L false s = r
  have input : ∀ d, r.input d = s.input d := fun d => by subst hr; simp [State.input]
  have drive : ∀ k, r.drive k = s.drive k := fun k => by subst hr; simp [State.drive]
  have kept : r.sched = s.sched ∧ r.counter = s.counter ∧ r.plans = s.plans ∧ r.limits = s.limits ∧ r.locked = s.locked ∧
      r.pending = s.pending := by subst hr; simp
  have linkL : r.link .L = { s.link .L with transaction := .idle, violations := (r.link .L).violations, window := (r.link .L).window } := by
    subst hr; rfl
  have linkC : r.link .C = s.link .C := by subst hr; rfl
  obtain ⟨ksched, kcounter, kplans, klimits, klocked, kpending⟩ := kept
  obtain ⟨sched, counter, meter, rate, plans, limits, locked, records, events, links, pending⟩ := softDone_blocks r
  rw [ksched] at sched
  rw [kcounter] at counter events
  rw [kplans] at plans
  rw [klimits] at limits
  rw [klocked] at locked
  rw [kpending] at pending
  simp only [answered_frame, answered_input, answered_dfeLane, answered_lane, answered_drive, answered_mode, answered_aspect]
  refine ⟨fun d => ?_, fun i => ⟨softDone_dfeLane _ i, ?_, softDone_lane _ i⟩, fun k => ?_, ?_⟩
  · rw [softDone_input, input]
    generalize s.input d = x
    have test : (x.entry.onFilter == 0) = decide (x.entry.onFilter = 0) := rfl
    cases hr : x.raw <;> by_cases h : x.entry.onFilter = 0 <;>
      simp [hr, h, test, Input.softReset, Input.reset, Input.rise, Input.restartRun, Input.counts, Input.excluded, Input.anyFault]
  · simp [State.aspect, meter, ModeController.reset]
  · rw [softDone_drive, reprove_off, drive, klimits]
  · rw [State.mode, sched, counter, meter, rate, plans, limits, locked, records, events, pending]
    refine ⟨rfl, rfl, rfl, rfl, rfl, rfl, rfl, rfl, rfl, rfl, rfl, rfl, rfl, rfl, rfl, rfl, rfl, rfl, rfl, rfl, rfl, rfl, rfl,
      fun l => ?_, ?_, ?_, rfl⟩
    · cases l <;> exact ⟨rfl, rfl⟩
    · have soft : (softDone r).link .C = (s.link .C).softReset := by
        rw [← linkC, State.link, links]; rfl
      rw [answered_link, soft]
      rfl
    · have soft : (softDone r).link .L = (r.link .L).softReset := by
        rw [State.link, links]; rfl
      rw [answered_link, soft, linkL]
      rfl

/-! ### The invariants at the reset -/

theorem emptyHanded_reset (l : LinkId) : AbsentLinks.EmptyHanded l State.reset where
  order := by cases l <;> rfl
  request := by cases l <;> rfl
  claim _ h := by cases h
  owner _ h := by cases h
  manual _ h := by cases h

theorem reset_input (d : Fin 16) : State.reset.input d = .reset := by simp [State.reset, State.input]

/-- Settles O9: everything is OFF, empty and at its default. -/
theorem theInvariantsHoldAtReset : Obligations.TheInvariantsHoldAtReset := by
  unfold Obligations.TheInvariantsHoldAtReset
  refine ⟨?_, (AbsentLinks.linkInv_iff _).mpr ⟨?_, fun l _ => emptyHanded_reset l⟩, ⟨?_, ?_, ?_, ?_, ?_⟩, ?_, fun d => ?_⟩
  · exact Agreement.meterInv_of_reset (fun i => by simp [State.reset, State.lane]) (fun k => by simp [State.reset, State.drive, Drive.reset])
      rfl
  · constructor <;> intro h <;> cases h
  · intro l; cases l <;> decide
  · intro l; cases l <;> decide
  · intro l; cases l <;> decide
  · intro l; cases l <;> decide
  · intro l; cases l <;> decide
  · simp [State.reset, limitsInRange, SiteLimits.default]
  · rw [reset_input]; rfl

end Sys2Proof.Resets
end

section
/-! The bounded parts of the state: the event queues, the record queues, the site limits with their lock, and the spill
runs of the counting inputs. -/

namespace Sys2Proof.Bounds
open Sys2Proof.Machine Sys2Proof.Steps Sys2Proof.Postings Sys2Proof.Idle Sys2Proof.Resets Sys2Proof.Steady

/-! ### Event queues -/

/-- A queue of at most 32 entries, marked only when it is full. -/
def QueueFits (q : EventQueue) : Prop := q.entries.length ≤ 32 ∧ (q.mark = true → q.entries.length = 32)

theorem queueFits_offer {q : EventQueue} (h : QueueFits q) (e : Event) : QueueFits (q.offer e) := by
  obtain ⟨len, full⟩ := h
  unfold EventQueue.offer eventDepth
  split
  · next room =>
    refine ⟨by simpa using room.1, fun m => ?_⟩
    rw [show ({ q with entries := q.entries ++ [e] } : EventQueue).mark = q.mark from rfl, room.2] at m
    cases m
  · next none =>
    refine ⟨len, fun _ => ?_⟩
    by_cases m : q.mark = true
    · exact full m
    · exact le_antisymm len (Nat.not_lt.mp fun lt => none ⟨lt, by simpa using m⟩)

theorem queueFits_offers {q : EventQueue} (h : QueueFits q) (es : List Event) : QueueFits (es.foldl EventQueue.offer q) := by
  induction es generalizing q with
  | nil => exact h
  | cons e es ih => exact ih (queueFits_offer h e)

theorem queueFits_afterReset (cause number : Nat) : QueueFits (.afterReset cause number) :=
  ⟨by simp [EventQueue.afterReset], fun h => by cases h⟩

/-- A queue left with fewer entries takes its OVERFLOW entry; one with no mark is left with no more than it had. -/
theorem queueFits_leave {q : EventQueue} (h : QueueFits q) {rest : List Event} (overflow : Event) (le : rest.length ≤ q.entries.length)
    (lt : q.mark = true → rest.length < q.entries.length) : QueueFits (q.leave rest overflow) := by
  unfold EventQueue.leave
  split
  · next m =>
    have : rest.length < 32 := (h.2 m) ▸ lt m
    exact ⟨by simpa using this, fun h => by cases h⟩
  · next m => exact ⟨le.trans h.1, fun h => absurd h m⟩

/-- Both event queues fit. -/
def EventsFit (s : State) : Prop := ∀ l, QueueFits (s.events.get l)

theorem eventsFit_posts {s t : State} (p : Posts s t) (h : EventsFit s) : EventsFit t := by
  obtain ⟨es, e⟩ := p
  exact fun l => e l ▸ queueFits_offers (h l) es

theorem eventsFit_of_eq {s t : State} (e : t.events = s.events) (h : EventsFit s) : EventsFit t := by
  unfold EventsFit
  rw [e]
  exact h

theorem eventsFit_putEvents {s : State} (l : LinkId) {q : EventQueue} (fits : QueueFits q) (h : EventsFit s) :
    EventsFit (putEvents l q s) := by
  intro m
  show QueueFits ((s.events.set l q).get m)
  rw [PerLink.get_set]
  split
  · exact fits
  · exact h m

theorem eventsFit_readEvents (l : LinkId) {n : Nat} {s : State} (h : EventsFit s) (pos : 1 ≤ n) :
    EventsFit (readEvents l n s).state := by
  refine eventsFit_putEvents l (queueFits_leave (h l) _ (by simp) fun m => ?_) h
  have := (h l).2 m
  rw [List.length_drop]
  omega

theorem eventsFit_flushEvents (l : LinkId) {s : State} (h : EventsFit s) : EventsFit (flushEvents l s).state := by
  refine eventsFit_putEvents l (queueFits_leave (h l) _ (by simp) fun m => ?_) h
  rw [(h l).2 m]
  decide

theorem eventsFit_afterReset {s : State} {cause number : Nat} (e : s.events = ⟨.afterReset cause number, .afterReset cause number⟩) :
    EventsFit s := by
  intro l
  rw [e]
  cases l <;> exact queueFits_afterReset _ _

theorem posts_showRaw (s : State) : Posts s (showRaw s) := by
  unfold showRaw
  exact posts_foldl (fun s d => .ite (fun _ => posts_risingEdge d s) fun _ => .refl s) _ s

theorem eventsFit_softReset (s : State) : EventsFit (softReset s).state := by
  unfold softReset showUnfiltered
  refine accept_keeps _ (eventsFit_posts (s := softResetBase s) ?_ (eventsFit_afterReset rfl))
  exact posts_foldl (fun s d => .ite (fun _ => posts_risingEdge d s) fun _ => .refl s) _ _

theorem eventsFit_owners : KeptByOwners EventsFit where
  configureLink l p s h _ := eventsFit_of_eq (by simp) h
  readEvents l n s h pos := eventsFit_readEvents l h pos
  readRecord l s h := eventsFit_of_eq (by simp) h
  flushEvents l s h := eventsFit_flushEvents l h
  flushRecords l s h := eventsFit_of_eq (by simp) h
  openPlan l k s h _ := eventsFit_of_eq (by simp) h
  planData p c s h _ := eventsFit_of_eq (by simp) h
  commitPlan c s h _ := eventsFit_of_eq (by simp) h
  abortPlan s h := eventsFit_of_eq (by simp) h
  selectPlan k s h := eventsFit_posts (posts_selectChecked k s) h
  requestMetering l a s h _ := eventsFit_posts ((posts_putRequest l a s).trans (posts_resolve _)) h
  rateOrder l p s h _ := eventsFit_of_eq (by simp) h
  cancelOrder l s h := eventsFit_of_eq (by simp) h
  hold l s h _ := by
    unfold holdChecked
    split
    · exact h
    · split
      · exact h
      · split
        · exact h
        · exact accept_keeps _ (eventsFit_posts (posts_enterHold l s) h)
  resume l s h := by
    unfold resumeChecked
    split
    · exact h
    · split
      · exact accept_keeps _ (eventsFit_posts (posts_leaveHold _ s) h)
      · exact h
  clearLane i s h := by
    unfold clearLaneChecked
    split
    · exact h
    · split
      · exact accept_keeps _ (eventsFit_posts (posts_clearLaneFault i s) h)
      · exact h
  intervalMark n s h := by
    unfold intervalMark
    split
    · exact accept_keeps _ (eventsFit_posts (posts_post _ _ _ _) h)
    · exact accept_keeps _ (eventsFit_posts (posts_closeInterval _ _ s) h)
  writeLimits p s h _ _ := eventsFit_posts (posts_writeLimits p s) h
  lockLimits s h _ := eventsFit_posts (posts_lockLimits s) h
  writeMap p s h _ := eventsFit_posts (posts_writeMap p s) h
  enterManual l s h _ _ := by
    unfold enterManualChecked
    split
    · exact h
    · split
      · exact h
      · exact accept_keeps _ (eventsFit_posts (posts_enterManual s) h)
  setAspect i a s h := eventsFit_of_eq (by simp) h
  setBeacon on s h _ := eventsFit_of_eq (by simp) h
  exitManual s h _ := eventsFit_posts (posts_endManual _ s) h
  clearMeter s h := by
    unfold clearMeterChecked
    split
    · exact h
    · split
      · exact h
      · exact accept_keeps _ (eventsFit_posts ((posts_post s _ _ _).trans (posts_enterDarkJudged _ _)) h)
  softReset s _ := eventsFit_softReset s

theorem eventsFit_event (c : Instr) {s : State} (h : EventsFit s) : EventsFit (eventEffect c s) := by
  cases c <;> dsimp only [eventEffect]
  case powerOn => exact eventsFit_posts (posts_showRaw _) (eventsFit_afterReset rfl)
  case resetLine => exact eventsFit_posts (posts_showRaw _) (eventsFit_afterReset rfl)
  case chipSelectAsserted l => exact eventsFit_of_eq (by simp) h
  case badFrame l bytes => split <;> exact eventsFit_of_eq (by simp) h
  case detectorRawChange d v => exact eventsFit_posts (posts_rawChange d v s) h
  case filterTimerExpiry d => exact eventsFit_posts (posts_filterExpiry d s) h
  case stuckTimerExpiry d => exact eventsFit_posts (posts_stuckExpiry d s) h
  case intervalTimedExpiry => exact eventsFit_posts (posts_closeTimed s) h
  case freeRunExpiry => exact eventsFit_posts (posts_closeFreeRun s) h
  case recordPlaced => exact eventsFit_posts (posts_placeWaiting s) h
  case spillOn => exact eventsFit_posts (posts_judgeSpillOn true s) h
  case spillOff => exact eventsFit_posts (posts_judgeSpillOff true s) h
  case orderExpired l => exact eventsFit_posts (.ite (fun _ => posts_removeOrder l _ s) fun _ => .refl s) h
  case holdExpired => exact eventsFit_posts (.ite (fun _ => posts_endHold _ _ s) fun _ => .refl s) h
  case greenTimerExpiry i =>
    exact eventsFit_posts (.ite (fun _ => .trans (.of_events (t := endGreen i s) (by simp)) (posts_afterLaneChange i _)) fun _ => .refl s) h
  case amberTimerExpiry i =>
    exact eventsFit_posts (.ite (fun _ => (Posts.trans (.of_events (t := endAmber i s) (by simp)) (posts_afterLaneChange i _)).trans
      (posts_judgeWish _)) fun _ => .refl s) h
  case redTimerExpiry i =>
    exact eventsFit_posts (.ite (fun _ => (Posts.trans (.of_events (t := endRed i s) (by simp)) (posts_afterLaneChange i _)).trans
      (posts_takePending _)) fun _ => .refl s) h
  case headwayExpiry => split <;> exact eventsFit_of_eq (by simp) h
  case graceExpiry i => split <;> exact eventsFit_of_eq (by simp) h
  case greenMinReached i => exact eventsFit_posts (posts_judgeHeld i s) h
  case startupRestExpiry => split <;> exact eventsFit_of_eq (by simp) h
  case shutdownRestExpiry =>
    exact eventsFit_posts (.ite (fun _ => .trans (.of_events (t := orderEach orderCut (restingLanes s) s) (by simp))
      (posts_enterDarkJudged _ _)) fun _ => .refl s) h
  case lampSenseChange k v => exact eventsFit_of_eq (by simp) h
  case blankingExpiry k => exact eventsFit_of_eq (by simp) h
  case deglitchExpiry k w => exact eventsFit_posts (posts_latch k w s) h
  case proofExpiry k w => exact eventsFit_of_eq (by simp) h
  case stagingTimeout => exact eventsFit_posts (posts_stagingTimeout s) h
  case lateViolation l => exact eventsFit_posts (.ite (fun _ => posts_violate l 2 s) fun _ => .refl s) h
  all_goals exact h

theorem eventsFit_parts : KeptByParts EventsFit where
  owners := eventsFit_owners
  lines s h := eventsFit_of_eq (by simp) h
  reply l r s h := eventsFit_of_eq (by simp) h
  done l s h := eventsFit_of_eq (by simp) h
  frame l ka s h := eventsFit_posts (posts_takeFrame l ka s) h
  resolve s h := eventsFit_posts (posts_resolve s) h
  event c s _ h := eventsFit_event c h

/-! ### Record queues and link configurations -/

/-- A configuration in range with a record queue within its depth. -/
structure RecordsFit (l : LinkId) (s : State) : Prop where
  records : (s.records.get l).length ≤ (s.link l).depth
  depth : 2 ≤ (s.link l).depth ∧ (s.link l).depth ≤ 8
  threshold : 1 ≤ (s.link l).threshold ∧ (s.link l).threshold ≤ 32

theorem queueInv_iff (s : State) : QueueInv s ↔ EventsFit s ∧ ∀ l, RecordsFit l s :=
  ⟨fun h => ⟨fun l => ⟨h.events l, h.mark l⟩, fun l => ⟨h.records l, h.depth l, h.threshold l⟩⟩,
    fun ⟨h, r⟩ => ⟨fun l => (h l).1, fun l => (h l).2, fun l => (r l).records, fun l => (r l).depth, fun l => (r l).threshold⟩⟩

/-- The record queues of both links fit. -/
def AllRecordsFit (s : State) : Prop := ∀ l, RecordsFit l s

/-- A link keeps the fields of its configuration that bound its queues. -/
def KeepsDepths (s t : State) : Prop := ∀ l, (t.link l).depth = (s.link l).depth ∧ (t.link l).threshold = (s.link l).threshold

theorem KeepsDepths.of_links {s t : State} (h : t.links = s.links) : KeepsDepths s t := fun l => by
  rw [State.link, State.link, h]
  exact ⟨rfl, rfl⟩

theorem KeepsDepths.trans {s t u : State} (h : KeepsDepths s t) (g : KeepsDepths t u) : KeepsDepths s u :=
  fun l => ⟨(g l).1.trans (h l).1, (g l).2.trans (h l).2⟩

theorem keepsDepths_setLink {s : State} (l : LinkId) {x : LinkInterface} (depth : x.depth = (s.link l).depth)
    (threshold : x.threshold = (s.link l).threshold) : KeepsDepths s (s.setLink l x) := by
  intro m
  rw [link_setLink]
  split
  · next h => subst h; exact ⟨depth, threshold⟩
  · exact ⟨rfl, rfl⟩

theorem recordsFit_keeps {s t : State} (records : t.records = s.records) (k : KeepsDepths s t) (h : AllRecordsFit s) : AllRecordsFit t := by
  intro l
  obtain ⟨depth, threshold⟩ := k l
  exact ⟨by rw [records, depth]; exact (h l).records, depth ▸ (h l).depth, threshold ▸ (h l).threshold⟩

theorem recordsFit_of_blocks {s t : State} (records : t.records = s.records) (links : t.links = s.links) (h : AllRecordsFit s) :
    AllRecordsFit t := recordsFit_keeps records (.of_links links) h

theorem recordsFit_putRecords {s : State} (l : LinkId) {q : List IntervalRecord} (le : q.length ≤ (s.records.get l).length)
    (h : AllRecordsFit s) : AllRecordsFit (putRecords l q s) := by
  intro m
  refine ⟨?_, (h m).depth, (h m).threshold⟩
  show ((s.records.set l q).get m).length ≤ _
  rw [PerLink.get_set]
  split
  · next e => subst e; exact le.trans (h m).records
  · exact (h m).records

theorem enqueueRecord_length {depth : Nat} (pos : 1 ≤ depth) (q : List IntervalRecord) (r : IntervalRecord) :
    (enqueueRecord depth q r).length ≤ depth := by
  simp only [enqueueRecord, List.length_append, List.length_drop, List.length_singleton]
  omega

theorem recordsFit_placeRecord {s : State} (r : IntervalRecord) (h : AllRecordsFit s) : AllRecordsFit (placeRecord r s) := by
  intro l
  have pos : 1 ≤ (s.link l).depth := by have := (h l).depth; omega
  refine ⟨?_, (h l).depth, (h l).threshold⟩
  cases l <;> exact enqueueRecord_length pos _ r

theorem recordsFit_placeWaiting {s : State} (h : AllRecordsFit s) : AllRecordsFit (placeWaiting s) := by
  unfold placeWaiting
  split
  · exact h
  · next w _ => exact recordsFit_of_blocks (s := placeRecord w.record s) (by simp) (by simp) (recordsFit_placeRecord _ h)

theorem recordsFit_putWaiting {s : State} (w : Waiting) (h : AllRecordsFit s) : AllRecordsFit (putWaiting w s) :=
  recordsFit_of_blocks (s := s) (t := putWaiting w s) rfl rfl h

theorem recordsFit_closeInterval {s : State} (cause : Cause) (next : Nat) (h : AllRecordsFit s) : AllRecordsFit (closeInterval cause next s) := by
  rw [closeInterval_eq]
  refine recordsFit_putWaiting _ (recordsFit_of_blocks ?_ ?_ (recordsFit_placeWaiting h)) <;> simp [blocksAtClose]

theorem recordsFit_closeTimed {s : State} (h : AllRecordsFit s) : AllRecordsFit (closeTimed s) := by
  unfold closeTimed
  split
  · exact recordsFit_closeInterval _ _ h
  · exact h

theorem recordsFit_closeFreeRun {s : State} (h : AllRecordsFit s) : AllRecordsFit (closeFreeRun s) := by
  unfold closeFreeRun
  split
  · exact recordsFit_closeInterval _ _ h
  · exact h

theorem recordsFit_writeLimits {s : State} (p : List Byte) (h : AllRecordsFit s) : AllRecordsFit (writeLimits p s).state := by
  have limits : AllRecordsFit { s with limits := limitsOf p } :=
    recordsFit_of_blocks (s := s) (t := { s with limits := limitsOf p }) rfl rfl h
  rw [writeLimits_eq, accept_state]
  refine recordsFit_of_blocks ?_ ?_ (recordsFit_closeFreeRun (recordsFit_closeTimed limits)) <;>
    · unfold fallbackJudged
      split <;> simp

theorem recordsFit_configureLink {s : State} (l : LinkId) {p : List Byte} (ok : firstFailure (configChecks p) = none)
    (h : AllRecordsFit s) : AllRecordsFit (configureLink l p s).state := by
  have checks := firstFailure_eq_none.mp ok
  have depth := inRange_iff.mp (checks (inRange 2 8 (byteAt p 6), 6) (by simp [configChecks]))
  have threshold := inRange_iff.mp (checks (inRange 1 32 (byteAt p 7), 7) (by simp [configChecks]))
  intro m
  have link : (configureLink l p s).state.link m = if m = l then configured p (s.link l) else s.link m := link_setLink s l m _
  have records : (configureLink l p s).state.records.get m =
      if m = l then trimRecords (byteAt p 6) (s.records.get l) else s.records.get m := PerLink.get_set s.records l m _
  by_cases e : m = l
  · rw [if_pos e] at link records
    refine ⟨?_, by rw [link]; exact depth, by rw [link]; exact threshold⟩
    rw [link, records]
    simp only [trimRecords, configured, List.length_drop]
    omega
  · rw [if_neg e] at link records
    exact ⟨by rw [link, records]; exact (h m).records, by rw [link]; exact (h m).depth, by rw [link]; exact (h m).threshold⟩

theorem keepsDepths_becomeAbsent (l : LinkId) (s : State) : KeepsDepths s (becomeAbsent l s) := by
  refine .trans (keepsDepths_setLink l rfl rfl : KeepsDepths s (s.setLink l { s.link l with state := .absent })) (.of_links ?_)
  simp [becomeAbsent]

theorem keepsDepths_violate (l : LinkId) (code : Nat) (s : State) : KeepsDepths s (violate l code s) := by
  have counted : ∀ n kind a b, KeepsDepths s ((s.setLink l { s.link l with violations := n, window := 0 }).post kind a b) :=
    fun n _ _ _ => .trans (t := s.setLink l { s.link l with violations := n, window := 0 }) (keepsDepths_setLink l rfl rfl)
      (.of_links (by simp))
  unfold violate
  dsimp only
  split
  · exact (counted _ _ _ _).trans (keepsDepths_becomeAbsent l _)
  · exact counted _ _ _ _

theorem keepsDepths_takeFrame (l : LinkId) (ka : Bool) (s : State) : KeepsDepths s (takeFrame l ka s) := by
  have present : ∀ left, KeepsDepths s (becomePresent l left s) := fun _ =>
    .trans (t := s.setLink l { s.link l with state := .present, violations := 0, window := 0 }) (keepsDepths_setLink l rfl rfl)
      (.of_links (by simp [becomePresent]))
  unfold takeFrame
  dsimp only
  split
  · exact present _
  · split
    · exact present _
    · exact .of_links rfl
  · split
    · split
      · exact keepsDepths_violate l 1 s
      · exact keepsDepths_setLink l rfl rfl
    · exact .of_links rfl

theorem showRaw_records (s : State) : (showRaw s).records = s.records ∧ (showRaw s).links = s.links := by
  unfold showRaw
  refine ⟨foldl_records _ (fun s d => ?_) _ s, foldl_links _ (fun s d => ?_) _ s⟩ <;> split <;> simp

theorem recordsFit_reset {s : State} (records : ∀ l, s.records.get l = []) (links : ∀ l, (s.link l).depth = 4 ∧ (s.link l).threshold = 1) :
    AllRecordsFit s := by
  intro l
  obtain ⟨depth, threshold⟩ := links l
  exact ⟨by rw [records]; simp, by omega, by omega⟩

theorem recordsFit_softReset {s : State} (h : AllRecordsFit s) : AllRecordsFit (softReset s).state := by
  rw [softReset_eq]
  intro l
  obtain ⟨-, -, -, -, -, -, -, records, -, links, -⟩ := softDone_blocks s
  have link : (softDone s).link l = (s.link l).softReset := by
    rw [State.link, links]
    cases l <;> rfl
  refine ⟨?_, link ▸ (h l).depth, link ▸ (h l).threshold⟩
  show ((softDone s).records.get l).length ≤ _
  rw [records]
  cases l <;> exact Nat.zero_le _

theorem recordsFit_owners : KeptByOwners AllRecordsFit where
  configureLink l p s h ok := recordsFit_configureLink l ok h
  readEvents l n s h _ := recordsFit_of_blocks (by simp) (by simp) h
  readRecord l s h := by
    unfold readRecord
    split
    · next r rest e => exact accept_keeps _ (recordsFit_putRecords l (by rw [e]; simp) h)
    · exact h
  flushEvents l s h := recordsFit_of_blocks (by simp) (by simp) h
  flushRecords l s h := recordsFit_putRecords l (by simp) h
  openPlan l k s h _ := recordsFit_of_blocks (by simp) (by simp) h
  planData p c s h _ := recordsFit_of_blocks (by simp) (by simp) h
  commitPlan c s h _ := recordsFit_of_blocks (by simp) (by simp) h
  abortPlan s h := recordsFit_of_blocks (by simp) (by simp) h
  selectPlan k s h := recordsFit_of_blocks (by simp) (by simp) h
  requestMetering l a s h _ := recordsFit_of_blocks (by simp) (by simp) h
  rateOrder l p s h _ := recordsFit_of_blocks (by simp) (by simp) h
  cancelOrder l s h := recordsFit_of_blocks (by simp) (by simp) h
  hold l s h _ := recordsFit_of_blocks (by simp) (by simp) h
  resume l s h := recordsFit_of_blocks (by simp) (by simp) h
  clearLane i s h := recordsFit_of_blocks (by simp) (by simp) h
  intervalMark n s h := by
    unfold intervalMark
    split
    · exact accept_keeps _ (recordsFit_of_blocks (by simp) (by simp) h)
    · exact accept_keeps _ (recordsFit_closeInterval _ _ h)
  writeLimits p s h _ _ := recordsFit_writeLimits p h
  lockLimits s h _ := recordsFit_of_blocks (by simp) (by simp) h
  writeMap p s h _ := recordsFit_of_blocks (by simp) (by simp) h
  enterManual l s h _ _ := recordsFit_of_blocks (by simp) (by simp) h
  setAspect i a s h := recordsFit_of_blocks (by simp) (by simp) h
  setBeacon on s h _ := recordsFit_of_blocks (by simp) (by simp) h
  exitManual s h _ := recordsFit_of_blocks (by simp) (by simp) h
  clearMeter s h := recordsFit_of_blocks (by simp) (by simp) h
  softReset s h := recordsFit_softReset h

theorem recordsFit_event (c : Instr) {s : State} (h : AllRecordsFit s) : AllRecordsFit (eventEffect c s) := by
  have reset : ∀ cause, AllRecordsFit (hardResetBase cause s) := fun cause =>
    recordsFit_reset (fun l => by cases l <;> rfl) fun l => by cases l <;> exact ⟨rfl, rfl⟩
  have done : ∀ l, AllRecordsFit (endTransaction l s) := fun l => recordsFit_keeps (by simp) (keepsDepths_setLink l rfl rfl) h
  cases c <;> dsimp only [eventEffect]
  case powerOn => exact recordsFit_of_blocks (showRaw_records _).1 (showRaw_records _).2 (reset 1)
  case resetLine =>
    exact recordsFit_of_blocks (showRaw_records _).1 (showRaw_records _).2 (recordsFit_of_blocks (s := hardResetBase 2 s) rfl rfl (reset 2))
  case chipSelectAsserted l => exact recordsFit_keeps (by simp) (keepsDepths_setLink l rfl rfl) h
  case badFrame l bytes =>
    split
    · exact done l
    · exact recordsFit_keeps (by simp) (keepsDepths_setLink l rfl rfl) (done l)
  case intervalTimedExpiry => exact recordsFit_closeTimed h
  case freeRunExpiry => exact recordsFit_closeFreeRun h
  case recordPlaced => exact recordsFit_placeWaiting h
  case lateViolation l =>
    split
    · exact recordsFit_keeps (by simp) (keepsDepths_violate l 2 s) h
    · exact h
  all_goals exact recordsFit_of_blocks (by (repeat' split) <;> simp) (by (repeat' split) <;> simp) h

theorem recordsFit_parts : KeptByParts AllRecordsFit where
  owners := recordsFit_owners
  lines s h := recordsFit_keeps (by simp) (fun l => by cases l <;> exact ⟨rfl, rfl⟩) h
  reply l r s h := recordsFit_keeps (by simp) (keepsDepths_setLink l rfl rfl) h
  done l s h := recordsFit_keeps (by simp) (keepsDepths_setLink l rfl rfl) h
  frame l ka s h := recordsFit_keeps (by simp) (keepsDepths_takeFrame l ka s) h
  resolve s h := recordsFit_of_blocks (by simp) (by simp) h
  event c s _ h := recordsFit_event c h

end Sys2Proof.Bounds
end

section
/-! The spill runs, the site limits and the lock under every step, and with the queues before them the settled bounds. -/

namespace Sys2Proof.Bounds
open Sys2Proof.Machine Sys2Proof.Steps Sys2Proof.Postings Sys2Proof.Idle Sys2Proof.Resets Sys2Proof.Steady

/-! ### Spill runs -/

/-- An input has a spill run exactly while it counts. -/
def RunAgrees (x : Input) : Prop := x.run.isSome = x.counts

theorem runAgrees_alignRun (x : Input) : RunAgrees x.alignRun := by
  have counts : x.alignRun.counts = x.counts := rfl
  unfold RunAgrees
  rw [counts]
  unfold Input.alignRun
  cases x.counts <;> rfl

theorem runAgrees_restartRun (x : Input) : RunAgrees x.restartRun := by
  have counts : x.restartRun.counts = x.counts := rfl
  unfold RunAgrees
  rw [counts]
  unfold Input.restartRun
  cases x.counts <;> rfl

theorem runs_of_inputs {s t : State} (e : t.inputs = s.inputs) (h : RunsCount s) : RunsCount t := by
  intro d
  rw [State.input, e]
  exact h d

theorem runs_setInput {s : State} (d : Fin 16) {x : Input} (agrees : RunAgrees x) (h : RunsCount s) : RunsCount (s.setInput d x) := by
  intro e
  rw [input_setInput]
  split
  · exact agrees
  · exact h e

theorem runs_foldl {β : Type} {f : State → β → State} (h : ∀ s b, RunsCount s → RunsCount (f s b)) (l : List β) {s : State}
    (hs : RunsCount s) : RunsCount (l.foldl f s) := by
  induction l generalizing s with
  | nil => exact hs
  | cons b l ih => exact ih (h s b hs)

theorem runs_endFault {s : State} (d : Fin 16) (k : FaultKind) (cause : Nat) (h : RunsCount s) : RunsCount (endFault d k cause s) := by
  unfold endFault
  split
  · exact runs_of_inputs (State.post_frame _ _ _ _).1 (runs_setInput d (runAgrees_alignRun _) h)
  · exact h

theorem runs_raiseFault {s : State} (d : Fin 16) (k : FaultKind) (h : RunsCount s) : RunsCount (raiseFault d k s) := by
  have raised : RunsCount (faultRaised d k s) := by
    unfold faultRaised
    exact runs_of_inputs (by simp) (runs_setInput d (runAgrees_alignRun { (s.input d).setFault k true with seen := true }) h)
  rw [raiseFault_eq]
  split
  · exact runs_of_inputs (by simp) raised
  · exact raised

theorem runs_passageNotice {s : State} (i : Fin 3) (h : RunsCount s) : RunsCount (passageNotice i s) := by
  have counted : ∀ x, RunsCount (s.setDfeLane i x) := fun _ => runs_of_inputs (by simp) h
  unfold passageNotice
  split
  · exact h
  · split
    · exact h
    · dsimp only
      split
      · exact runs_raiseFault _ _ (counted _)
      · exact counted _

theorem runs_passage {s : State} (i : Fin 3) (h : RunsCount s) : RunsCount (passage i s) := by
  unfold passage
  split
  · exact h
  all_goals exact runs_passageNotice i (runs_of_inputs (s := s) (by simp) h)

theorem runs_risingEdge {s : State} (d : Fin 16) (h : RunsCount s) : RunsCount (risingEdge d s) := by
  have demand : ∀ x (u : State), RunsCount u → RunsCount (demandShown x d u) := fun x u h => by
    unfold demandShown
    split
    · exact runs_endFault _ _ _ (runs_of_inputs (s := u) (by simp) h)
    · exact h
  have chatter : ∀ x (u : State), RunsCount u → RunsCount (chatterJudged x d u) := fun x u h => by
    unfold chatterJudged
    split
    · exact runs_raiseFault _ _ h
    · exact h
  have taken : ∀ x (u : State), RunsCount u → RunsCount (passageTaken x u) := fun x u h => by
    unfold passageTaken
    split
    · exact runs_passage _ h
    · exact h
  rw [risingEdge_eq]
  exact runs_of_inputs (takePending_frame _).1 (taken _ _ (chatter _ _ (demand _ _ (runs_setInput d (runAgrees_restartRun _) h))))

theorem runs_edge {s : State} (d : Fin 16) (level : Bool) (h : RunsCount s) : RunsCount (edge d level s) := by
  unfold edge
  split
  · exact runs_risingEdge d h
  · unfold fallingEdge
    exact runs_endFault _ _ _ (runs_setInput d (runAgrees_restartRun _) h)

theorem runs_rawChange {s : State} (d : Fin 16) (level : Bool) (h : RunsCount s) : RunsCount (rawChange d level s) := by
  have put : ∀ (u : State) filter, RunsCount u → RunsCount (u.setInput d { s.input d with raw := level, filter := filter }) :=
    fun u filter hu => runs_setInput d (show RunAgrees _ from h d) hu
  unfold rawChange
  dsimp only
  split
  · exact h
  · split
    · exact put _ _ h
    · split
      · exact runs_edge _ _ (put _ _ h)
      · exact put _ _ (put _ _ h)

theorem runs_writeMap {s : State} (p : List Byte) (h : RunsCount s) : RunsCount (writeMap p s) := by
  have written : RunsCount (mapWritten p s) := by
    have ended : RunsCount (allInputs.foldl (fun s d => endFaultsByMap d s) s) :=
      runs_foldl (fun u d hu => runs_endFault _ _ _ (runs_endFault _ _ _ (runs_endFault _ _ _ hu))) _ h
    have remapped : RunsCount (allInputs.foldl (fun s d => s.setInput d ((s.input d).remap (entryOf p d)))
        (allInputs.foldl (fun s d => endFaultsByMap d s) s)) :=
      runs_foldl (fun u d hu => runs_setInput d (runAgrees_alignRun _) hu) _ ended
    unfold mapWritten
    exact runs_of_inputs (by simp) remapped
  rw [writeMap_eq]
  exact runs_of_inputs (by simp) written

theorem runs_closeInput {s : State} (d : Fin 16) (h : RunsCount s) : RunsCount (closeInput d s) := by
  have ended : RunsCount (if (s.input d).faultChatter && decide ((s.input d).chatter ≤ (s.input d).entry.chatterLimit)
      then endFault d .chatter 1 s else s) := by
    split
    · exact runs_endFault _ _ _ h
    · exact h
  unfold closeInput
  exact runs_setInput d (ended d) ended

theorem runs_dfeAtClose {s : State} (h : RunsCount s) : RunsCount (dfeAtClose s) := by
  have closed : RunsCount (allInputs.foldl (fun s d => closeInput d s) s) := runs_foldl (fun _ d hu => runs_closeInput d hu) _ h
  unfold dfeAtClose
  exact runs_of_inputs (by simp) closed

theorem runs_putWaiting {s : State} (w : Waiting) (h : RunsCount s) : RunsCount (putWaiting w s) :=
  runs_of_inputs (s := s) (t := putWaiting w s) rfl h

theorem runs_closeInterval {s : State} (cause : Cause) (next : Nat) (h : RunsCount s) : RunsCount (closeInterval cause next s) := by
  have placed : RunsCount (placeWaiting s) := runs_of_inputs (by simp) h
  have begun : RunsCount (beginInterval next (postClosed cause next (placeWaiting s))) := runs_of_inputs (by simp) placed
  rw [closeInterval_eq]
  refine runs_putWaiting _ ?_
  unfold blocksAtClose
  exact runs_of_inputs (by simp) (runs_dfeAtClose begun)

theorem runs_closeTimed {s : State} (h : RunsCount s) : RunsCount (closeTimed s) := by
  unfold closeTimed
  split
  · exact runs_closeInterval _ _ h
  · exact h

theorem runs_closeFreeRun {s : State} (h : RunsCount s) : RunsCount (closeFreeRun s) := by
  unfold closeFreeRun
  split
  · exact runs_closeInterval _ _ h
  · exact h

theorem runs_writeLimits {s : State} (p : List Byte) (h : RunsCount s) : RunsCount (writeLimits p s).state := by
  have limits : RunsCount { s with limits := limitsOf p } := runs_of_inputs (s := s) (t := { s with limits := limitsOf p }) rfl h
  rw [writeLimits_eq, accept_state]
  refine runs_of_inputs ?_ (runs_closeFreeRun (runs_closeTimed limits))
  unfold fallbackJudged
  split <;> simp

theorem runs_showRaw {s : State} (h : RunsCount s) : RunsCount (showRaw s) := by
  unfold showRaw
  refine runs_foldl (fun u d hu => ?_) _ h
  split
  · exact runs_risingEdge d hu
  · exact hu

theorem runs_softReset (s : State) : RunsCount (softReset s).state := by
  unfold softReset showUnfiltered
  refine accept_keeps _ (runs_foldl (fun u d hu => ?_) _ fun d => ?_)
  · split
    · exact runs_risingEdge d hu
    · exact hu
  · rw [softResetBase_input]
    by_cases h : (s.input d).entry.role = .spillback <;>
      simp [Input.softReset, Input.counts, Input.excluded, Input.anyFault, Input.reset, h]

theorem runs_hardResetBase (cause : Nat) (s : State) : RunsCount (hardResetBase cause s) := by
  intro d
  rw [hardResetBase_input]
  rfl

theorem runs_tick {s : State} (h : RunsCount s) : RunsCount (tick s) := by
  intro d
  have agrees := h d
  rw [tick_input]
  simpa [Input.tick, Input.counts, Input.excluded, Input.anyFault] using agrees

theorem runs_owners : KeptByOwners RunsCount where
  configureLink l p s h _ := runs_of_inputs (by simp) h
  readEvents l n s h _ := runs_of_inputs (by simp) h
  readRecord l s h := runs_of_inputs (by simp) h
  flushEvents l s h := runs_of_inputs (by simp) h
  flushRecords l s h := runs_of_inputs (by simp) h
  openPlan l k s h _ := runs_of_inputs (by simp) h
  planData p c s h _ := runs_of_inputs (by simp) h
  commitPlan c s h _ := runs_of_inputs (by simp) h
  abortPlan s h := runs_of_inputs (by simp) h
  selectPlan k s h := runs_of_inputs (by simp) h
  requestMetering l a s h _ := runs_of_inputs (by simp) h
  rateOrder l p s h _ := runs_of_inputs (by simp) h
  cancelOrder l s h := runs_of_inputs (by simp) h
  hold l s h _ := runs_of_inputs (by simp) h
  resume l s h := runs_of_inputs (by simp) h
  clearLane i s h := runs_of_inputs (by simp) h
  intervalMark n s h := by
    unfold intervalMark
    split
    · exact accept_keeps _ (runs_of_inputs (by simp) h)
    · exact accept_keeps _ (runs_closeInterval _ _ h)
  writeLimits p s h _ _ := runs_writeLimits p h
  lockLimits s h _ := runs_of_inputs (by simp) h
  writeMap p s h _ := runs_writeMap p h
  enterManual l s h _ _ := runs_of_inputs (by simp) h
  setAspect i a s h := runs_of_inputs (by simp) h
  setBeacon on s h _ := runs_of_inputs (by simp) h
  exitManual s h _ := runs_of_inputs (by simp) h
  clearMeter s h := runs_of_inputs (by simp) h
  softReset s _ := runs_softReset s

theorem runs_event (c : Instr) {s : State} (h : RunsCount s) : RunsCount (eventEffect c s) := by
  cases c <;> dsimp only [eventEffect]
  case powerOn => exact runs_showRaw (runs_hardResetBase 1 s)
  case resetLine => exact runs_showRaw (runs_of_inputs (s := hardResetBase 2 s) rfl (runs_hardResetBase 2 s))
  case detectorRawChange d v => exact runs_rawChange d v h
  case filterTimerExpiry d =>
    unfold filterExpiry
    split
    · exact runs_edge d _ h
    · exact h
  case stuckTimerExpiry d =>
    unfold stuckExpiry
    split
    · exact runs_of_inputs (takePending_frame _).1 (runs_raiseFault d _ h)
    · exact h
  case intervalTimedExpiry => exact runs_closeTimed h
  case freeRunExpiry => exact runs_closeFreeRun h
  all_goals exact runs_of_inputs (by (repeat' split) <;> simp) h

theorem runs_parts : KeptByParts RunsCount where
  owners := runs_owners
  lines s h := runs_of_inputs (by simp) h
  reply l r s h := runs_of_inputs (by simp) h
  done l s h := runs_of_inputs (by simp) h
  frame l ka s h := runs_of_inputs (by simp) h
  resolve s h := runs_of_inputs (by simp) h
  event c s _ h := runs_event c h

/-! ### Limits and lock -/

/-- The limits in their ranges. -/
def LimitsFit (s : State) : Prop := limitsInRange s.limits

theorem limits_of_eq {s t : State} (e : t.limits = s.limits) (h : LimitsFit s) : LimitsFit t := by
  unfold LimitsFit
  rw [e]
  exact h

theorem limitsFit_default : limitsInRange .default := by simp [limitsInRange, SiteLimits.default]

/-- The checks of WRITE LIMITS let through limits in their ranges alone (R126). -/
theorem limitsFit_of_checks {p : List Byte} (ok : firstFailure (limitsChecks p) = none) : limitsInRange (limitsOf p) := by
  have checks := firstFailure_eq_none.mp ok
  simp only [limitsChecks, List.forall_mem_cons, inRange_iff] at checks
  simp only [limitsInRange, limitsOf]
  omega

theorem showRaw_limits (s : State) : (showRaw s).limits = s.limits := by
  unfold showRaw
  refine foldl_limits _ (fun s d => ?_) _ s
  split <;> simp

theorem softReset_limits (s : State) : (softReset s).state.limits = s.limits ∧ (softReset s).state.locked = s.locked := by
  obtain ⟨-, -, -, -, -, limits, locked, -⟩ := softDone_blocks s
  rw [softReset_eq]
  exact ⟨limits, locked⟩

theorem writeLimits_limits (p : List Byte) (s : State) : (writeLimits p s).state.limits = limitsOf p := by
  rw [writeLimits_eq, accept_state]
  unfold fallbackJudged
  split <;> simp

theorem limits_owners : KeptByOwners LimitsFit where
  configureLink l p s h _ := limits_of_eq (by simp) h
  readEvents l n s h _ := limits_of_eq (by simp) h
  readRecord l s h := limits_of_eq (by simp) h
  flushEvents l s h := limits_of_eq (by simp) h
  flushRecords l s h := limits_of_eq (by simp) h
  openPlan l k s h _ := limits_of_eq (by simp) h
  planData p c s h _ := limits_of_eq (by simp) h
  commitPlan c s h _ := limits_of_eq (by simp) h
  abortPlan s h := limits_of_eq (by simp) h
  selectPlan k s h := limits_of_eq (by simp) h
  requestMetering l a s h _ := limits_of_eq (by simp) h
  rateOrder l p s h _ := limits_of_eq (by simp) h
  cancelOrder l s h := limits_of_eq (by simp) h
  hold l s h _ := limits_of_eq (by simp) h
  resume l s h := limits_of_eq (by simp) h
  clearLane i s h := limits_of_eq (by simp) h
  intervalMark n s h := limits_of_eq (by simp) h
  writeLimits p s _ _ ok := by
    unfold LimitsFit
    rw [writeLimits_limits]
    exact limitsFit_of_checks ok
  lockLimits s h _ := limits_of_eq (by simp) h
  writeMap p s h _ := limits_of_eq (by simp) h
  enterManual l s h _ _ := limits_of_eq (by simp) h
  setAspect i a s h := limits_of_eq (by simp) h
  setBeacon on s h _ := limits_of_eq (by simp) h
  exitManual s h _ := limits_of_eq (by simp) h
  clearMeter s h := limits_of_eq (by simp) h
  softReset s h := limits_of_eq (softReset_limits s).1 h

theorem limits_parts : KeptByParts LimitsFit where
  owners := limits_owners
  lines s h := limits_of_eq (by simp) h
  reply l r s h := limits_of_eq (by simp) h
  done l s h := limits_of_eq (by simp) h
  frame l ka s h := limits_of_eq (by simp) h
  resolve s h := limits_of_eq (by simp) h
  event c s _ h := by
    cases c <;> dsimp only [eventEffect]
    case powerOn => exact limits_of_eq (showRaw_limits _) limitsFit_default
    case resetLine => exact limits_of_eq (showRaw_limits _) limitsFit_default
    all_goals exact limits_of_eq (by (repeat' split) <;> simp) h

/-- Settles O8: each bound is kept by every part of a command and by the passing of time. -/
theorem everyStepKeepsTheQueuesAndLimitsBounded : Obligations.EveryStepKeepsTheQueuesAndLimitsBounded := by
  unfold Obligations.EveryStepKeepsTheQueuesAndLimitsBounded
  refine ⟨fun s t inv run => ?_, fun s t inv run => ?_, fun s t inv run => ?_⟩
  · obtain ⟨events, records⟩ := (queueInv_iff s).mp inv
    refine (queueInv_iff t).mpr ⟨?_, ?_⟩
    · exact step_keeps (P := EventsFit) (fun s q n h => h) (fun c s t h run => eventsFit_parts.exec h run)
        (fun s h => eventsFit_of_eq (tick_blocks s).2.1 h) events run
    · refine step_keeps (P := AllRecordsFit) (fun s q n h l => ⟨(h l).records, (h l).depth, (h l).threshold⟩) (fun c s t h run => recordsFit_parts.exec h run) (fun s h => ?_) records run
      obtain ⟨-, -, same, -⟩ := tick_blocks s
      refine recordsFit_keeps same (fun l => ?_) h
      rw [tick_link]
      unfold LinkInterface.tick
      split <;> exact ⟨rfl, rfl⟩
  · refine step_keeps (P := LimitsFit) (fun s q n h => h) (fun c s t h run => limits_parts.exec h run) (fun s h => ?_) inv run
    obtain ⟨-, -, -, -, -, -, -, -, -, same, -⟩ := tick_blocks s
    exact limits_of_eq same h
  · exact step_keeps (P := RunsCount) (fun s q n h => h) (fun c s t h run => runs_parts.exec h run) (fun s h => runs_tick h) inv run

/-- The lock is set, over given limits. -/
def LockedAt (m : SiteLimits) (s : State) : Prop := s.locked = true ∧ s.limits = m

theorem lockedAt_of_eq {m : SiteLimits} {s t : State} (locked : t.locked = s.locked) (limits : t.limits = s.limits) (h : LockedAt m s) :
    LockedAt m t := ⟨locked.trans h.1, limits.trans h.2⟩

theorem lockedAt_owners (m : SiteLimits) : KeptByOwners (LockedAt m) where
  configureLink l p s h _ := lockedAt_of_eq (by simp) (by simp) h
  readEvents l n s h _ := lockedAt_of_eq (by simp) (by simp) h
  readRecord l s h := lockedAt_of_eq (by simp) (by simp) h
  flushEvents l s h := lockedAt_of_eq (by simp) (by simp) h
  flushRecords l s h := lockedAt_of_eq (by simp) (by simp) h
  openPlan l k s h _ := lockedAt_of_eq (by simp) (by simp) h
  planData p c s h _ := lockedAt_of_eq (by simp) (by simp) h
  commitPlan c s h _ := lockedAt_of_eq (by simp) (by simp) h
  abortPlan s h := lockedAt_of_eq (by simp) (by simp) h
  selectPlan k s h := lockedAt_of_eq (by simp) (by simp) h
  requestMetering l a s h _ := lockedAt_of_eq (by simp) (by simp) h
  rateOrder l p s h _ := lockedAt_of_eq (by simp) (by simp) h
  cancelOrder l s h := lockedAt_of_eq (by simp) (by simp) h
  hold l s h _ := lockedAt_of_eq (by simp) (by simp) h
  resume l s h := lockedAt_of_eq (by simp) (by simp) h
  clearLane i s h := lockedAt_of_eq (by simp) (by simp) h
  intervalMark n s h := lockedAt_of_eq (by simp) (by simp) h
  writeLimits p s h unlocked _ := by rw [h.1] at unlocked; cases unlocked
  lockLimits s h unlocked := by rw [h.1] at unlocked; cases unlocked
  writeMap p s h _ := lockedAt_of_eq (by simp) (by simp) h
  enterManual l s h _ _ := lockedAt_of_eq (by simp) (by simp) h
  setAspect i a s h := lockedAt_of_eq (by simp) (by simp) h
  setBeacon on s h _ := lockedAt_of_eq (by simp) (by simp) h
  exitManual s h _ := lockedAt_of_eq (by simp) (by simp) h
  clearMeter s h := lockedAt_of_eq (by simp) (by simp) h
  softReset s h := lockedAt_of_eq (softReset_limits s).2 (softReset_limits s).1 h

theorem lockedAt_requests (m : SiteLimits) : KeptByRequests (LockedAt m) where
  owners := lockedAt_owners m
  lines s h := lockedAt_of_eq (by simp) (by simp) h
  reply l r s h := lockedAt_of_eq (by simp) (by simp) h
  done l s h := lockedAt_of_eq (by simp) (by simp) h
  frame l ka s h := lockedAt_of_eq (by simp) (by simp) h
  resolve s h := lockedAt_of_eq (by simp) (by simp) h

/-- No event but a hard reset touches the lock or the limits. -/
theorem eventEffect_lock {c : Instr} (power : c ≠ .powerOn) (line : c ≠ .resetLine) (s : State) :
    (eventEffect c s).locked = s.locked ∧ (eventEffect c s).limits = s.limits := by
  cases c <;> dsimp only [eventEffect]
  case powerOn => exact absurd rfl power
  case resetLine => exact absurd rfl line
  all_goals constructor <;> (repeat' split) <;> simp

/-- Settles O10: the owners that touch the lock or the limits answer LOCKED while it is set. -/
theorem theLockIsClearedByHardResetsAlone : Obligations.TheLockIsClearedByHardResetsAlone := by
  unfold Obligations.TheLockIsClearedByHardResetsAlone
  refine ⟨fun c s t run power line locked => ?_, fun tag p s steady locked => ?_, fun s c cause hc => ?_, fun tag s steady => ?_⟩
  · cases parts : requestParts c with
    | some r => exact (lockedAt_requests s.limits).exec parts ⟨locked, rfl⟩ run
    | none =>
      obtain ⟨kept, limits⟩ := eventEffect_lock power line s
      rw [exec_event parts, Host.Outcome.next.injEq] at run
      subst run
      exact ⟨by simp [kept, locked], by simp [limits]⟩
  · refine exec_refuses (c := .writeLimits .L tag p) rfl (by simp) steady ?_
    exact if_pos (by simpa using locked)
  · obtain ⟨slots, run⟩ : ∃ slots, exec c s = .next (hardReset cause slots s) := by
      obtain ⟨rfl, rfl⟩ | ⟨rfl, rfl⟩ := hc
      · exact ⟨_, exec_powerOn s⟩
      · exact ⟨_, exec_resetLine s⟩
    obtain ⟨-, -, -, -, locked, limits, -, -, events, -⟩ := hardReset_blocks cause slots s
    refine ⟨_, run, locked, limits, fun l => ?_⟩
    rw [events]
    cases l <;> rfl
  · obtain ⟨-, -, -, -, -, limits, locked, -⟩ := softDone_blocks (received .L false s)
    exact ⟨_, exec_softReset tag steady, by simp [locked], by simp [limits]⟩

end Sys2Proof.Bounds
end

section
/-! The frames of requests (R143, R144, R146): a transaction parses exactly if it is a frame with zeros behind it, and the
frame of a well-formed request decodes to that request. -/

namespace Sys2Proof.Frames
open Sys2Proof.Machine Sys2Proof.Steady

/-! ### The bytes of a frame -/

theorem crcBytes_length (l : List Byte) : (crcBytes l).length = 2 := rfl

/-- What follows the three leading bytes of a frame: the payload, its CRC and the fill. -/
theorem requestFrame_cons (kind tag : Byte) (p : List Byte) :
    requestFrame kind tag p = kind :: tag :: byte p.length :: (p ++ crcBytes (kind :: tag :: byte p.length :: p)) := rfl

theorem requestFrame_length (kind tag : Byte) (p : List Byte) : (requestFrame kind tag p).length = 5 + p.length := by
  rw [requestFrame_cons]
  simp [crcBytes_length]
  omega

/-- The checks of R144, for the bytes after the three leading ones. -/
theorem parseFrame_cons (kind tag len : Byte) (rest : List Byte) {k t : Byte} {p : List Byte} :
    parseFrame (kind :: tag :: len :: rest) = some (k, t, p) ↔
      (k = kind ∧ t = tag ∧ p = rest.take len.toNat) ∧ len.toNat + 2 ≤ rest.length ∧ len.toNat ≤ 250 ∧ rest.length + 3 ≤ 300 ∧
        rest.drop (len.toNat + 2) = List.replicate (rest.length - (len.toNat + 2)) 0 ∧
        (rest.drop len.toNat).take 2 = crcBytes (kind :: tag :: len :: rest.take len.toNat) := by
  have bound : 5 + len.toNat ≤ rest.length + 1 + 1 + 1 ↔ len.toNat + 2 ≤ rest.length := by omega
  simp only [parseFrame, maxTransaction, maxPayload, List.length_cons, bound]
  split
  · next h =>
    simp only [Bool.and_eq_true, decide_eq_true_eq, beq_iff_eq] at h
    obtain ⟨⟨⟨⟨long, fill⟩, total⟩, short⟩, crc⟩ := h
    simp only [Option.some.injEq, Prod.mk.injEq]
    constructor
    · rintro ⟨rfl, rfl, rfl⟩
      exact ⟨⟨rfl, rfl, rfl⟩, long, of_decide_eq_true short, of_decide_eq_true total, fill, crc⟩
    · rintro ⟨⟨rfl, rfl, rfl⟩, -⟩
      exact ⟨rfl, rfl, rfl⟩
  · next h =>
    simp only [reduceCtorEq, false_iff]
    rintro ⟨-, long, short, total, fill, crc⟩
    refine h ?_
    simp only [Bool.and_eq_true, decide_eq_true_eq, beq_iff_eq]
    exact ⟨⟨⟨⟨long, fill⟩, decide_eq_true total⟩, decide_eq_true short⟩, crc⟩

/-- The bytes after the three leading ones, cut into payload, CRC and fill. -/
theorem take_crc_fill (rest : List Byte) (n : Nat) : rest = rest.take n ++ (rest.drop n).take 2 ++ rest.drop (n + 2) := by
  rw [List.append_assoc, ← List.drop_drop, List.take_append_drop, List.take_append_drop]

/-- A transaction is taken as a frame exactly if it is one, with zeros behind it (R144). -/
theorem parseFrame_iff (bytes : List Byte) (kind tag : Byte) (p : List Byte) :
    parseFrame bytes = some (kind, tag, p) ↔
      p.length ≤ 250 ∧ bytes.length ≤ 300 ∧ ∃ fill, bytes = requestFrame kind tag p ++ List.replicate fill 0 := by
  constructor
  · intro h
    match bytes with
    | [] | [_] | [_, _] => cases h
    | k :: t :: len :: rest =>
      obtain ⟨⟨rfl, rfl, rfl⟩, long, short, total, fill, crc⟩ := (parseFrame_cons k t len rest).mp h
      have length : (rest.take len.toNat).length = len.toNat := by rw [List.length_take]; omega
      refine ⟨by omega, by simp only [List.length_cons]; omega, rest.length - (len.toNat + 2), ?_⟩
      rw [requestFrame_cons, length, byte_of_toNat, ← crc, ← fill]
      simp only [List.cons_append, ← take_crc_fill]
  · rintro ⟨short, total, fill, rfl⟩
    have len : (byte p.length).toNat = p.length := byte_toNat_of_lt (by omega)
    rw [List.length_append, requestFrame_length, List.length_replicate] at total
    rw [requestFrame_cons]
    simp only [List.cons_append]
    rw [parseFrame_cons, len]
    have two : ∀ l : List Byte, (p ++ crcBytes l).length = p.length + 2 := fun l => by rw [List.length_append, crcBytes_length]
    refine ⟨⟨rfl, rfl, by simp⟩, by simp [crcBytes_length], short, by simp [crcBytes_length]; omega, ?_, ?_⟩
    · rw [← two, List.drop_left, List.length_append, List.length_replicate, Nat.add_sub_cancel_left]
    · rw [List.append_assoc, List.drop_left, List.take_left]
      rw [List.take_left' (crcBytes_length _)]

/-- Settles O5: the parser accepts exactly the frames, and what it does not accept is a bad frame. -/
theorem aTransactionIsValidExactlyIfItIsAFrame : Obligations.ATransactionIsValidExactlyIfItIsAFrame := by
  unfold Obligations.ATransactionIsValidExactlyIfItIsAFrame
  refine ⟨parseFrame_iff, fun link bytes bad => ?_⟩
  rw [decodeTransaction, bad]

/-! ### The request summary -/

/-- A kind outside the request summary stands for no request (R146). -/
theorem requestOf_unknown {kind : Byte} (outside : summaryKinds.contains kind = false) (link : LinkId) (tag : Byte) (p : List Byte) :
    requestOf kind link tag p = .unknownKind link kind tag p := by
  have notin : ∀ n, kind.toNat = n → summaryKinds.contains (byte n) = false := fun n h => by
    rw [← h, byte_of_toNat]
    exact outside
  unfold requestOf
  split
  case h_31 => rfl
  all_goals next h => exact absurd (notin _ h) (by decide)

/-- A well-formed request is the one that its kind stands for. -/
theorem requestOf_parts {i : Instr} {link : LinkId} {kind tag : Byte} {p : List Byte} (wf : i.wf = true)
    (parts : requestParts i = some (link, kind, tag, p)) : requestOf kind link tag p = i := by
  cases i <;> simp only [requestParts, Option.some.injEq, Prod.mk.injEq, reduceCtorEq] at parts
  case unknownKind l k t q =>
    obtain ⟨rfl, rfl, rfl, rfl⟩ := parts
    simp only [Instr.wf, requestParts, Bool.and_eq_true, Bool.not_eq_true'] at wf
    exact requestOf_unknown wf.2 _ _ _
  all_goals
    obtain ⟨rfl, rfl, rfl, rfl⟩ := parts
    rfl

theorem payload_of_wf {i : Instr} {link : LinkId} {kind tag : Byte} {p : List Byte} (wf : i.wf = true)
    (parts : requestParts i = some (link, kind, tag, p)) : p.length ≤ 250 := by
  simp only [Instr.wf, parts, Bool.and_eq_true, decide_eq_true_eq] at wf
  exact wf.1

/-- Settles O4: the encoded bytes are a frame with its fill, which parses to its fields and so to the request. -/
theorem encodedRequestsDecodeToThemselves : Obligations.EncodedRequestsDecodeToThemselves := by
  unfold Obligations.EncodedRequestsDecodeToThemselves
  intro i fill link kind tag p wf parts fits
  have length : (requestFrame kind tag p ++ List.replicate fill 0).length = 5 + p.length + fill := by
    rw [List.length_append, requestFrame_length, List.length_replicate]
  refine ⟨requestFrame kind tag p ++ List.replicate fill 0, by rw [encodeTransaction, parts]; rfl, length, ?_⟩
  have parsed := (parseFrame_iff _ kind tag p).mpr ⟨payload_of_wf wf parts, length ▸ fits, fill, rfl⟩
  rw [decodeTransaction, parsed]
  exact requestOf_parts wf parts

end Sys2Proof.Frames
end

section
/-! The combine (R58 to R63): the value after each of its stages, the source tag, the bounds of the applied rate, and the
headway it gives. -/

namespace Sys2Proof.Combine
open Sys2Proof.Machine

/-! ### The value after each stage -/

/-- The value after the floors (R58). -/
def raised (r : RateComputer) (plan : List Byte) : Nat := max r.rFb (floorBound r plan)

/-- The value after the caps (R58). -/
def capped (r : RateComputer) (plan : List Byte) : Nat := min (raised r plan) (capBound r plan)

/-- The value after the queue floor (R59). -/
def queued (r : RateComputer) (plan : List Byte) : Nat := if r.floorActive then max (capped r plan) (planQFloor plan) else capped r plan

/-- The value after spill, under a device ceiling `d` (R59). -/
def spilled (r : RateComputer) (plan : List Byte) (d : Nat) : Nat := if r.spillActive then d else queued r plan

/-- The value after the ceiling (R60). -/
def lowered (r : RateComputer) (plan : List Byte) (d : Nat) : Nat := min (spilled r plan d) d

/-- The applied rate (R61). -/
def applied (r : RateComputer) (lim : SiteLimits) (plan : List Byte) (d : Nat) : Nat := max (lowered r plan d) (min lim.rAbsMin d)

theorem combineOut_rate (r : RateComputer) (lim : SiteLimits) (plan : List Byte) (n : Nat) :
    (combineOut r lim plan n).rate = applied r lim plan (deviceCeiling lim plan n) := by
  simp only [combineOut, combineStages, applied, lowered, spilled, queued, capped, raised]
  cases r.floorActive <;> cases r.spillActive <;> simp

theorem stage_tag_of_ne (c : Combined) (value : Nat) (tag : Tag) : (c.stage value tag).tag = if value ≠ c.value then tag else c.tag := by
  rw [stage_tag]
  by_cases h : value = c.value <;> simp [h]

/-- The tag is that of the last stage that changed the value (R63). -/
theorem combineOut_tag (r : RateComputer) (lim : SiteLimits) (plan : List Byte) (n : Nat) :
    (combineOut r lim plan n).tag =
      if applied r lim plan (deviceCeiling lim plan n) ≠ lowered r plan (deviceCeiling lim plan n) then .absMin
      else if lowered r plan (deviceCeiling lim plan n) ≠ spilled r plan (deviceCeiling lim plan n) then .ceiling
      else if spilled r plan (deviceCeiling lim plan n) ≠ queued r plan then .spill
      else if queued r plan ≠ capped r plan then .queueFloor
      else if capped r plan ≠ raised r plan then capTag r plan
      else if raised r plan ≠ r.rFb then .orderFloor
      else basisTag r.basis := by
  simp only [combineOut, combineStages, applied, lowered, spilled, queued, capped, raised]
  by_cases hf : r.floorActive = true <;> by_cases hs : r.spillActive = true <;>
    · simp only [stage_tag_of_ne, stage_value, hf, hs, if_true, if_false, Bool.false_eq_true, ne_eq, not_true_eq_false]
      rfl

/-! ### Bounds -/

theorem applied_le (r : RateComputer) (lim : SiteLimits) (plan : List Byte) (d : Nat) : applied r lim plan d ≤ d :=
  max_le (min_le_right _ _) (min_le_right _ _)

theorem le_applied (r : RateComputer) (lim : SiteLimits) (plan : List Byte) (d : Nat) : min lim.rAbsMin d ≤ applied r lim plan d :=
  le_max_right _ _

theorem applied_of_spill {r : RateComputer} (spill : r.spillActive = true) (lim : SiteLimits) (plan : List Byte) (d : Nat) :
    applied r lim plan d = d := by
  simp [applied, lowered, spilled, spill]

theorem le_applied_of_floor {r : RateComputer} {plan : List Byte} {d : Nat} (spill : r.spillActive = false)
    (floor : r.floorActive = true) (le : planQFloor plan ≤ d) (lim : SiteLimits) : planQFloor plan ≤ applied r lim plan d := by
  simp only [applied, lowered, spilled, queued, spill, floor, if_true]
  exact le_max_of_le_left (le_min (le_max_right _ _) le)

theorem applied_le_cap {r : RateComputer} {lim : SiteLimits} {plan : List Byte} (spill : r.spillActive = false)
    (floor : r.floorActive = false) (le : lim.rAbsMin ≤ capBound r plan) (d : Nat) : applied r lim plan d ≤ capBound r plan := by
  simp only [applied, lowered, spilled, queued, capped, spill, floor]
  exact max_le ((min_le_left _ _).trans (min_le_right _ _)) ((min_le_left _ _).trans le)

/-- Where no bound bites every stage leaves the stored feedback value. -/
theorem stages_of_free {r : RateComputer} {lim : SiteLimits} {plan : List Byte} {d : Nat} (spill : r.spillActive = false)
    (floor : r.floorActive = false) (above : floorBound r plan ≤ r.rFb) (below : r.rFb ≤ capBound r plan) (ceiling : r.rFb ≤ d)
    (absMin : lim.rAbsMin ≤ r.rFb) :
    raised r plan = r.rFb ∧ capped r plan = r.rFb ∧ queued r plan = r.rFb ∧ spilled r plan d = r.rFb ∧ lowered r plan d = r.rFb ∧
      applied r lim plan d = r.rFb := by
  have raise : raised r plan = r.rFb := max_eq_left above
  have cap : capped r plan = r.rFb := by rw [capped, raise, min_eq_left below]
  have queue : queued r plan = r.rFb := by simp [queued, floor, cap]
  have spill : spilled r plan d = r.rFb := by simp [spilled, spill, queue]
  have lower : lowered r plan d = r.rFb := by rw [lowered, spill, min_eq_left ceiling]
  exact ⟨raise, cap, queue, spill, lower, by rw [applied, lower, max_eq_left ((min_le_left _ _).trans absMin)]⟩

/-! ### The bounds of floors and caps -/

/-- A greatest member of a list is the greatest. -/
theorem greatest_eq {l : List Nat} {f g : Nat} (f_mem : f ∈ l) (f_ge : ∀ x ∈ l, x ≤ f) (g_mem : g ∈ l) (g_ge : ∀ x ∈ l, x ≤ g) :
    f = g := le_antisymm (g_ge f f_mem) (f_ge g g_mem)

theorem least_eq {l : List Nat} {f g : Nat} (f_mem : f ∈ l) (f_le : ∀ x ∈ l, f ≤ x) (g_mem : g ∈ l) (g_le : ∀ x ∈ l, g ≤ x) :
    f = g := le_antisymm (f_le g g_mem) (g_le f f_mem)

/-- F is the greatest of plan r_min and the floors held (R58). -/
theorem floorBound_greatest (r : RateComputer) (plan : List Byte) :
    let l := planRMin plan :: [r.orders.L, r.orders.C].filterMap fun o => o.bind RateOrder.floor
    floorBound r plan ∈ l ∧ ∀ x ∈ l, x ≤ floorBound r plan := by
  simp only [floorBound, orderField]
  cases hL : r.orders.L.bind RateOrder.floor <;> cases hC : r.orders.C.bind RateOrder.floor <;>
    simp [hL, hC] <;> omega

/-- C is the least of plan r_max and the caps held (R58). -/
theorem capBound_least (r : RateComputer) (plan : List Byte) :
    let l := planRMax plan :: [r.orders.L, r.orders.C].filterMap fun o => o.bind RateOrder.cap
    capBound r plan ∈ l ∧ ∀ x ∈ l, capBound r plan ≤ x := by
  simp only [capBound, orderField]
  cases hL : r.orders.L.bind RateOrder.cap <;> cases hC : r.orders.C.bind RateOrder.cap <;>
    simp [hL, hC] <;> omega

theorem capTag_eq (r : RateComputer) (plan : List Byte) :
    capTag r plan = if capBound r plan = planRMax plan then .capPlan
      else if some (capBound r plan) = r.orders.L.bind RateOrder.cap then .capL else .capC := by
  simp only [capTag, orderField, eq_comm]

theorem basisTag_eq (b : Basis) : basisTag b = if b = .feedback then .feedback else .fixed := by cases b <;> rfl

/-- Settles O12: the clauses are bounds of the named stages, and the least and greatest bounds are unique. -/
theorem combineStagesGivePrecedenceAndBounds : Obligations.CombineStagesGivePrecedenceAndBounds := by
  unfold Obligations.CombineStagesGivePrecedenceAndBounds
  refine ⟨fun r lim plan n => ⟨fun spill => ?_, fun spill floor le => ?_, fun spill floor le => ?_,
    fun spill floor above below ceiling absMin => ?_⟩, fun r lim plan n => ?_, fun r lim plan n f c => ?_⟩
  · rw [combineOut_rate, applied_of_spill spill]
  · rw [combineOut_rate]; exact le_applied_of_floor spill floor le lim
  · rw [combineOut_rate]; exact applied_le_cap spill floor le _
  · obtain ⟨raise, cap, queue, spill, lower, apply⟩ := stages_of_free spill floor above below ceiling absMin
    rw [combineOut_rate, combineOut_tag, apply, lower, spill, queue, cap, raise]
    simp
  · rw [combineOut_rate]
    exact ⟨le_applied _ _ _ _, applied_le _ _ _ _⟩
  · intro floors caps hf hc
    obtain ⟨f_mem, f_ge⟩ := floorBound_greatest r plan
    obtain ⟨c_mem, c_le⟩ := capBound_least r plan
    obtain rfl : f = floorBound r plan := greatest_eq hf.1 hf.2 f_mem f_ge
    obtain rfl : c = capBound r plan := least_eq hc.1 hc.2 c_mem c_le
    rw [← capTag_eq, ← basisTag_eq]
    exact ⟨combineOut_rate r lim plan n, combineOut_tag r lim plan n⟩

/-! ### The headway -/

theorem le_ceilDiv_mul (a : Nat) {b : Nat} (pos : 0 < b) : a ≤ ceilDiv a b * b := by
  have := Nat.lt_div_mul_add pos (a := a + (b - 1))
  unfold ceilDiv
  omega

theorem ceilDiv_pred_mul_lt {a b : Nat} (posA : 0 < a) (pos : 0 < b) : (ceilDiv a b - 1) * b < a := by
  have le := Nat.div_mul_le_self (a + (b - 1)) b
  unfold ceilDiv
  rw [Nat.sub_mul]
  omega

theorem ceilDiv_le {a b k : Nat} (pos : 0 < b) (h : a ≤ k * b) : ceilDiv a b ≤ k :=
  Nat.le_of_lt_succ ((Nat.div_lt_iff_lt_mul pos).mpr (by rw [Nat.succ_mul]; omega))

theorem le_ceilDiv {a b k : Nat} (pos : 0 < b) (h : k * b ≤ a) : k ≤ ceilDiv a b :=
  (Nat.le_div_iff_mul_le pos).mpr (by omega)

/-- D under limits and lane timing in their ranges (R60). -/
theorem deviceCeiling_bounds {lim : SiteLimits} {plan : List Byte} {n : Nat} (limits : limitsInRange lim) (one : 1 ≤ n)
    (grel : 10 ≤ planGRel plan) (grel' : planGRel plan ≤ 60) (amber : planAmber plan ≤ 40) (red : planRedMin plan ≤ 200) :
    120 ≤ deviceCeiling lim plan n ∧ deviceCeiling lim plan n ≤ 3000 ∧ deviceCeiling lim plan n * lim.staggerMin ≤ 36000 := by
  obtain ⟨-, -, -, ⟨stagger, stagger'⟩, -⟩ := limits
  have byStagger : 120 ≤ 36000 / lim.staggerMin := (Nat.le_div_iff_mul_le (by omega)).mpr (by omega)
  have byCycle : 120 ≤ n * 36000 / (planGRel plan + planAmber plan + planRedMin plan) :=
    (Nat.le_div_iff_mul_le (by omega)).mpr (by omega)
  have le : deviceCeiling lim plan n ≤ 36000 / lim.staggerMin := (min_le_right _ _).trans (min_le_left _ _)
  exact ⟨le_min (by omega) (le_min byStagger byCycle), min_le_left _ _, (Nat.le_div_iff_mul_le (by omega)).mp le⟩

/-- Settles O11: H is a quotient rounded up, and the rate under it lies between 120 and D. -/
theorem headwayIsRoundedUpAndKeepsTheStagger : Obligations.HeadwayIsRoundedUpAndKeepsTheStagger := by
  unfold Obligations.HeadwayIsRoundedUpAndKeepsTheStagger
  intro r lim plan n limits one _ grel grel' _ amber' _ red'
  obtain ⟨low, high, stagger⟩ := deviceCeiling_bounds limits one grel grel' amber' red'
  obtain ⟨-, -, -, -, ⟨absMin, -⟩, -⟩ := limits
  have rate := combineOut_rate r lim plan n
  have le : (combineOut r lim plan n).rate ≤ deviceCeiling lim plan n := rate ▸ applied_le _ _ _ _
  have ge : 120 ≤ (combineOut r lim plan n).rate := by
    rw [rate]
    exact (le_min absMin low).trans (le_applied _ _ _ _)
  have headway : (combineOut r lim plan n).headway = ceilDiv 360000 (combineOut r lim plan n).rate := rfl
  generalize (combineOut r lim plan n).rate = q at *
  rw [headway]
  have slow : 10 * lim.staggerMin * q ≤ 360000 := by
    have : q * lim.staggerMin ≤ deviceCeiling lim plan n * lim.staggerMin := Nat.mul_le_mul_right _ le
    calc 10 * lim.staggerMin * q = 10 * (q * lim.staggerMin) := by ring
      _ ≤ 360000 := by omega
  exact ⟨⟨low, high⟩, le_ceilDiv_mul _ (by omega), ceilDiv_pred_mul_lt (by decide) (by omega),
    ⟨le_ceilDiv (by omega) (by omega), ceilDiv_le (by omega) (by omega)⟩, le_ceilDiv (by omega) slow⟩

end Sys2Proof.Combine
end

section
/-! The links (R144 to R149, R152): chip selects, bad frames and cut transactions, requests refused before they reach a
block, frames by link state, and what the attention lines show. -/

namespace Sys2Proof.Links
open Sys2Proof.Machine Sys2Proof.Steps Sys2Proof.Steady Sys2Proof.CancelOrder Sys2Proof.Frames

/-! ### Chip selects, bad frames and cut transactions -/

theorem dataOut_active {x : LinkInterface} {r : Reply} (h : x.transaction = .active r) (r' : Reply) (n : Nat) :
    ({ x with lastReply := r' } : LinkInterface).dataOut n = r.bytes.getD n 0 := by
  simp [LinkInterface.dataOut, h]

/-- A cut transaction ends, whatever its frame or its bytes. -/
theorem exec_cut {c : Instr} {l : LinkId} {s : State}
    (carried : (∃ kind tag p, requestParts c = some (l, kind, tag, p)) ∨ ∃ bytes, c = .badFrame l bytes)
    (cut : (s.link l).transaction = .cutShort) : exec c s = .next (endTransaction l s).judgeLines := by
  obtain ⟨kind, tag, p, parts⟩ | ⟨bytes, rfl⟩ := carried
  · by_cases notNop : ∀ l' tag' p', c ≠ .nop l' tag' p'
    · rw [exec_request parts notNop, serve_cut _ cut]
    · push Not at notNop
      obtain ⟨l', tag', p', rfl⟩ := notNop
      cases parts
      rw [exec_nop, if_pos cut]
  · rw [exec_event rfl, eventEffect, if_pos cut]

/-- Settles O16. -/
theorem chipSelectAndBadFramesReachNoBlock : Obligations.ChipSelectAndBadFramesReachNoBlock := by
  unfold Obligations.ChipSelectAndBadFramesReachNoBlock
  refine ⟨fun l s => ⟨exec_event rfl s, fun x r r' n active => dataOut_active active r' n⟩, fun l bytes s uncut => ?_,
    fun c l s carried cut => exec_cut carried cut⟩
  rw [exec_event rfl, eventEffect, if_neg uncut]
  rfl

/-! ### Requests refused before they reach a block -/

/-- The kinds marked for one link, and those with a fixed length, stand in the request summary (8.2). -/
theorem known_of_onlyOn {kind : Byte} {m : LinkId} (h : onlyOn kind = some m) : summaryKinds.contains kind = true := by
  unfold onlyOn at h
  split at h
  · next e => rw [e]; decide
  · split at h
    · next range =>
      rw [← byte_of_toNat kind]
      generalize kind.toNat = n at range
      obtain ⟨low, high⟩ := range
      interval_cases n <;> decide
    · cases h

theorem known_of_fixedLength {kind : Byte} {n : Nat} (h : fixedLength kind = some n) : summaryKinds.contains kind = true := by
  rw [← byte_of_toNat kind]
  unfold fixedLength at h
  split at h
  case h_26 => cases h
  all_goals next e => rw [e]; decide

theorem unknownKind_not_wf {l : LinkId} {kind tag : Byte} {p : List Byte} (known : summaryKinds.contains kind = true) :
    (Instr.unknownKind l kind tag p).wf ≠ true := by
  simp only [Instr.wf, requestParts, known, Bool.not_true, Bool.and_false, ne_eq, Bool.false_eq_true, not_false_eq_true]

theorem requestAnswer_notPermitted {c : Instr} {l m : LinkId} {kind tag : Byte} {p : List Byte} (wf : c.wf = true)
    (parts : requestParts c = some (l, kind, tag, p)) (only : onlyOn kind = some m) (other : m ≠ l) (s : State) :
    requestAnswer c s = refuse s .notPermitted := by
  cases c <;> simp only [requestParts, Option.some.injEq, Prod.mk.injEq, reduceCtorEq] at parts
  all_goals obtain ⟨rfl, rfl, rfl, rfl⟩ := parts
  case unknownKind => exact absurd wf (unknownKind_not_wf (known_of_onlyOn only))
  case intervalMark l _ _ =>
    obtain rfl : m = .C := (Option.some.inj only).symm
    cases l
    · rfl
    · exact absurd rfl other
  case writeLimits l _ _ | lockLimits l _ _ | writeDetectorMap l _ _ | enterManual l _ _ | setAspect l _ _ | setBeacon l _ _ |
      exitManual l _ _ | clearFaultMeter l _ _ | softReset l _ _ =>
    obtain rfl : m = .L := (Option.some.inj only).symm
    cases l
    · exact absurd rfl other
    · rfl
  all_goals cases only

theorem requestAnswer_length {c : Instr} {l : LinkId} {kind tag : Byte} {p : List Byte} {n : Nat} (wf : c.wf = true)
    (parts : requestParts c = some (l, kind, tag, p)) (fixed : fixedLength kind = some n) (wrong : p.length ≠ n)
    (only : ∀ m, onlyOn kind = some m → m = l) (s : State) : requestAnswer c s = refuseRange s 255 := by
  have some_payload : n = 0 → p ≠ [] := by
    rintro rfl rfl
    exact wrong rfl
  cases c <;> simp only [requestParts, Option.some.injEq, Prod.mk.injEq, reduceCtorEq] at parts
  all_goals obtain ⟨rfl, rfl, rfl, rfl⟩ := parts
  case unknownKind => exact absurd wf (unknownKind_not_wf (known_of_fixedLength fixed))
  case keepalive | readStatus | readRecord | readCapabilities | flushEvents | flushRecords | commitPlan | abortPlan | cancelOrder |
      hold | resume =>
    obtain rfl : n = 0 := (Option.some.inj fixed).symm
    simp only [requestAnswer, Permitted.allows, if_true]
    exact withoutPayload_of_ne_nil (some_payload rfl) _ s
  case readEvents | openPlan | selectPlan | requestMetering | clearFaultLane | configureLink | rateOrder =>
    obtain rfl := Option.some.inj fixed
    simp only [requestAnswer, Permitted.allows, if_true]
    exact withLength_of_ne wrong _
  case lockLimits | enterManual | exitManual | clearFaultMeter | softReset =>
    obtain rfl : n = 0 := (Option.some.inj fixed).symm
    obtain rfl := only .L rfl
    simp only [requestAnswer, Permitted.allows, if_true]
    exact withoutPayload_of_ne_nil (some_payload rfl) _ s
  case setBeacon | setAspect =>
    obtain rfl := Option.some.inj fixed
    obtain rfl := only .L rfl
    simp only [requestAnswer, Permitted.allows, if_true]
    exact withLength_of_ne wrong _
  all_goals cases fixed

theorem not_keepalive_of_onlyOn {kind : Byte} {m : LinkId} (h : onlyOn kind = some m) : (kind == 0x02) = false := by
  by_contra e
  have e : kind = 0x02 := by simpa using e
  rw [e] at h
  cases h

theorem not_nop_of_onlyOn {c : Instr} {l m : LinkId} {kind tag : Byte} {p : List Byte}
    (parts : requestParts c = some (l, kind, tag, p)) (only : onlyOn kind = some m) (l' : LinkId) (tag' : Byte) (p' : List Byte) :
    c ≠ .nop l' tag' p' := by
  rintro rfl
  cases parts
  cases only

theorem not_nop_of_fixedLength {c : Instr} {l : LinkId} {kind tag : Byte} {p : List Byte} {n : Nat}
    (parts : requestParts c = some (l, kind, tag, p)) (fixed : fixedLength kind = some n) (l' : LinkId) (tag' : Byte) (p' : List Byte) :
    c ≠ .nop l' tag' p' := by
  rintro rfl
  cases parts
  cases fixed

/-- Settles O17: the owner refuses before it looks at the state. -/
theorem refusedRequestsReachNoBlock : Obligations.RefusedRequestsReachNoBlock := by
  unfold Obligations.RefusedRequestsReachNoBlock
  refine ⟨⟨fun c l m kind tag p s wf parts only other steady => ?_, fun l kind tag p s wf steady => ?_⟩,
    fun c l kind tag p n s wf parts fixed wrong only steady => ?_⟩
  · have frame := not_keepalive_of_onlyOn only
    have answer := requestAnswer_notPermitted wf parts only other (received l (kind == 0x02) s)
    have run := exec_refuses parts (not_nop_of_onlyOn parts only) (frame ▸ steady) answer
    rwa [frame] at run
  · have frame : (kind == 0x02) = false := by
      by_contra e
      have e : kind = 0x02 := by simpa using e
      exact unknownKind_not_wf (by rw [e]; decide) wf
    have run := exec_refuses (c := .unknownKind l kind tag p) rfl (by simp) (frame ▸ steady) rfl
    rwa [frame] at run
  · exact exec_refusesRange parts (not_nop_of_fixedLength parts fixed) steady (requestAnswer_length wf parts fixed wrong only _)

/-! ### Frames by link state -/

/-- A link is PRESENT with nothing counted, and the other link's state is as in `s`. -/
def MadePresent (l : LinkId) (s t : State) : Prop :=
  (t.link l).state = .present ∧ (t.link l).violations = 0 ∧ (t.link l).window = 0 ∧ ∀ m, m ≠ l → (t.link m).state = (s.link m).state

theorem madePresent_of_links {l : LinkId} {s t u : State} (links : u.links = t.links) (h : MadePresent l s t) : MadePresent l s u := by
  have link : ∀ m, u.link m = t.link m := fun m => by rw [State.link, State.link, links]
  unfold MadePresent
  simp only [link]
  exact h

theorem madePresent_setLink {l m : LinkId} {s t : State} {x : LinkInterface} (h : MadePresent l s t) (state : x.state = (t.link m).state)
    (violations : x.violations = (t.link m).violations ∨ x.violations = 0) (window : x.window = (t.link m).window ∨ x.window = 0) :
    MadePresent l s (t.setLink m x) := by
  obtain ⟨present, count, zero, others⟩ := h
  refine ⟨?_, ?_, ?_, fun k hk => ?_⟩ <;> rw [link_setLink] <;> split
  · next e => rw [state, ← e, present]
  · exact present
  · next e => subst e; exact violations.elim (·.trans count) id
  · exact count
  · next e => subst e; exact window.elim (·.trans zero) id
  · exact zero
  · next e => rw [state, ← e, others k hk]
  · exact others k hk

theorem madePresent_madePresent (l : LinkId) (s : State) : MadePresent l s (madePresent l s) := by
  unfold madePresent
  refine madePresent_of_links (t := s.setLink l { s.link l with transaction := .idle, state := .present, violations := 0, window := 0 })
    (by simp) ?_
  refine ⟨?_, ?_, ?_, fun m hm => ?_⟩ <;> simp [*]

theorem madePresent_softReset {l : LinkId} {s t : State} (h : MadePresent l s t) : MadePresent l s (softReset t).state := by
  rw [Resets.softReset_eq]
  obtain ⟨-, -, -, -, -, -, -, -, -, links, -⟩ := Resets.softDone_blocks t
  refine madePresent_of_links (t := (t.setLink .L (t.link .L).softReset).setLink .C (t.link .C).softReset) links ?_
  exact madePresent_setLink (madePresent_setLink h rfl (.inr rfl) (.inr rfl)) rfl (.inr rfl) (.inr rfl)

theorem madePresent_owners (l : LinkId) (s : State) : KeptByOwners (MadePresent l s) where
  configureLink m p t h _ := by
    refine madePresent_of_links (t := t.setLink m (configured p (t.link m))) rfl ?_
    exact madePresent_setLink h rfl (.inr rfl) (.inr rfl)
  readEvents m n t h _ := madePresent_of_links (by simp) h
  readRecord m t h := madePresent_of_links (by simp) h
  flushEvents m t h := madePresent_of_links (by simp) h
  flushRecords m t h := madePresent_of_links (by simp) h
  openPlan m k t h _ := madePresent_of_links (by simp) h
  planData p c t h _ := madePresent_of_links (by simp) h
  commitPlan c t h _ := madePresent_of_links (by simp) h
  abortPlan t h := madePresent_of_links (by simp) h
  selectPlan k t h := madePresent_of_links (by simp) h
  requestMetering m a t h _ := madePresent_of_links (by simp) h
  rateOrder m p t h _ := madePresent_of_links (by simp) h
  cancelOrder m t h := madePresent_of_links (by simp) h
  hold m t h _ := madePresent_of_links (by simp) h
  resume m t h := madePresent_of_links (by simp) h
  clearLane i t h := madePresent_of_links (by simp) h
  intervalMark n t h := madePresent_of_links (by simp) h
  writeLimits p t h _ _ := madePresent_of_links (by simp) h
  lockLimits t h _ := madePresent_of_links (by simp) h
  writeMap p t h _ := madePresent_of_links (by simp) h
  enterManual m t h _ _ := madePresent_of_links (by simp) h
  setAspect i a t h := madePresent_of_links (by simp) h
  setBeacon on t h _ := madePresent_of_links (by simp) h
  exitManual t h _ := madePresent_of_links (by simp) h
  clearMeter t h := madePresent_of_links (by simp) h
  softReset t h := madePresent_softReset h

theorem madePresent_judgeLines {l : LinkId} {s t : State} (h : MadePresent l s t) : MadePresent l s t.judgeLines := by
  obtain ⟨present, count, zero, others⟩ := h
  have line : ∀ m, t.judgeLines.link m = { t.link m with attention := attentionWanted t m } := fun m => by cases m <;> rfl
  refine ⟨?_, ?_, ?_, fun m hm => ?_⟩ <;> rw [line]
  · exact present
  · exact count
  · exact zero
  · exact others m hm

section Heard
variable {c : Instr} {l : LinkId} {kind tag : Byte} {p : List Byte} {s : State}
  (parts : requestParts c = some (l, kind, tag, p)) (uncut : (s.link l).transaction ≠ .cutShort)
include parts uncut

theorem exec_becomes (notNop : ∀ l' tag' p', c ≠ .nop l' tag' p')
    (becomes : (s.link l).state = .silent ∨ (s.link l).state = .absent ∧ supervises (s.link l) (kind == 0x02) = true) :
    exec c s = .next (answered l kind tag (requestAnswer c (madePresent l s)).status (requestAnswer c (madePresent l s)).payload
      (resolve (requestAnswer c (madePresent l s)).state)) := by
  rw [exec_request parts notNop, serve_becomes tag .either (requestAnswer c) uncut becomes]
  rfl

theorem exec_early (notNop : ∀ l' tag' p', c ≠ .nop l' tag' p')
    (early : (s.link l).state = .present ∧ supervised (s.link l) (kind == 0x02) = true ∧ (s.link l).window < (s.link l).tLo * 10) :
    exec c s = .next (answered l kind tag (requestAnswer c (violate l 1 (endTransaction l s))).status
      (requestAnswer c (violate l 1 (endTransaction l s))).payload (requestAnswer c (violate l 1 (endTransaction l s))).state) := by
  rw [exec_request parts notNop, serve_early tag .either (requestAnswer c) uncut early]
  rfl

end Heard

theorem exec_nop_becomes {l : LinkId} {s : State} (tag : Byte) (p : List Byte) (uncut : (s.link l).transaction ≠ .cutShort)
    (becomes : (s.link l).state = .silent ∨ (s.link l).state = .absent ∧ supervises (s.link l) false = true) :
    exec (.nop l tag p) s = .next (resolve (madePresent l s)).judgeLines := by
  obtain ⟨taken, makes⟩ := takeFrame_becomes becomes
  rw [exec_nop, if_neg uncut]
  simp only [judgeRequest, makes, taken, if_true]
  rfl

theorem exec_nop_steady {l : LinkId} {s : State} (tag : Byte) (p : List Byte) (steady : SteadyFrame l false s) :
    exec (.nop l tag p) s = .next (received l false s).judgeLines := by
  rw [exec_nop, if_neg steady.1]
  simp only [judgeRequest, takeFrame_steady steady, steady.makesPresent]
  rfl

theorem exec_nop_early {l : LinkId} {s : State} (tag : Byte) (p : List Byte) (uncut : (s.link l).transaction ≠ .cutShort)
    (early : (s.link l).state = .present ∧ supervised (s.link l) false = true ∧ (s.link l).window < (s.link l).tLo * 10) :
    exec (.nop l tag p) s = .next (violate l 1 (endTransaction l s)).judgeLines := by
  obtain ⟨taken, makes⟩ := takeFrame_early early
  rw [exec_nop, if_neg uncut]
  simp only [judgeRequest, makes, taken]
  rfl

theorem exec_madePresent {c : Instr} {l : LinkId} {kind tag : Byte} {p : List Byte} {s : State}
    (parts : requestParts c = some (l, kind, tag, p)) (uncut : (s.link l).transaction ≠ .cutShort)
    (becomes : (s.link l).state = .silent ∨ (s.link l).state = .absent ∧ supervises (s.link l) (kind == 0x02) = true) :
    ∃ t, exec c s = .next t ∧ MadePresent l s t := by
  by_cases notNop : ∀ l' tag' p', c ≠ .nop l' tag' p'
  · refine ⟨_, exec_becomes parts uncut notNop becomes, madePresent_judgeLines (madePresent_setLink (madePresent_of_links ?_
      ((madePresent_owners l s).requestAnswer c (madePresent_madePresent l s))) rfl (.inl rfl) (.inl rfl))⟩
    simp
  · push Not at notNop
    obtain ⟨l', tag', p', rfl⟩ := notNop
    cases parts
    exact ⟨_, exec_nop_becomes _ _ uncut becomes,
      madePresent_judgeLines (madePresent_of_links (t := madePresent l s) (by simp) (madePresent_madePresent l s))⟩

/-- Settles O18: the request of a frame is served by its owner in the state that the frame has left. -/
theorem framesActOnLinkStateAndSupervision : Obligations.FramesActOnLinkStateAndSupervision := by
  unfold Obligations.FramesActOnLinkStateAndSupervision
  refine ⟨fun l tag p s => ⟨exec_nop_steady tag p, fun steady => ?_⟩, ⟨fun c l kind tag p s _ parts uncut becomes => ?_,
    fun l tag s left uncut state => ?_⟩, fun c l kind tag p s parts uncut => ⟨fun notNop => ?_, fun nop => ?_⟩⟩
  · exact exec_accepts (c := .keepalive l tag []) rfl (by simp) steady rfl
  · obtain ⟨t, run, present, count, zero, others⟩ := exec_madePresent parts uncut becomes
    exact ⟨t, run, present, count, zero, others⟩
  · have becomes : (s.link l).state = .silent ∨ (s.link l).state = .absent ∧ supervises (s.link l) true = true :=
      state.imp And.left fun ⟨absent, _, sup⟩ => ⟨absent, sup⟩
    have code : left = if (s.link l).state = .silent then 1 else 2 := by
      obtain ⟨silent, rfl⟩ | ⟨absent, rfl, -⟩ := state
      · rw [if_pos silent]
      · simp [absent]
    rw [exec_becomes (c := .keepalive l tag []) rfl uncut (by simp) becomes, code]
    rfl
  · have notNop' : ∀ l' tag' p', c ≠ .nop l' tag' p' := by
      rintro l' tag' p' rfl
      cases parts
      exact notNop _ _ rfl
    exact ⟨fun steady => exec_steady parts notNop' steady rfl, exec_becomes parts uncut notNop', exec_early parts uncut notNop'⟩
  · obtain ⟨tag', p', rfl⟩ := nop
    cases parts
    exact ⟨exec_nop_becomes _ _ uncut, exec_nop_early _ _ uncut⟩

/-! ### Events and attention -/

theorem attention_iff (s : State) (l : LinkId) :
    attentionWanted s l = true ↔ (s.link l).threshold ≤ (s.events.get l).entries.length ∨
      ((s.link l).attnOnRecord = true ∧ s.records.get l ≠ []) := by
  simp [attentionWanted]

/-- Settles O21: a post is an offer to each queue, and every command ends with the judging of both lines. -/
theorem eventsAreQueuedAndAttentionFollows : Obligations.EventsAreQueuedAndAttentionFollows := by
  unfold Obligations.EventsAreQueuedAndAttentionFollows
  refine ⟨fun s kind subject detail l => ⟨fun room clear => ?_, fun full => ?_, rfl⟩, fun c s => ?_⟩
  · cases l <;> exact if_pos ⟨room, clear⟩
  · cases l <;> exact if_neg fun h => by rw [eventDepth] at h; exact absurd full (Nat.ne_of_lt h.1)
  · obtain ⟨t, run⟩ := exec_total c s
    refine ⟨_, run, fun l => ?_⟩
    have line : t.judgeLines.link l = { t.link l with attention := attentionWanted t l } := by cases l <;> rfl
    rw [line]
    exact attention_iff t l

end Sys2Proof.Links
end

section
/-! READ STATUS (R159): the snapshot written out byte by byte. -/

namespace Sys2Proof.Snapshot
open Sys2Proof.Machine Sys2Proof.Steps Sys2Proof.Steady

/-- The claim in its four bytes (9.3). -/
def claimBytes : Option Claim → List Byte
  | some c => [byte (linkNumber c.holder), byte (c.target.val + 1)] ++ be16 c.timer
  | none => [0, 0, 0, 0]

/-- The hold in its five bytes (9.3). -/
def holdBytes : Option HoldRecord → List Byte
  | some h => byte (linkNumber h.owner) :: be32 h.timer
  | none => [0, 0, 0, 0, 0]

theorem statusStanding_eq (l : LinkId) (s : State) :
    statusStanding l s = allLanes.map (fun i => byte (s.lane i).state.code) ++ [byte s.sched.ring.length] ++
      ringBytes s.sched.ring ++ [byte (s.link .L).state.code, byte (s.link .C).state.code] ++ claimBytes s.plans.claim ++
      [byte (s.events.get l).entries.length, byte (s.records.get l).length] ++ be16 s.counter.number ++
      be16 s.counter.elapsed ++ holdBytes s.meter.hold ++ allLanes.map (fun i => byte (aspectCode (s.aspect i))) := by
  unfold statusStanding
  cases s.plans.claim <;> cases s.meter.hold <;> rfl

theorem rateBytes_five (o : Option RateOut) : ∃ a b c d e, rateBytes o = [a, b, c, d, e] := by
  cases o <;> exact ⟨_, _, _, _, _, rfl⟩

theorem claimBytes_four (o : Option Claim) : ∃ a b c d, claimBytes o = [a, b, c, d] := by
  cases o <;> exact ⟨_, _, _, _, rfl⟩

theorem holdBytes_five (o : Option HoldRecord) : ∃ a b c d e, holdBytes o = [a, b, c, d, e] := by
  cases o <;> exact ⟨_, _, _, _, _, rfl⟩

theorem ringBytes_eq (ring : List (Fin 3)) :
    ringBytes ring = [0, 1, 2].map fun k => byte ((ring[k]?.map fun i => i.val + 1).getD 0) := by
  unfold ringBytes
  refine List.map_congr_left fun k _ => ?_
  cases ring[k]? <;> rfl

/-- The snapshot, cut where its optional parts begin and end. -/
theorem statusBytes_eq (l : LinkId) (s : State) :
    statusBytes l s =
      [byte s.mode.code, byte s.meter.phase.code, byte s.meter.resolved.code, byte s.meter.requests.L.code,
        byte s.meter.requests.C.code, byte (slotCode s.plans.active), byte (slotCode s.plans.pendingSlot),
        byte (flagCode s.locked)] ++ rateBytes s.rate.inForce ++
      (byte (bitsToNat [s.rate.floorActive, s.rate.spillActive]) ::
        (allLanes.map (fun i => byte (s.lane i).state.code) ++ [byte s.sched.ring.length] ++ ringBytes s.sched.ring ++
          [byte (s.link .L).state.code, byte (s.link .C).state.code])) ++ claimBytes s.plans.claim ++
      ([byte (s.events.get l).entries.length, byte (s.records.get l).length] ++ be16 s.counter.number ++
        be16 s.counter.elapsed) ++ holdBytes s.meter.hold ++
      (allLanes.map (fun i => byte (aspectCode (s.aspect i))) ++ statusFaults l s) := by
  rw [statusBytes, statusStanding_eq, statusMeter]
  simp only [List.append_assoc, List.cons_append, List.nil_append]

/-- A received frame changes nothing that the snapshot shows. -/
theorem statusBytes_received (l m : LinkId) (ka : Bool) (s : State) : statusBytes m (received l ka s) = statusBytes m s := by
  have faults : statusFaults m (received l ka s) = statusFaults m s := rfl
  rw [statusBytes_eq, statusBytes_eq, faults, received_linkState, received_linkState]
  rfl

/-- Settles O22: with its optional parts as lists of fixed length, the snapshot is a list of 68 bytes. -/
theorem readStatusReturnsTheSnapshot : Obligations.ReadStatusReturnsTheSnapshot := by
  unfold Obligations.ReadStatusReturnsTheSnapshot
  intro l tag s steady r b
  refine ⟨exec_accepts (c := .readStatus l tag []) rfl (by simp) steady rfl, ?_⟩
  have rate : ∀ o, s.rate.inForce = some o → rateBytes s.rate.inForce = be16 o.rate ++ [byte o.tag.code] ++ be16 o.headway :=
    fun o h => by rw [h]; rfl
  have norate : s.rate.inForce = none → rateBytes s.rate.inForce = [0, 0, 0, 0, 0] := fun h => by rw [h]; rfl
  have claim : ∀ c, s.plans.claim = some c →
      claimBytes s.plans.claim = [byte (linkNumber c.holder), byte (c.target.val + 1)] ++ be16 c.timer := fun c h => by rw [h]; rfl
  have noclaim : s.plans.claim = none → claimBytes s.plans.claim = [0, 0, 0, 0] := fun h => by rw [h]; rfl
  have hold : ∀ h, s.meter.hold = some h → holdBytes s.meter.hold = byte (linkNumber h.owner) :: be32 h.timer :=
    fun h e => by rw [e]; rfl
  have nohold : s.meter.hold = none → holdBytes s.meter.hold = [0, 0, 0, 0, 0] := fun h => by rw [h]; rfl
  obtain ⟨r0, r1, r2, r3, r4, hr⟩ := rateBytes_five s.rate.inForce
  obtain ⟨c0, c1, c2, c3, hc⟩ := claimBytes_four s.plans.claim
  obtain ⟨h0, h1, h2, h3, h4, hh⟩ := holdBytes_five s.meter.hold
  have hb : b = statusBytes l s := statusBytes_received l l false s
  rw [statusBytes_eq, hr, hc, hh, ringBytes_eq] at hb
  rw [hr] at rate norate
  rw [hc] at claim noclaim
  rw [hh] at hold nohold
  rw [hb]
  refine ⟨rfl, rfl, rfl, rfl, rfl, rfl, rfl, rfl, rfl, rate, norate, rfl, fun i => ?_, rfl, fun k hk => ?_, rfl, rfl, claim, noclaim,
    rfl, rfl, rfl, hold, nohold, rfl, rfl, fun d => ?_, rfl, rfl⟩
  · fin_cases i <;> exact ⟨rfl, rfl⟩
  · interval_cases k <;> rfl
  · fin_cases d <;> rfl

end Sys2Proof.Snapshot
end

section
/-! Payloads: the bytes of a field and the number it stands for, the first check that fails as a chain of cases, and the
requests that replace a whole table or image field by field (O19, O28, O30, O36). -/

namespace Sys2Proof.Payloads
open Sys2Proof.Machine Sys2Proof.Steps Sys2Proof.Steady Sys2Proof.Bounds

/-! ### Checks -/

theorem inRange_eq_false {lo hi n : Nat} : inRange lo hi n = false ↔ n < lo ∨ hi < n := by
  simp [inRange]
  omega

/-- The first failure is at the first check, or among the others where the first passes. -/
theorem firstFailure_cons_eq_some {b : Bool} {k n : Nat} {c : FieldCheck} {cs : List FieldCheck} :
    firstFailure ((b, k) :: c :: cs) = some n ↔ if b = false then n = k else firstFailure (c :: cs) = some n := by
  cases b
  · simp [firstFailure, eq_comm (a := k)]
  · simp [firstFailure]

theorem firstFailure_append (cs ds : List FieldCheck) : firstFailure (cs ++ ds) = (firstFailure cs).or (firstFailure ds) := by
  simp [firstFailure, List.find?_append, Option.map_or]

/-- The checks of a group that is present, as checks that pass where it is absent. -/
def guarded (group : Bool) (cs : List FieldCheck) : List FieldCheck := cs.map fun c => (!group || c.1, c.2)

theorem firstFailure_group (group : Bool) (cs : List FieldCheck) :
    firstFailure (if group then cs else []) = firstFailure (guarded group cs) := by
  cases group
  · simp [guarded, firstFailure]
  · simp [guarded]

theorem firstFailure_single_eq_some {b : Bool} {k n : Nat} : firstFailure [(b, k)] = some n ↔ n = k ∧ b = false := by
  cases b
  · simp [firstFailure, eq_comm (a := k)]
  · simp [firstFailure]

/-! ### Fields -/

theorem be16_word {n : Nat} (h : n < 65536) : (byte (n / 256)).toNat * 256 + (byte n).toNat = n := by
  rw [byte_toNat, byte_toNat]
  omega

theorem flagCode_beq_one (b : Bool) : (flagCode b == 1) = b := by cases b <;> rfl

theorem flagCode_lt (b : Bool) : flagCode b < 256 := by cases b <;> decide

/-! ### CONFIGURE LINK -/

section Config
variable {tLo tHi count depth threshold : Nat} {keepaliveOnly attnOnRecord : Bool}

theorem configPayload_fields (lo : tLo ≤ 600) (hi : tHi ≤ 600) (c : count ≤ 255) (d : depth ≤ 255) (t : threshold ≤ 255) :
    let p := configPayload tLo tHi count keepaliveOnly depth threshold attnOnRecord
    word16At p 0 = tLo ∧ word16At p 2 = tHi ∧ byteAt p 4 = count ∧ byteAt p 5 = flagCode keepaliveOnly ∧ byteAt p 6 = depth ∧
      byteAt p 7 = threshold ∧ byteAt p 8 = flagCode attnOnRecord := by
  refine ⟨be16_word ?_, be16_word ?_, byte_toNat_of_lt ?_, byte_toNat_of_lt (flagCode_lt _), byte_toNat_of_lt ?_,
    byte_toNat_of_lt ?_, byte_toNat_of_lt (flagCode_lt _)⟩ <;> omega

end Config

/-- Settles O19: each field of the payload reads back as its number, and the checks fail in the order of the fields. -/
theorem configureLinkReplacesTheConfiguration : Obligations.ConfigureLinkReplacesTheConfiguration := by
  unfold Obligations.ConfigureLinkReplacesTheConfiguration
  constructor
  · intro l tag s tLo tHi count keepaliveOnly depth threshold attnOnRecord steady lo hi cnt d2 d8 t1 t32 p
    obtain ⟨f0, f2, f4, f5, f6, f7, f8⟩ :
        word16At p 0 = tLo ∧ word16At p 2 = tHi ∧ byteAt p 4 = count ∧ byteAt p 5 = flagCode keepaliveOnly ∧
          byteAt p 6 = depth ∧ byteAt p 7 = threshold ∧ byteAt p 8 = flagCode attnOnRecord :=
      configPayload_fields lo hi (by omega) (by omega) (by omega)
    have flag : ∀ b, inRange 0 1 (flagCode b) = true := by decide
    have checks : configChecks p = [(true, 0), (true, 2), (true, 4), (true, 5), (true, 6), (true, 7), (true, 8),
        (tHi == 0 || decide (tLo < tHi), 0)] := by
      simp only [configChecks, f0, f2, f4, f5, f6, f7, f8, flag]
      simp [inRange, lo, hi, cnt, d2, d8, t1, t32]
    constructor
    · intro ordered
      have pass : firstFailure (configChecks p) = none := by
        rw [checks]
        simp [firstFailure]
        omega
      refine exec_accepts (c := .configureLink l tag p) rfl (by simp) steady ?_
      simp only [requestAnswer, Permitted.allows, if_true]
      rw [withLength_of_eq (show p.length = 9 from rfl), withFields_of_pass pass]
      simp only [configureLink, configured, f0, f2, f4, f5, f6, f7, f8, flagCode_beq_one]
      rfl
    · intro on crossed
      have fail : firstFailure (configChecks p) = some 0 := by
        rw [checks]
        simp [firstFailure]
        omega
      refine exec_refusesRange (c := .configureLink l tag p) rfl (by simp) steady ?_
      simp only [requestAnswer, Permitted.allows, if_true]
      rw [withLength_of_eq (show p.length = 9 from rfl), withFields_of_fail fail]
      rfl
  · intro l tag p k s steady len first
    have fail : firstFailure (configChecks p) = some k := by
      simp only [configChecks, firstFailure_cons_eq_some, firstFailure_single_eq_some, inRange_eq_false]
      grind
    refine exec_refusesRange (c := .configureLink l tag p) rfl (by simp) steady ?_
    simp only [requestAnswer, Permitted.allows, if_true]
    rw [withLength_of_eq len, withFields_of_fail fail]
    rfl

/-! ### Plan images -/

/-- Settles O28: the checks of R132 read as a chain, in which a group's checks stand under the group's flag. -/
theorem anImagePassesExactlyIfItsFieldsAreInRange : Obligations.AnImagePassesExactlyIfItsFieldsAreInRange := by
  unfold Obligations.AnImagePassesExactlyIfItsFieldsAreInRange
  constructor
  · intro b img
    rw [imageFailure, firstFailure_eq_none]
    unfold imageChecks
    cases planQueueGroup img <;> cases planSpillGroup img <;> cases planActivationGroup img <;>
      simp [inRange] <;> grind
  · intro b img k
    rw [imageFailure, imageChecks, firstFailure_append, firstFailure_append, firstFailure_append, firstFailure_group,
      firstFailure_group, firstFailure_group, ← firstFailure_append, ← firstFailure_append, ← firstFailure_append]
    simp only [guarded, List.map_cons, List.map_nil, List.cons_append, List.nil_append, firstFailure_cons_eq_some,
      firstFailure_single_eq_some, inRange_eq_false, Bool.or_eq_false_iff, Bool.and_eq_false_iff,
      Bool.not_eq_false', decide_eq_false_iff_not, beq_eq_false_iff_ne, not_lt, not_not, Nat.not_lt_zero, false_or, ne_eq]

/-! ### RATE ORDER -/

/-- The order of a payload's cap, floor and expiry. -/
def orderHeld (cap floor expiry : Option Nat) : Option RateOrder :=
  if cap.isSome ∨ floor.isSome then
    some ⟨cap.map fun n => max 120 (min n 3600), floor.map fun n => max 120 (min n 3600), expiry.map (· * 100)⟩
  else none

theorem flagBits : ∀ a b c : Bool, (byte (bitsToNat [a, b, c])).toNat < 8 ∧ (byte (bitsToNat [a, b, c])).getLsbD 0 = a ∧
    (byte (bitsToNat [a, b, c])).getLsbD 1 = b ∧ (byte (bitsToNat [a, b, c])).getLsbD 2 = c := by
  decide

theorem orderPayload_flags (cap floor expiry : Option Nat) :
    byteAt (orderPayload cap floor expiry) 0 < 8 ∧ orderFlag (orderPayload cap floor expiry) 0 = cap.isSome ∧
      orderFlag (orderPayload cap floor expiry) 1 = floor.isSome ∧
      orderFlag (orderPayload cap floor expiry) 2 = expiry.isSome := by
  exact flagBits cap.isSome floor.isSome expiry.isSome

section Order
variable {cap floor expiry : Option Nat}

theorem orderPayload_words (c : ∀ n, cap = some n → n < 65536) (f : ∀ n, floor = some n → n < 65536)
    (e : ∀ n, expiry = some n → n < 65536) :
    word16At (orderPayload cap floor expiry) 1 = cap.getD 0 ∧ word16At (orderPayload cap floor expiry) 3 = floor.getD 0 ∧
      word16At (orderPayload cap floor expiry) 5 = expiry.getD 0 := by
  have small : ∀ {o : Option Nat}, (∀ n, o = some n → n < 65536) → o.getD 0 < 65536 := by
    intro o h
    cases o with
    | none => exact Nat.zero_lt_succ _
    | some n => exact h n rfl
  exact ⟨be16_word (small c), be16_word (small f), be16_word (small e)⟩

theorem orderOf_payload (c : ∀ n, cap = some n → n < 65536) (f : ∀ n, floor = some n → n < 65536)
    (e : ∀ n, expiry = some n → n < 65536) : orderOf (orderPayload cap floor expiry) = orderHeld cap floor expiry := by
  obtain ⟨-, hasCap, hasFloor, hasExpiry⟩ := orderPayload_flags cap floor expiry
  obtain ⟨word1, word3, word5⟩ := orderPayload_words c f e
  simp only [Machine.orderOf, orderCap, orderFloor, hasCap, hasFloor, hasExpiry, word1, word3, word5]
  cases cap <;> cases floor <;> cases expiry <;> rfl

theorem orderChecks_pass (c : ∀ n, cap = some n → n < 65536) (f : ∀ n, floor = some n → n < 65536)
    (e : ∀ n, expiry = some n → n < 65536) (range : ∀ n, expiry = some n → 1 ≤ n ∧ n ≤ 3600) :
    firstFailure (orderChecks (orderPayload cap floor expiry)) = none := by
  obtain ⟨flags, -, -, hasExpiry⟩ := orderPayload_flags cap floor expiry
  obtain ⟨-, -, word5⟩ := orderPayload_words c f e
  rw [firstFailure_eq_none]
  simp only [orderChecks, hasExpiry, word5, flags]
  cases expiry with
  | none => simp
  | some n => simp [inRange, range n rfl]

theorem orderChecks_expiry {n : Nat} (c : ∀ n, cap = some n → n < 65536) (f : ∀ n, floor = some n → n < 65536)
    (e : ∀ n, expiry = some n → n < 65536) (is : expiry = some n) (out : n = 0 ∨ 3600 < n) :
    firstFailure (orderChecks (orderPayload cap floor expiry)) = some 5 := by
  subst is
  obtain ⟨flags, -, -, hasExpiry⟩ := orderPayload_flags cap floor (some n)
  obtain ⟨-, -, word5⟩ := orderPayload_words c f e
  simp only [orderChecks, hasExpiry, word5, flags, firstFailure_cons_eq_some, firstFailure_single_eq_some]
  simp [inRange_eq_false]
  omega

end Order

/-- Settles O36: the payload reads back as the order, its checks fail at the flags or at the expiry. -/
theorem rateOrderReplacesTheWholeOrder : Obligations.RateOrderReplacesTheWholeOrder := by
  unfold Obligations.RateOrderReplacesTheWholeOrder
  intro l tag cap floor expiry s steady c f e r p clamp held put
  have isHeld : orderOf p = held := orderOf_payload c f e
  refine ⟨fun on range => ?_, fun n is out => ?_, fun off range => ?_, fun b big => ?_⟩
  · refine exec_accepts (c := .rateOrder l tag p) rfl (by simp) steady ?_
    simp only [requestAnswer, Permitted.allows, if_true]
    rw [withLength_of_eq (show p.length = 7 from rfl), withFields_of_pass (orderChecks_pass c f e range),
      whenPresent_of_present _ (by cases l <;> exact on), rateOrder, isHeld]
    congr 1
  · refine exec_refusesRange (c := .rateOrder l tag p) rfl (by simp) steady ?_
    simp only [requestAnswer, Permitted.allows, if_true]
    rw [withLength_of_eq (show p.length = 7 from rfl), withFields_of_fail (orderChecks_expiry c f e is out)]
    rfl
  · refine exec_refuses (c := .rateOrder l tag p) rfl (by simp) steady ?_
    simp only [requestAnswer, Permitted.allows, if_true]
    rw [withLength_of_eq (show p.length = 7 from rfl), withFields_of_pass (orderChecks_pass c f e range)]
    exact whenPresent_of_not _ (by cases l <;> simp_all [received, State.link, State.setLink])
  · have fail : firstFailure (orderChecks (b :: p.tail)) = some 0 := by
      rw [orderChecks, firstFailure_cons_eq_some, if_pos]
      simpa [byteAt] using big
    refine exec_refusesRange (c := .rateOrder l tag (b :: p.tail)) rfl (by simp) steady ?_
    simp only [requestAnswer, Permitted.allows, if_true]
    rw [withLength_of_eq (show (b :: p.tail).length = 7 from rfl), withFields_of_fail fail]
    rfl

/-! ### WRITE LIMITS -/

theorem limitsPayload_fields {m : SiteLimits} (ok : limitsInRange m) :
    firstFailure (limitsChecks (limitsPayload m)) = none ∧ limitsOf (limitsPayload m) = m := by
  obtain ⟨⟨g1, g2⟩, ⟨a1, a2⟩, ⟨r1, r2⟩, ⟨s1, s2⟩, ⟨m1, m2⟩, ⟨h1, h2⟩, blank, ⟨d1, d2⟩, ⟨i1, i2⟩, tol⟩ := ok
  have f0 : byteAt (limitsPayload m) 0 = m.greenMin := byte_toNat_of_lt (by omega)
  have f1 : byteAt (limitsPayload m) 1 = m.amberMin := byte_toNat_of_lt (by omega)
  have f2 : byteAt (limitsPayload m) 2 = m.redMin := byte_toNat_of_lt (by omega)
  have f3 : byteAt (limitsPayload m) 3 = m.staggerMin := byte_toNat_of_lt (by omega)
  have f4 : word16At (limitsPayload m) 4 = m.rAbsMin := be16_word (by omega)
  have f6 : word16At (limitsPayload m) 6 = m.holdMax := be16_word (by omega)
  have f8 : byteAt (limitsPayload m) 8 = m.lampBlank := byte_toNat_of_lt (by omega)
  have f9 : byteAt (limitsPayload m) 9 = m.lampDeglitch := byte_toNat_of_lt (by omega)
  have f10 : byteAt (limitsPayload m) 10 = if m.redScope = .lane then 0 else 1 := byte_toNat_of_lt (by split <;> decide)
  have f11 : byteAt (limitsPayload m) 11 = if m.amberMode = .warn then 0 else 1 := byte_toNat_of_lt (by split <;> decide)
  have f12 : byteAt (limitsPayload m) 12 = if m.absentFallback = .continue then 0 else 1 :=
    byte_toNat_of_lt (by split <;> decide)
  have f13 : byteAt (limitsPayload m) 13 = m.intervalLen := byte_toNat_of_lt (by omega)
  have f14 : byteAt (limitsPayload m) 14 = flagCode m.markSync := byte_toNat_of_lt (flagCode_lt _)
  have f15 : byteAt (limitsPayload m) 15 = m.markTol := byte_toNat_of_lt (by omega)
  constructor
  · have flag : ∀ b, inRange 0 1 (flagCode b) = true := by decide
    have bit : ∀ (p : Prop) [Decidable p], inRange 0 1 (if p then 0 else 1) = true := by
      intro p _
      split <;> rfl
    rw [firstFailure_eq_none]
    simp only [limitsChecks, f0, f1, f2, f3, f4, f6, f8, f9, f10, f11, f12, f13, f14, f15, flag, bit]
    simp [inRange, g1, g2, a1, a2, r1, r2, s1, s2, m1, m2, h1, h2, blank, d1, d2, i1, i2, tol]
  · simp only [limitsOf, f0, f1, f2, f3, f4, f6, f8, f9, f10, f11, f12, f13, f14, f15, flagCode_beq_one]
    cases m with
    | mk _ _ _ _ _ _ _ _ red amber fallback _ _ _ => cases red <;> cases amber <;> cases fallback <;> rfl

theorem planAtClose_slots (s : State) : (planAtClose s).plans.slots = s.plans.slots := by
  unfold planAtClose
  cases s.plans.pendingSlot with
  | none => rfl
  | some k =>
    dsimp only
    generalize (s.mode == .dark || _) = applies
    cases applies <;> simp [applySlot]

theorem closeInterval_slots (cause : Cause) (next : Nat) (s : State) :
    (closeInterval cause next s).plans.slots = s.plans.slots := by
  rw [closeInterval_eq]
  simp [putWaiting, blocksAtClose, planAtClose_slots]

theorem closes_slots (s : State) : (closeFreeRun (closeTimed s)).plans.slots = s.plans.slots := by
  unfold closeFreeRun closeTimed
  split <;> split <;> simp only [closeInterval_slots]

theorem writeLimits_slots (p : List Byte) (s : State) : (writeLimits p s).state.plans.slots = s.plans.slots := by
  rw [writeLimits_eq, accept_state]
  unfold fallbackJudged
  split <;> simp [closes_slots]

/-- Where nothing is due under the new limits, they are all that changes. -/
theorem writeLimits_idle {p : List Byte} {s : State} (same : (limitsOf p).absentFallback = s.limits.absentFallback)
    (noHeld : ∀ i, (s.lane i).held = none)
    (early : s.counter.elapsed < if (limitsOf p).markSync then ((limitsOf p).intervalLen + (limitsOf p).markTol) * 100
      else (limitsOf p).intervalLen * 100) :
    writeLimits p s = accept { s with limits := limitsOf p } [] := by
  have timed : closeTimed { s with limits := limitsOf p } = { s with limits := limitsOf p } := by
    refine if_neg fun ⟨free, due⟩ => ?_
    rw [if_neg (by simpa using free)] at early
    exact absurd due (Nat.not_le.mpr early)
  have freeRun : closeFreeRun { s with limits := limitsOf p } = { s with limits := limitsOf p } := by
    refine if_neg fun ⟨sync, due⟩ => ?_
    rw [if_pos (by simpa using sync)] at early
    exact absurd due (Nat.not_le.mpr early)
  have held : ∀ i, judgeHeld i { s with limits := limitsOf p } = { s with limits := limitsOf p } := fun i => by
    have none : (State.lane { s with limits := limitsOf p } i).held = none := noHeld i
    simp [judgeHeld, heldDue, none]
  rw [writeLimits_eq, timed, freeRun, fallbackJudged, if_neg (by simp [same])]
  simp [orderEach, allLanes, held]

/-- Settles O30: the payload reads back as the table, and the checks fail in the order of the fields. -/
theorem writeLimitsReplacesTheTable : Obligations.WriteLimitsReplacesTheTable := by
  unfold Obligations.WriteLimitsReplacesTheTable
  intro tag s steady unlocked
  have free : (received .L false s).locked = false := by simpa using unlocked
  refine ⟨fun m ok => ?_, fun p k len first => ?_, fun p len => ?_⟩
  · obtain ⟨pass, reads⟩ := limitsPayload_fields ok
    have run : requestAnswer (.writeLimits .L tag (limitsPayload m)) (received .L false s) =
        writeLimits (limitsPayload m) (received .L false s) := by
      simp only [requestAnswer, Permitted.allows, if_true, free]
      exact (withLength_of_eq (show (limitsPayload m).length = 16 from rfl) _).trans (withFields_of_pass pass _)
    constructor
    · have status : (writeLimits (limitsPayload m) (received .L false s)).status = .accepted := rfl
      have payload : (writeLimits (limitsPayload m) (received .L false s)).payload = [] := rfl
      refine ⟨_, exec_steady (c := .writeLimits .L tag (limitsPayload m)) rfl (by simp) steady run, ?_, ?_, ?_, ?_⟩
      · simp [writeLimits_limits, reads]
      · simp [unlocked]
      · rw [answered_link, status, payload, if_pos rfl]
      · simp [writeLimits_slots]
    · intro same noHeld early
      refine exec_accepts (c := .writeLimits .L tag (limitsPayload m)) rfl (by simp) steady ?_
      rw [show (0x40 == (0x02 : Byte)) = false from rfl, run, writeLimits_idle (by rw [reads]; simpa using same)
        (by simpa [State.lane] using noHeld) (by rw [reads]; simpa using early), reads]
  · have fail : firstFailure (limitsChecks p) = some k := by
      simp only [limitsChecks, firstFailure_cons_eq_some, firstFailure_single_eq_some, inRange_eq_false, Nat.not_lt_zero,
        false_or]
      exact first
    refine exec_refusesRange (c := .writeLimits .L tag p) rfl (by simp) steady ?_
    simp only [requestAnswer, Permitted.allows, if_true]
    exact (if_neg (by simpa using unlocked)).trans ((withLength_of_eq len _).trans (withFields_of_fail fail _))
  · refine exec_refusesRange (k := 255) (c := .writeLimits .L tag p) rfl (by simp) steady ?_
    simp only [requestAnswer, Permitted.allows, if_true]
    exact (if_neg (by simpa using unlocked)).trans (withLength_of_ne len _)

end Sys2Proof.Payloads
end

section
/-! The requests on a link's own queues, and the layouts of records and events (O24). -/

namespace Sys2Proof.OwnQueues
open Sys2Proof.Machine Sys2Proof.Steps Sys2Proof.Steady

theorem received_blocks (l : LinkId) (k : Bool) (s : State) : (received l k s).events = s.events ∧
    (received l k s).records = s.records ∧ (received l k s).counter = s.counter := by
  simp [received]

/-! ### Layouts -/

theorem event_layout (e : Event) : e.bytes.length = 8 ∧ e.bytes.getD 0 0 = byte e.kind.code ∧
    e.bytes.getD 1 0 = byte e.subject ∧ (e.bytes.drop 2).take 2 = be16 e.detail ∧ (e.bytes.drop 4).take 2 = be16 e.number ∧
    (e.bytes.drop 6).take 2 = be16 e.elapsed := ⟨rfl, rfl, rfl, rfl, rfl, rfl⟩

theorem rateBytes_length (o : Option RateOut) : (rateBytes o).length = 5 := by cases o <;> rfl

theorem detBytes_length (dets : List DetEntry) : (dets.map DetEntry.bytes).flatten.length = 7 * dets.length := by
  induction dets with
  | nil => rfl
  | cons e dets ih =>
    rw [List.map_cons, List.flatten_cons, List.length_append, ih, List.length_cons, show e.bytes.length = 7 from rfl]
    omega

/-- The entry of index `j` stands at 7 * j among the detector entries. -/
theorem detBytes_entry (dets : List DetEntry) (j : Nat) (e : DetEntry) (at_j : dets[j]? = some e) :
    (((dets.map DetEntry.bytes).flatten).drop (7 * j)).take 7 = e.bytes := by
  induction dets generalizing j with
  | nil => simp at at_j
  | cons x dets ih =>
    rw [List.map_cons, List.flatten_cons]
    cases j with
    | zero =>
      obtain rfl : x = e := by simpa using at_j
      exact List.take_left' rfl
    | succ j =>
      rw [show 7 * (j + 1) = x.bytes.length + 7 * j from by rw [show x.bytes.length = 7 from rfl]; omega, List.drop_append,
        List.drop_eq_nil_of_le (by omega), List.nil_append, Nat.add_sub_cancel_left]
      exact ih j (by simpa using at_j)

/-- The fixed part of a record with three lane entries, and the detector entries behind it. -/
theorem record_bytes (x : IntervalRecord) (a b c : LaneEntry) (lanes : x.lanes = [a, b, c]) :
    x.bytes = be16 x.number ++ [byte x.cause.code] ++ be16 x.duration ++ be16 x.next ++
      [byte x.mode.code, byte (slotCode x.slot), byte x.flags, byte x.dets.length] ++
      (a.bytes ++ (b.bytes ++ (c.bytes ++ []))) ++ be16 (x.om.getD 0) ++ rateBytes x.rate ++
      (x.dets.map DetEntry.bytes).flatten := by
  rw [IntervalRecord.bytes, lanes]
  rfl

theorem record_layout (x : IntervalRecord) (three : x.lanes.length = 3) :
    let b := x.bytes
    b.length = 33 + 7 * x.dets.length ∧ b.take 2 = be16 x.number ∧ b.getD 2 0 = byte x.cause.code ∧
      (b.drop 3).take 2 = be16 x.duration ∧ (b.drop 5).take 2 = be16 x.next ∧ b.getD 7 0 = byte x.mode.code ∧
      b.getD 8 0 = byte (slotCode x.slot) ∧
      b.getD 9 0 = byte (bitsToNat [x.om.isSome, x.rate.isSome, x.floorActive, x.spillActive]) ∧
      b.getD 10 0 = byte x.dets.length ∧
      (∀ (j : Nat) (e : LaneEntry), x.lanes[j]? = some e → (b.drop (11 + 5 * j)).take 5 =
        [byte e.state.code, byte e.releases, byte e.extras, byte e.violations, byte (flagCode e.substituted)]) ∧
      (b.drop 26).take 2 = be16 (x.om.getD 0) ∧
      (∀ o, x.rate = some o → (b.drop 28).take 5 = be16 o.rate ++ [byte o.tag.code] ++ be16 o.headway) ∧
      (x.rate = none → (b.drop 28).take 5 = [0, 0, 0, 0, 0]) ∧
      (∀ (j : Nat) (e : DetEntry), x.dets[j]? = some e → (b.drop (33 + 7 * j)).take 7 =
        [byte (e.input.val + 1), byte e.role.code] ++ be16 e.volume ++ be16 e.occupancy ++ [byte e.health.code]) := by
  obtain ⟨a, b, c, lanes⟩ : ∃ a b c, x.lanes = [a, b, c] := List.length_eq_three.mp three
  dsimp only
  rw [record_bytes x a b c lanes]
  have detDrop : ∀ (head : List Byte), head.length = 33 → ∀ n, (head ++ (x.dets.map DetEntry.bytes).flatten).drop (33 + n) =
      ((x.dets.map DetEntry.bytes).flatten).drop n := fun head len n => by
    rw [← List.drop_drop, List.drop_left' len]
  refine ⟨?_, rfl, rfl, rfl, rfl, rfl, rfl, rfl, rfl, ?_, rfl, ?_, ?_, ?_⟩
  · rw [List.length_append, detBytes_length]
    simp [rateBytes_length, be16, LaneEntry.bytes]
  · intro j e at_j
    rw [lanes] at at_j
    match j with
    | 0 => obtain rfl : a = e := by simpa using at_j
           rfl
    | 1 => obtain rfl : b = e := by simpa using at_j
           rfl
    | 2 => obtain rfl : c = e := by simpa using at_j
           rfl
    | n + 3 => simp at at_j
  · intro o some
    rw [some]
    rfl
  · intro none
    rw [none]
    rfl
  · intro j e at_j
    rw [detDrop _ (by simp [rateBytes_length, be16, LaneEntry.bytes]), detBytes_entry x.dets j e at_j]
    rfl

/-! ### The requests -/

/-- Settles O24: the requests take from their own queue; the layouts are `event_layout` and `record_layout`. -/
theorem ownQueuesAreReadAndFlushed : Obligations.OwnQueuesAreReadAndFlushed := by
  unfold Obligations.OwnQueuesAreReadAndFlushed
  refine ⟨fun l tag s steady => ?_, fun l tag s steady => ?_, fun l tag s steady => ?_⟩
  · intro r q left
    obtain ⟨events, -, counter⟩ : r.events = s.events ∧ r.records = s.records ∧ r.counter = s.counter :=
      received_blocks l false s
    have leave : ∀ rest, (s.events.get l).leave rest (overflowEntry r (s.events.get l)) = left rest := by
      intro rest
      rw [overflowEntry, counter]
      rfl
    refine ⟨fun n pos most => ?_, fun n out => ?_, ?_, event_layout, rfl⟩
    · have len : byteAt [byte n] 0 = n := byte_toNat_of_lt (by omega)
      have pass : firstFailure [(inRange 1 16 (byteAt [byte n] 0), 0)] = none := by
        simp [firstFailure, len, inRange, pos, most]
      refine exec_accepts (c := .readEvents l tag [byte n]) rfl (by simp) steady ?_
      simp only [requestAnswer, Permitted.allows, if_true]
      refine (withLength_of_eq rfl _).trans ((withFields_of_pass pass _).trans ?_)
      show readEvents l (byteAt [byte n] 0) r = _
      simp only [len, readEvents, leave, putEvents, events]
      rw [List.length_take]
    · have fail : firstFailure [(inRange 1 16 (byteAt [n] 0), 0)] = some 0 := by
        have at0 : byteAt [n] 0 = n.toNat := rfl
        rw [at0]
        rcases out with rfl | big
        · rfl
        · simp [firstFailure, inRange]
          omega
      refine exec_refusesRange (c := .readEvents l tag [n]) rfl (by simp) steady ?_
      simp only [requestAnswer, Permitted.allows, if_true]
      exact (withLength_of_eq rfl _).trans (withFields_of_fail fail _)
    · refine exec_accepts (c := .flushEvents l tag []) rfl (by simp) steady ?_
      simp only [requestAnswer, Permitted.allows, if_true]
      show flushEvents l r = _
      simp only [flushEvents, leave, putEvents, events]
  · intro r
    obtain ⟨-, records, -⟩ : r.events = s.events ∧ r.records = s.records ∧ r.counter = s.counter :=
      received_blocks l false s
    refine ⟨fun x rest q => ?_, fun q => ?_, fun p filled => ?_, record_layout, by decide⟩
    · refine exec_accepts (c := .readRecord l tag []) rfl (by simp) steady ?_
      simp only [requestAnswer, Permitted.allows, if_true]
      show readRecord l r = _
      simp only [readRecord, records, q, putRecords]
    · refine exec_accepts (c := .readRecord l tag []) rfl (by simp) steady ?_
      simp only [requestAnswer, Permitted.allows, if_true]
      show readRecord l r = _
      simp only [readRecord, records, q]
    · refine exec_refusesRange (k := 255) (c := .readRecord l tag p) rfl (by simp) steady ?_
      simp only [requestAnswer, Permitted.allows, if_true]
      exact CancelOrder.withoutPayload_of_ne_nil filled _ _
  · refine exec_accepts (c := .flushRecords l tag []) rfl (by simp) steady ?_
    simp only [requestAnswer, Permitted.allows, if_true, withoutPayload_nil, putRecords]
    simp [received]

end Sys2Proof.OwnQueues
end

section
/-! The staging claim and the commit of a buffer (O25, O27). -/

namespace Sys2Proof.Staging
open Sys2Proof.Machine Sys2Proof.Steps Sys2Proof.Steady

theorem received_slot (l : LinkId) (k : Bool) (s : State) (n : Fin 8) : (received l k s).slot n = s.slot n := by
  simp [State.slot]

theorem slotByte (k : Fin 8) : slotOf (byteAt [byte (k.val + 1)] 0) = some k := by
  rw [show byteAt [byte (k.val + 1)] 0 = k.val + 1 from byte_toNat_of_lt (by omega), slotOf_succ]

theorem slotByte_none {n : Byte} (out : n = 0 ∨ 8 < n.toNat) : slotOf (byteAt [n] 0) = none := by
  refine slotOf_none ?_
  rcases out with rfl | big
  · exact .inl Nat.one_pos
  · exact .inr big

/-- A request that names a slot, from a PRESENT link. -/
theorem withSlot_present {l : LinkId} {s : State} (k : Fin 8) (h : Fin 8 → State → Answer) (on : (s.link l).state = .present) :
    withLength 1 [byte (k.val + 1)] (withSlot [byte (k.val + 1)] fun k => whenPresent l (h k)) s = h k s :=
  (withLength_of_eq rfl _).trans ((withSlot_of_some (slotByte k) _).trans (whenPresent_of_present _ on))

theorem withSlot_notPresent {l : LinkId} {s : State} (k : Fin 8) (h : Fin 8 → State → Answer) (off : (s.link l).state ≠ .present) :
    withLength 1 [byte (k.val + 1)] (withSlot [byte (k.val + 1)] fun k => whenPresent l (h k)) s = refuse s .wrongState :=
  (withLength_of_eq rfl _).trans ((withSlot_of_some (slotByte k) _).trans (whenPresent_of_not _ off))

theorem withSlot_noSlot {n : Byte} {s : State} (h : Fin 8 → State → Answer) (out : n = 0 ∨ 8 < n.toNat) :
    withLength 1 [n] (withSlot [n] h) s = refuseRange s 0 :=
  (withLength_of_eq rfl _).trans (withSlot_of_none (slotByte_none out) _)

/-! ### OPEN PLAN -/

theorem unlessBusy_of_free {l : LinkId} {s : State} (free : ∀ x, s.plans.claim = some x → x.holder = l) (h : State → Answer) :
    unlessBusy l h s = h s := by
  unfold unlessBusy claimOf
  cases claim : s.plans.claim with
  | none => rfl
  | some x =>
    have mine : x.holder ≠ otherLink l := by
      rw [free x claim]
      cases l <;> decide
    simp [mine]

theorem unlessBusy_of_held {l : LinkId} {s : State} {x : Claim} (claim : s.plans.claim = some x) (other : x.holder ≠ l)
    (h : State → Answer) : unlessBusy l h s = refuse s .busy := by
  have theirs : x.holder = otherLink l := by
    revert other
    cases x.holder <;> cases l <;> decide
  simp [unlessBusy, claimOf, claim, theirs]

/-- Settles O25: the claim decides between the holder, BUSY and NOT_OPEN. -/
theorem theStagingClaimIsTakenAndReleased : Obligations.TheStagingClaimIsTakenAndReleased := by
  unfold Obligations.TheStagingClaimIsTakenAndReleased
  refine ⟨fun l tag s steady => ?_, fun l tag c s steady claim => ?_, fun l tag s steady claim => ?_, fun c s claim due => ?_⟩
  · intro r
    refine ⟨fun k => ?_, fun n out => ?_⟩
    · intro c
      refine ⟨fun on free => ?_, fun x on claim other => ?_, fun off => ?_⟩
      · refine exec_accepts (c := c) rfl (by simp [c]) steady ?_
        simp only [requestAnswer, c, Permitted.allows, if_true]
        refine (withSlot_present k _ ((received_linkState l l false s).trans on)).trans
          ((unlessBusy_of_free (by simpa using free) _).trans ?_)
        simp only [openPlan, received_slot, State.putClaim, State.putBuffer, received_frame]
        rfl
      · refine exec_refuses (c := c) rfl (by simp [c]) steady ?_
        simp only [requestAnswer, c, Permitted.allows, if_true]
        exact (withSlot_present k _ ((received_linkState l l false s).trans on)).trans
          (unlessBusy_of_held (by simpa using claim) other _)
      · refine exec_refuses (c := c) rfl (by simp [c]) steady ?_
        simp only [requestAnswer, c, Permitted.allows, if_true]
        rw [withSlot_notPresent k _ (by rw [received_linkState, off]; decide)]
        rfl
    · refine exec_refusesRange (c := .openPlan l tag [n]) rfl (by simp) steady ?_
      simp only [requestAnswer, Permitted.allows, if_true]
      exact withSlot_noSlot _ out
  · have held : (received l false s).plans.claim = some c := by simpa using claim
    by_cases mine : c.holder = l
    · rw [if_pos mine]
      refine exec_accepts (c := .abortPlan l tag []) rfl (by simp) steady ?_
      simp only [requestAnswer, Permitted.allows, if_true, withoutPayload_nil]
      refine (PlanData.asHolder_of_holder held mine _).trans ?_
      simp [State.putClaim]
    · rw [if_neg mine]
      refine exec_refuses (c := .abortPlan l tag []) rfl (by simp) steady ?_
      simp only [requestAnswer, Permitted.allows, if_true, withoutPayload_nil]
      exact PlanData.asHolder_of_not_holder (by simpa [claim] using mine) _
  · refine exec_refuses (c := .abortPlan l tag []) rfl (by simp) steady ?_
    simp only [requestAnswer, Permitted.allows, if_true, withoutPayload_nil]
    exact PlanData.asHolder_of_not_holder (by simp [claim]) _
  · rw [exec_event (c := .stagingTimeout) rfl]
    simp [eventEffect, stagingTimeout, claim, due, State.putClaim]

/-! ### COMMIT PLAN -/

theorem otherLaneSet_eq_false {s : State} {img : List Byte} :
    otherLaneSet s img = false ↔ ∀ p, s.plans.plan = some p → planLaneSet img = planLaneSet p := by
  unfold otherLaneSet
  cases s.plans.plan <;> simp

theorem otherLaneSet_of_plan {s : State} {img p : List Byte} (plan : s.plans.plan = some p)
    (other : planLaneSet img ≠ planLaneSet p) : otherLaneSet s img = true := by
  simp [otherLaneSet, plan, other]

theorem byte_mod (n : Nat) : byte (n % 256) = byte n := by
  apply BitVec.eq_of_toNat_eq
  rw [byte_toNat, byte_toNat, Nat.mod_mod]

/-- The stamped buffer of a full-length image. -/
theorem stamped_eq (s : State) (c : Claim) : stamped s c = s.plans.buffer.take 42 ++
    [byte (linkNumber c.holder), byte ((byteAt (s.slot c.target).image 43 + 1) % 256)] ++ be16 s.counter.number ++
    s.plans.buffer.drop 46 := by
  rw [byte_mod]
  simp [stamped, splice, planSequence, be16]

theorem stamped_sequence {s : State} {c : Claim} (len : s.plans.buffer.length = 48) :
    planSequence (stamped s c) = (byteAt (s.slot c.target).image 43 + 1) % 256 := by
  have head : (s.plans.buffer.take 42).length = 42 := by
    rw [List.length_take]
    omega
  rw [stamped_eq]
  simp only [planSequence, byteAt, List.append_assoc]
  rw [List.getD_append_right _ _ _ _ (by omega), head]
  exact byte_toNat_of_lt (Nat.mod_lt _ (by decide))

theorem commitChecked_passes {s : State} {c : Claim} (pass : imageFailure (timingBounds s.locked s.limits) s.plans.buffer = none)
    (still : s.mode = .dark ∨ s.plans.active ≠ some c.target ∨
      ∀ p, s.plans.plan = some p → planLaneSet s.plans.buffer = planLaneSet p) : commitChecked c s = commitPlan c s := by
  have undisturbed : commitDisturbs s c = false := by
    rw [commitDisturbs, Bool.and_eq_false_iff, Bool.and_eq_false_iff, otherLaneSet_eq_false]
    simpa [or_assoc] using still
  simp [commitChecked, pass, undisturbed]

/-- Settles O27: the checks of R136 decide between the refusals and `commitPlan`. -/
theorem commitPlanStoresACheckedImage : Obligations.CommitPlanStoresACheckedImage := by
  unfold Obligations.CommitPlanStoresACheckedImage
  intro l tag s steady r b kept
  obtain ⟨plans, counter, locked, limits⟩ : r.plans = s.plans ∧ r.counter = s.counter ∧ r.locked = s.locked ∧
      r.limits = s.limits := by simp [r]
  refine ⟨fun c claim mine => ?_, fun others => ?_⟩
  · have handled : requestAnswer (.commitPlan l tag []) r = commitChecked c r := by
      simp only [requestAnswer, Permitted.allows, if_true, withoutPayload_nil]
      exact PlanData.asHolder_of_holder (by rw [plans, claim]) mine _
    intro old seq img
    refine ⟨fun len pass still => ?_, fun k fail => ?_, fun p pass working active plan other => ?_⟩
    · refine exec_accepts (c := .commitPlan l tag []) rfl (by simp) steady (handled.trans ?_)
      rw [commitChecked_passes (by rw [locked, limits, plans]; exact pass) (by rw [plans]; exact still)]
      have image : stamped r c = img := by
        rw [stamped_eq, plans, counter, mine, received_slot]
      have sequence : planSequence img = seq := by
        rw [← image, stamped_sequence (by rw [plans]; exact len), received_slot]
      simp only [commitPlan, image, sequence, State.putClaim, State.putSlot, State.putBuffer, State.putPending, plans]
      by_cases follows : s.plans.active = some c.target ∧ s.plans.pendingSlot = none
      · rw [if_pos follows, if_pos follows]
      · rw [if_neg follows, if_neg follows]
    · refine exec_refusesRange (c := .commitPlan l tag []) rfl (by simp) steady (handled.trans ?_)
      have fails : imageFailure (timingBounds r.locked r.limits) r.plans.buffer = some k := by
        rw [locked, limits, plans]
        exact fail
      simp only [commitChecked, fails]
      rw [restartClaim, State.putClaim, plans]
      rfl
    · refine exec_refuses (c := .commitPlan l tag []) rfl (by simp) steady (handled.trans ?_)
      have passes : imageFailure (timingBounds r.locked r.limits) r.plans.buffer = none := by
        rw [locked, limits, plans]
        exact pass
      have mode : r.mode = s.mode := rfl
      have disturbs : commitDisturbs r c = true := by
        have set : otherLaneSet r s.plans.buffer = true := otherLaneSet_of_plan (by rw [plans, plan]) other
        simp [commitDisturbs, set, plans, active, mode, working]
      simp only [commitChecked, passes, disturbs, if_true]
      rw [restartClaim, State.putClaim, plans]
      rfl
  · refine exec_refuses (c := .commitPlan l tag []) rfl (by simp) steady ?_
    simp only [requestAnswer, Permitted.allows, if_true, withoutPayload_nil]
    exact PlanData.asHolder_of_not_holder (by simpa using others) _

end Sys2Proof.Staging
end

section
/-! What the mode transitions make of the events, the lanes, the lamps and the standing requests: the events posted, in
order (`Posted`), and the orders that a transition gives to each lane (`SameAt`). -/

namespace Sys2Proof.Transitions
open Sys2Proof.Machine Sys2Proof.Steps Sys2Proof.Holders Sys2Proof.LaneLaws Sys2Proof.Postings

/-! ### The events posted -/

/-- The event queues of `t` are those of `s` after the events of a list, all at one reading of the counter. -/
def Posted (es : List (EventKind × Nat × Nat)) (s t : State) : Prop :=
  t.events = (s.postEach es).events ∧ t.counter = s.counter

theorem postEach_events {s t : State} (events : t.events = s.events) (counter : t.counter = s.counter)
    (es : List (EventKind × Nat × Nat)) : (t.postEach es).events = (s.postEach es).events := by
  induction es generalizing s t with
  | nil => exact events
  | cons e es ih =>
    refine ih ?_ (by simp [counter])
    simp only [State.post, State.postEntry, events, counter]

@[simp] theorem postEach_counter (es : List (EventKind × Nat × Nat)) (s : State) : (s.postEach es).counter = s.counter := by
  induction es generalizing s with
  | nil => rfl
  | cons e es ih => rw [postEach_cons, ih]; simp

theorem Posted.quiet {s t : State} (events : t.events = s.events) (counter : t.counter = s.counter) : Posted [] s t :=
  ⟨events, counter⟩

theorem Posted.trans {es fs : List (EventKind × Nat × Nat)} {s t u : State} (h : Posted es s t) (g : Posted fs t u) :
    Posted (es ++ fs) s u := by
  refine ⟨?_, g.2.trans h.2⟩
  rw [g.1, postEach_append]
  exact postEach_events h.1 (by rw [h.2, postEach_counter]) fs

theorem Posted.continue {es : List (EventKind × Nat × Nat)} {s t : State} (h : Posted es s t) :
    EventsContinue (s.postEach es) t := fun l => by rw [h.1]

theorem posted_post (s : State) (kind : EventKind) (subject detail : Nat) :
    Posted [(kind, subject, detail)] s (s.post kind subject detail) := ⟨rfl, by simp⟩

/-- Quiet steps before and after do not count. -/
theorem Posted.after {es : List (EventKind × Nat × Nat)} {s t u : State} (h : Posted es s t) (events : u.events = t.events)
    (counter : u.counter = t.counter) : Posted es s u := ⟨events.trans h.1, counter.trans h.2⟩

theorem Posted.before {es : List (EventKind × Nat × Nat)} {s t u : State} (h : Posted es t u) (events : t.events = s.events)
    (counter : t.counter = s.counter) : Posted es s u :=
  ⟨h.1.trans (postEach_events events counter es), h.2.trans counter⟩

/-- The MODE_CHANGE of a mode and a cause. -/
def modeEvent (m : Mode) (cause : ModeCause) : EventKind × Nat × Nat := (.modeChange, 0, twoBytes m.code cause.code)

theorem posted_changeMode (m : Mode) (cause : ModeCause) (s : State) : Posted [modeEvent m cause] s (changeMode m cause s) :=
  (posted_post _ _ _ _).before (by simp) (by simp)

theorem posted_startMeter (cause : ModeCause) (s : State) : Posted [modeEvent .startup cause] s (startMeter cause s) :=
  (posted_changeMode .startup cause s).after (by simp [startMeter]) (by simp)

theorem posted_enterDark (cause : ModeCause) (s : State) : Posted [modeEvent .dark cause] s (enterDark cause s) :=
  (posted_changeMode .dark cause s).after (by simp [enterDark]) (by simp)

theorem posted_enterMetering (s : State) : Posted [modeEvent .metering .sequence] s (enterMetering s) :=
  (posted_changeMode .metering .sequence s).after (by simp [enterMetering]) (by simp)

theorem posted_shutdown (cause : ModeCause) (s : State) : Posted [modeEvent .shutdown cause] s (shutdown cause s) :=
  (posted_changeMode .shutdown cause s).after (by simp [shutdown]) (by simp)

theorem posted_returnToMetering (s : State) : Posted [modeEvent .metering .start] s (returnToMetering s) :=
  (posted_changeMode .metering .start s).after (by simp [returnToMetering]) (by simp)

theorem posted_leaveHold (cause : ModeCause) (s : State) : Posted [modeEvent .metering cause] s (leaveHold cause s) :=
  (posted_changeMode .metering cause s).after (by simp [leaveHold]) (by simp)

theorem posted_enterFaultDark (s : State) : Posted [modeEvent .faultDark .meterFault] s (enterFaultDark s) :=
  (posted_changeMode .faultDark .meterFault s).after (by simp [enterFaultDark]) (by simp)

theorem posted_enterManual (s : State) : Posted [modeEvent .manual .manualEntered] s (enterManual s) :=
  (posted_changeMode .manual .manualEntered s).after (by simp [enterManual]) (by simp)

/-! ### What orders to several lanes leave at one -/

/-- Two states agree about a lane: the lane, its drives and its pending aspect, and what its orders go by. -/
structure SameAt (i : Fin 3) (s t : State) : Prop where
  lane : t.lane i = s.lane i
  drive : ∀ c, t.drive (driveOf i c) = s.drive (driveOf i c)
  aspect : t.aspect i = s.aspect i
  mode : t.mode = s.mode
  plans : t.plans = s.plans
  limits : t.limits = s.limits

theorem SameAt.refl (i : Fin 3) (s : State) : SameAt i s s := ⟨rfl, fun _ => rfl, rfl, rfl, rfl, rfl⟩

theorem SameAt.trans {i : Fin 3} {s t u : State} (h : SameAt i s t) (g : SameAt i t u) : SameAt i s u :=
  ⟨g.lane.trans h.lane, fun c => (g.drive c).trans (h.drive c), g.aspect.trans h.aspect, g.mode.trans h.mode,
    g.plans.trans h.plans, g.limits.trans h.limits⟩

theorem SameAt.symm {i : Fin 3} {s t : State} (h : SameAt i s t) : SameAt i t s :=
  ⟨h.lane.symm, fun c => (h.drive c).symm, h.aspect.symm, h.mode.symm, h.plans.symm, h.limits.symm⟩

theorem SameAt.of_acts {i j : Fin 3} {x : Lane} {s t : State} (h : ActsOnLane j x s t) (other : i ≠ j) : SameAt i s t where
  lane := by rw [h.lane, if_neg other]
  drive := h.otherDrive other
  aspect := by rw [State.aspect, h.frame.1, ← State.aspect]
  mode := h.mode
  plans := h.frame.2.1
  limits := h.frame.2.2.1

theorem orderEach_notAt {f : Fin 3 → State → State} {i : Fin 3} (other : ∀ j u, i ≠ j → SameAt i u (f j u)) {l : List (Fin 3)}
    (out : i ∉ l) (s : State) : SameAt i s (orderEach f l s) := by
  induction l generalizing s with
  | nil => exact .refl i s
  | cons j l ih =>
    obtain ⟨ne, out⟩ := not_or.mp (mt List.mem_cons.mpr out)
    exact (other j s ne).trans (ih out _)

/-- Orders given to different lanes leave at each what its own order makes of it. -/
theorem orderEach_at {f : Fin 3 → State → State} {i : Fin 3} (other : ∀ j u, i ≠ j → SameAt i u (f j u)) {l : List (Fin 3)}
    (nodup : l.Nodup) (mem : i ∈ l) (s : State) : ∃ u, SameAt i s u ∧ SameAt i (f i u) (orderEach f l s) := by
  induction l generalizing s with
  | nil => cases mem
  | cons j l ih =>
    obtain ⟨fresh, nodup⟩ := List.nodup_cons.mp nodup
    by_cases here : i = j
    · subst here
      exact ⟨s, .refl i s, orderEach_notAt other fresh _⟩
    · obtain ⟨u, before, after⟩ := ih nodup ((List.mem_cons.mp mem).resolve_left here) (f j s)
      exact ⟨u, (other j s here).trans before, after⟩

theorem rest_other {i : Fin 3} (j : Fin 3) (u : State) (ne : i ≠ j) : SameAt i u (orderRest j u) := .of_acts (actsOnLane_rest j u) ne
theorem stop_other {i : Fin 3} (j : Fin 3) (u : State) (ne : i ≠ j) : SameAt i u (orderStop j u) := .of_acts (actsOnLane_stop j u) ne
theorem clear_other {i : Fin 3} (j : Fin 3) (u : State) (ne : i ≠ j) : SameAt i u (orderClear j u) := .of_acts (actsOnLane_clear j u) ne
theorem cut_other {i : Fin 3} (j : Fin 3) (u : State) (ne : i ≠ j) : SameAt i u (orderCut j u) := .of_acts (actsOnLane_cut j u) ne

/-- The drives of a lane that enters a state, where the drivers are not held off. -/
theorem enterLane_commanded {s : State} (lit : s.mode ≠ .faultDark) (i : Fin 3) (x : Lane) (c : Colour) :
    ((enterLane i x s).drive (driveOf i c)).commanded = commands x.state c := by
  rw [drive_enterLane, if_pos rfl, Drive.command_commanded]
  simp [driverOutput, lit]

/-! ### The standing requests -/

/-- The requests, the resolved request and the run counts are as they were. -/
structure KeepsWish (s t : State) : Prop where
  requests : t.meter.requests = s.meter.requests
  resolved : t.meter.resolved = s.meter.resolved
  onRun : t.meter.onRun = s.meter.onRun
  offRun : t.meter.offRun = s.meter.offRun

theorem KeepsWish.refl (s : State) : KeepsWish s s := ⟨rfl, rfl, rfl, rfl⟩

theorem KeepsWish.trans {s t u : State} (h : KeepsWish s t) (g : KeepsWish t u) : KeepsWish s u :=
  ⟨g.requests.trans h.requests, g.resolved.trans h.resolved, g.onRun.trans h.onRun, g.offRun.trans h.offRun⟩

theorem KeepsWish.of_meter {s t : State} (h : t.meter = s.meter) : KeepsWish s t := by
  refine ⟨?_, ?_, ?_, ?_⟩ <;> rw [h]

theorem KeepsWish.ite {s a b : State} {c : Prop} [Decidable c] (ha : c → KeepsWish s a) (hb : ¬c → KeepsWish s b) :
    KeepsWish s (if c then a else b) := by
  split
  · exact ha ‹_›
  · exact hb ‹_›

theorem keepsWish_enterDark (cause : ModeCause) (s : State) : KeepsWish s (enterDark cause s) := by
  constructor <;> rw [enterDark_meter]

theorem keepsWish_startMeter (cause : ModeCause) (s : State) : KeepsWish s (startMeter cause s) := by
  constructor <;> rw [startMeter_meter]

theorem keepsWish_tryStart (cause : ModeCause) (s : State) : KeepsWish s (tryStart cause s) :=
  .ite (fun _ => keepsWish_startMeter cause s) fun _ => .refl s

theorem keepsWish_enterDarkJudged (cause : ModeCause) (s : State) : KeepsWish s (enterDarkJudged cause s) :=
  (keepsWish_enterDark cause s).trans (.ite (fun _ => keepsWish_tryStart _ _) fun _ => .refl _)

theorem keepsWish_checkStopped (s : State) : KeepsWish s (checkStopped s) :=
  .ite (fun _ => keepsWish_enterDarkJudged _ s) fun _ => .refl s

theorem keepsWish_checkResting (s : State) : KeepsWish s (checkResting s) :=
  .ite (fun _ => ⟨rfl, rfl, rfl, rfl⟩) fun _ => .refl s

theorem keepsWish_interruptStartup (s : State) : KeepsWish s (interruptStartup s) := by
  refine .trans ?_ (keepsWish_checkStopped _)
  constructor <;> simp [State.putPhase]

theorem keepsWish_shutdown (cause : ModeCause) (s : State) : KeepsWish s (shutdown cause s) := by
  refine .trans ?_ (keepsWish_checkResting _)
  constructor <;> simp [State.putPhase, State.putHold]

theorem keepsWish_returnToMetering (s : State) : KeepsWish s (returnToMetering s) := by
  constructor <;> rw [returnToMetering_meter]

theorem keepsWish_leaveHold (cause : ModeCause) (s : State) : KeepsWish s (leaveHold cause s) := by
  constructor <;> rw [leaveHold_meter]

theorem keepsWish_judgeWish (s : State) : KeepsWish s (judgeWish s) := by
  unfold judgeWish
  cases wanted s with
  | start =>
    show KeepsWish s (actOnStart s)
    unfold actOnStart
    cases s.mode with
    | dark => exact keepsWish_tryStart _ s
    | shutdown => exact keepsWish_returnToMetering s
    | startup | metering | hold | manual | faultDark => exact .refl s
  | stop =>
    show KeepsWish s (actOnStop .stop s)
    unfold actOnStop
    cases s.mode with
    | startup => exact .ite (fun _ => .refl s) fun _ => keepsWish_interruptStartup s
    | metering | hold => exact keepsWish_shutdown _ s
    | dark | shutdown | manual | faultDark => exact .refl s
  | neither => exact .refl s

theorem keepsWish_endHold (kind : EventKind) (detail : Nat) (s : State) : KeepsWish s (endHold kind detail s) := by
  unfold endHold
  split
  · exact .ite (fun _ => .trans (.of_meter (by simp)) (keepsWish_leaveHold _ _)) fun _ => .refl s
  · exact .refl s

/-- The wish of the resolved request, by the resolved request and the plan in force alone. -/
theorem wanted_congr {s t : State} (resolved : t.meter.resolved = s.meter.resolved) (plan : t.plans.plan = s.plans.plan) :
    wanted t = wanted s := by
  unfold wanted hasActivation
  rw [resolved, plan]

/-! ### Starts -/

/-- A lane from which a rest order takes it to REST_GREEN at once. -/
def restsAtOnce (st : LaneState) : Prop := st = .off ∨ st = .red ∨ st = .ready

theorem orderRest_atOnce {s : State} {i : Fin 3} (h : restsAtOnce (s.lane i).state) :
    orderRest i s = enterLane i (s.lane i).toRestGreen s := by
  obtain h | h | h := h <;> simp [orderRest, h]

theorem working_congr {s t : State} (plan : t.plans.plan = s.plans.plan) {i : Fin 3} (lane : (t.lane i).state = (s.lane i).state) :
    working t i = working s i := by
  simp [working, isFaulted, lane, enabled, plan]

/-- A start: each working lane that is dark rests in green, the others stay. -/
theorem startMeter_workingLanes (cause : ModeCause) (s : State) :
    workingLanes (commandBeacon true (changeMode .startup cause s)) = workingLanes s :=
  Agreement.workingLanes_congr (by simp) (by simp)

theorem startMeter_notWorking {cause : ModeCause} {s : State} {i : Fin 3} (out : working s i = false) :
    (startMeter cause s).lane i = s.lane i := by
  have same := (orderEach_notAt (f := orderRest) rest_other (l := workingLanes s) (i := i) (by simp [mem_workingLanes, out])
    (commandBeacon true (changeMode .startup cause s))).lane
  rw [lane_commandBeacon, lane_changeMode] at same
  rw [startMeter, startMeter_workingLanes]
  exact same

theorem startMeter_working {cause : ModeCause} {s : State} {i : Fin 3} (on : working s i = true)
    (dark : restsAtOnce (s.lane i).state) :
    (startMeter cause s).lane i = (s.lane i).toRestGreen ∧
      ∀ c, ((startMeter cause s).drive (driveOf i c)).commanded = decide (c = .green) := by
  obtain ⟨u, before, after⟩ := orderEach_at (f := orderRest) rest_other (workingLanes_nodup s)
    ((mem_workingLanes s i).mpr on) (commandBeacon true (changeMode .startup cause s))
  have lane : u.lane i = s.lane i := before.lane.trans (by simp)
  have lit : u.mode ≠ .faultDark := by
    rw [before.mode, State.mode, commandBeacon_meter, changeMode_meter]
    exact fun h => by cases h
  rw [orderRest_atOnce (by rw [lane]; exact dark), lane] at after
  rw [startMeter, startMeter_workingLanes]
  refine ⟨?_, fun c => ?_⟩
  · exact after.lane.trans (by simp)
  · refine (congrArg Drive.commanded (after.drive c)).trans ((enterLane_commanded lit i _ c).trans ?_)
    cases c <;> rfl

theorem orderRest_beacon (i : Fin 3) (s : State) : (orderRest i s).drive beaconDrive = s.drive beaconDrive :=
  (actsOnLane_rest i s).beaconDrive

theorem startMeter_beacon (cause : ModeCause) (s : State) :
    ((startMeter cause s).drive beaconDrive).commanded = true := by
  have kept : ∀ (l : List (Fin 3)) (u : State), (orderEach orderRest l u).drive beaconDrive = u.drive beaconDrive := fun l u =>
    orderEach_keeps (P := fun v => v.drive beaconDrive = u.drive beaconDrive) (fun i _ v h => (orderRest_beacon i v).trans h) rfl
  rw [startMeter, drive_putPhase, kept, drive_commandBeacon, Drive.command_commanded]
  simp [driverOutput]

/-- A meter that starts from dark lanes is a started one. -/
theorem started_startMeter {cause : ModeCause} {s : State} {p : List Byte} (plan : s.plans.plan = some p)
    (dark : ∀ i, working s i = true → restsAtOnce (s.lane i).state) :
    Started p (fun i => working s i = true) (startMeter cause s) := by
  refine ⟨?_, ?_, ?_, ?_, startMeter_beacon cause s, fun i on => ?_⟩
  · rw [State.mode, startMeter_meter]
  · rw [startMeter_meter]
  · rw [startMeter_meter]
    simp [planSeconds, plan]
  · rw [startMeter_meter]
  · obtain ⟨lane, drive⟩ := startMeter_working (cause := cause) on (dark i on)
    exact ⟨by rw [lane]; rfl, by rw [lane]; rfl, drive⟩

@[simp] theorem orderRests_sched_ring (l : List (Fin 3)) (s : State) : (orderEach orderRest l s).sched.ring = s.sched.ring :=
  orderEach_keeps (P := fun v => v.sched.ring = s.sched.ring) (fun i _ v h => (actsOnLane_rest i v).frame.2.2.2.2.2.2.trans h) rfl

theorem startMeter_rate (cause : ModeCause) (s : State) :
    (startMeter cause s).rate = s.rate ∧ (startMeter cause s).sched.ring = s.sched.ring := by
  refine ⟨by simp [startMeter], ?_⟩
  show (orderEach orderRest _ _).sched.ring = _
  rw [orderRests_sched_ring]
  rfl

/-- The start conditions that a standing start finds met. -/
theorem startConditions_iff (s : State) :
    startConditions s = true ↔ s.locked = true ∧ (∃ k, s.plans.active = some k ∧ (s.slot k).status = .valid) ∧
      ∃ i, working s i = true := by
  have lanes : (workingLanes s).isEmpty = false ↔ ∃ i, working s i = true := by
    rw [List.isEmpty_eq_false_iff_exists_mem]
    simp [mem_workingLanes]
  simp only [startConditions, Bool.and_eq_true, Bool.not_eq_true', lanes, and_assoc]
  cases s.plans.active with
  | none => simp
  | some k => simp

end Sys2Proof.Transitions
end

section
/-! A change of the plan in force between closes: what it posts, and what it leaves of the queue floor and of spill; and the
selection of a plan (O29). -/

namespace Sys2Proof.PlanChanges
open Sys2Proof.Machine Sys2Proof.Steps Sys2Proof.Steady Sys2Proof.Holders Sys2Proof.LaneLaws Sys2Proof.Postings
open Sys2Proof.Transitions Sys2Proof.Staging

/-- The event queues of `t` begin with those of `s` after the events of a list, and further posts follow. -/
def Begins (es : List (EventKind × Nat × Nat)) (s t : State) : Prop := ∃ v, Posted es s v ∧ Posts v t

theorem Begins.continue {es : List (EventKind × Nat × Nat)} {s t : State} (h : Begins es s t) :
    EventsContinue (s.postEach es) t := by
  obtain ⟨v, first, more⟩ := h
  exact first.continue.trans more.continue

theorem begins_of_posted {es : List (EventKind × Nat × Nat)} {s t : State} (h : Posted es s t) : Begins es s t := ⟨t, h, .refl t⟩

theorem Begins.after {es fs : List (EventKind × Nat × Nat)} {s t u : State} (h : Posted es s t) (g : Begins fs t u) :
    Begins (es ++ fs) s u := by
  obtain ⟨v, first, more⟩ := g
  exact ⟨v, h.trans first, more⟩

theorem Begins.then {es : List (EventKind × Nat × Nat)} {s t u : State} (h : Begins es s t) (g : Posts t u) : Begins es s u := by
  obtain ⟨v, first, more⟩ := h
  exact ⟨v, first, more.trans g⟩

/-! ### Modes in which no rate is in force -/

/-- A mode in which neither the rate computer nor a hold is at work. -/
def Disengaged (s : State) : Prop := s.mode ≠ .metering ∧ s.mode ≠ .hold

theorem recombine_disengaged {s : State} (h : Disengaged s) : recombine s = s := by
  simp [recombine, engaged, h.1, h.2]

theorem endHold_disengaged {s : State} (h : Disengaged s) (kind : EventKind) (detail : Nat) : endHold kind detail s = s := by
  unfold endHold
  cases s.meter.hold with
  | none => rfl
  | some x => exact if_neg h.2

/-! ### Spill -/

theorem spillOffCase_eq {s : State} {img : List Byte} (plan : s.plans.plan = some img) : spillOffCase s = spillEnds img s := by
  simp only [spillOffCase, spillEnds, plan, countingRuns, List.isEmpty_iff]
  rfl

theorem spillInput_eq {s : State} {img : List Byte} (plan : s.plans.plan = some img) : spillInput s = spillBegins img s := by
  simp only [spillInput, spillBegins, plan, List.head?_filter]
  congr 2
  funext d
  cases (s.input d).run <;> rfl

/-- The event of a spill that ends or begins at a change of plan. -/
def spillPosts (off : Option Nat) (on : Option (Fin 16)) (active : Bool) : List (EventKind × Nat × Nat) :=
  if active then (off.map fun n => (.spillOff, 0, n)).toList else (on.map fun d => (.spillOn, d.val + 1, 0)).toList

theorem posted_spillFalls (b : Bool) (n : Nat) (s : State) : Posted [(.spillOff, 0, n)] s (spillFalls b n s) := by
  have first : Posted [(.spillOff, 0, n)] s ((s.putSpill false).post .spillOff 0 n) := (posted_post _ _ _ _).before (by simp) (by simp)
  unfold spillFalls
  cases b with
  | false => exact first
  | true => exact first.after (by simp) (by simp)

theorem begins_spillRises (b : Bool) (d : Fin 16) (s : State) : Begins [(.spillOn, d.val + 1, 0)] s (spillRises b d s) := by
  have first : Posted [(.spillOn, d.val + 1, 0)] s ((s.putSpill true).post .spillOn (d.val + 1) 0) :=
    (posted_post _ _ _ _).before (by simp) (by simp)
  refine ⟨_, first, ?_⟩
  unfold spillRises
  cases b with
  | false => exact posts_endHold _ _ _
  | true => exact (posts_recombine _).trans (posts_endHold _ _ _)

theorem judgeSpill_cases (b : Bool) (s : State) :
    (s.rate.spillActive = true ∧ spillOffCase s = none ∧ judgeSpill b s = s) ∨
      (∃ n, s.rate.spillActive = true ∧ spillOffCase s = some n ∧ judgeSpill b s = spillFalls b n s) ∨
      (s.rate.spillActive = false ∧ spillInput s = none ∧ judgeSpill b s = s) ∨
      (∃ d, s.rate.spillActive = false ∧ spillInput s = some d ∧ judgeSpill b s = spillRises b d s) := by
  unfold judgeSpill judgeSpillOff judgeSpillOn
  cases s.rate.spillActive <;> cases spillOffCase s <;> cases spillInput s <;> simp

theorem begins_judgeSpill (b : Bool) (s : State) :
    Begins (spillPosts (spillOffCase s) (spillInput s) s.rate.spillActive) s (judgeSpill b s) := by
  obtain ⟨active, off, same⟩ | ⟨n, active, off, falls⟩ | ⟨idle, on, same⟩ | ⟨d, idle, on, rises⟩ := judgeSpill_cases b s
  · rw [active, off, same]
    exact begins_of_posted (.quiet rfl rfl)
  · rw [active, off, falls]
    exact begins_of_posted (posted_spillFalls b n s)
  · rw [idle, on, same]
    exact begins_of_posted (.quiet rfl rfl)
  · rw [idle, on, rises]
    exact begins_spillRises b d s

/-- Where nothing is engaged, spill alone changes, and its event is all that is posted. -/
theorem judgeSpill_disengaged {s : State} (h : Disengaged s) (b : Bool) :
    Posted (spillPosts (spillOffCase s) (spillInput s) s.rate.spillActive) s (judgeSpill b s) ∧
      judgeSpill b s = { s with
        rate := { s.rate with spillActive := if s.rate.spillActive then (spillOffCase s).isNone else (spillInput s).isSome }
        events := (judgeSpill b s).events } := by
  obtain ⟨active, off, same⟩ | ⟨n, active, off, falls⟩ | ⟨idle, on, same⟩ | ⟨d, idle, on, rises⟩ := judgeSpill_cases b s
  · rw [same, active, off]
    exact ⟨.quiet rfl rfl, by rw [if_pos rfl, Option.isNone_none, ← active]⟩
  · have falls : judgeSpill b s = (s.putSpill false).post .spillOff 0 n := by
      rw [falls, spillFalls]
      cases b with
      | false => rfl
      | true => exact recombine_disengaged h
    rw [falls, active, off]
    exact ⟨(posted_post _ _ _ _).before (by simp) (by simp), rfl⟩
  · rw [same, idle, on]
    exact ⟨.quiet rfl rfl, by rw [if_neg (by decide), Option.isSome_none, ← idle]⟩
  · have rises : judgeSpill b s = (s.putSpill true).post .spillOn (d.val + 1) 0 := by
      have out : Disengaged ((s.putSpill true).post .spillOn (d.val + 1) 0) := h
      rw [rises, spillRises]
      cases b with
      | false => exact endHold_disengaged out _ _
      | true => exact (congrArg (endHold _ _) (recombine_disengaged out)).trans (endHold_disengaged out _ _)
    rw [rises, idle, on]
    exact ⟨(posted_post _ _ _ _).before (by simp) (by simp), rfl⟩

/-! ### The queue floor -/

/-- The queue floor after a change of plan, before spill is judged. -/
def floorChanged (s : State) : State :=
  match s.plans.plan with
  | some img => if planQueueGroup img then s else setFloor false 65535 s
  | none => setFloor false 65535 s

theorem planChanged_eq (s : State) : planChanged s = judgeSpill true (floorChanged s) := rfl

/-- Whether the plan in force has a queue group. -/
def hasQueueGroup (s : State) : Bool :=
  match s.plans.plan with
  | some img => planQueueGroup img
  | none => false

theorem floorChanged_of_group {s : State} : floorChanged s = if hasQueueGroup s then s else setFloor false 65535 s := by
  unfold floorChanged hasQueueGroup
  cases s.plans.plan <;> rfl

theorem floorChanged_facts (s : State) :
    Posted (if s.rate.floorActive && !hasQueueGroup s then [(.queueFloorOff, 0, 65535)] else []) s (floorChanged s) ∧
      floorChanged s = { s with rate := { s.rate with floorActive := s.rate.floorActive && hasQueueGroup s },
                                events := (floorChanged s).events } := by
  rw [floorChanged_of_group]
  cases group : hasQueueGroup s with
  | true => simpa using .quiet rfl rfl
  | false =>
    cases active : s.rate.floorActive with
    | false =>
      have same : setFloor false 65535 s = s := if_pos active
      rw [if_neg (by decide), if_neg (by decide), same]
      exact ⟨.quiet rfl rfl, by rw [Bool.false_and, ← active]⟩
    | true =>
      have off : setFloor false 65535 s = (s.putFloor false).post .queueFloorOff 0 65535 := if_neg (by simp [active])
      rw [if_pos (by decide), if_neg (by decide), off]
      exact ⟨(posted_post _ _ _ _).before (by simp) (by simp), rfl⟩

/-! ### A plan applied -/

theorem spillEnds_congr {s t : State} (inputs : t.inputs = s.inputs) (img : List Byte) : spillEnds img t = spillEnds img s := by
  unfold spillEnds State.input
  rw [inputs]

theorem spillBegins_congr {s t : State} (inputs : t.inputs = s.inputs) (img : List Byte) : spillBegins img t = spillBegins img s := by
  unfold spillBegins State.input
  rw [inputs]

theorem posted_applySlot (k : Fin 8) (s : State) :
    Posted [(.planApplied, k.val + 1, planIdentifier (s.slot k).image)] s (applySlot k s) :=
  (posted_post _ _ _ _).before (by simp) (by simp)

/-- The queue floor and the spill that a plan leaves. -/
def plannedRate (img : List Byte) (s : State) : RateComputer :=
  { s.rate with
    floorActive := s.rate.floorActive && planQueueGroup img
    spillActive := if s.rate.spillActive then (spillEnds img s).isNone else (spillBegins img s).isSome }

section Applied
variable (k : Fin 8) (s : State)

theorem floorApplied_plan : (floorChanged (applySlot k s)).plans.plan = some (s.slot k).image := by
  rw [(floorChanged_facts _).2]
  simp [applySlot]

theorem floorApplied_inputs : (floorChanged (applySlot k s)).inputs = s.inputs := by
  rw [(floorChanged_facts _).2]
  simp

theorem floorApplied_rate : (floorChanged (applySlot k s)).rate =
    { s.rate with floorActive := s.rate.floorActive && planQueueGroup (s.slot k).image } := by
  rw [(floorChanged_facts _).2]
  have group : hasQueueGroup (applySlot k s) = planQueueGroup (s.slot k).image := by simp [hasQueueGroup, applySlot]
  simp [group]

theorem posted_floorApplied : Posted ([(.planApplied, k.val + 1, word16At (s.slot k).image 2)] ++
    (if s.rate.floorActive && !planQueueGroup (s.slot k).image then [(.queueFloorOff, 0, 65535)] else [])) s
      (floorChanged (applySlot k s)) := by
  have floor := (floorChanged_facts (applySlot k s)).1
  have group : hasQueueGroup (applySlot k s) = planQueueGroup (s.slot k).image := by simp [hasQueueGroup, applySlot]
  rw [group, (applySlot_frame k s).2.2.2.2.1] at floor
  exact (posted_applySlot k s).trans floor

theorem floorApplied_spillPosts :
    spillPosts (spillOffCase (floorChanged (applySlot k s))) (spillInput (floorChanged (applySlot k s)))
      (floorChanged (applySlot k s)).rate.spillActive =
      spillPosts (spillEnds (s.slot k).image s) (spillBegins (s.slot k).image s) s.rate.spillActive := by
  rw [spillOffCase_eq (floorApplied_plan k s), spillInput_eq (floorApplied_plan k s), floorApplied_rate,
    spillEnds_congr (floorApplied_inputs k s), spillBegins_congr (floorApplied_inputs k s)]

/-- What an applied plan posts first: PLAN_APPLIED, the end of the queue floor, the event of spill. -/
theorem begins_planChanged_applySlot : Begins (planPosts k (s.slot k).image s) s (planChanged (applySlot k s)) := by
  have spill := begins_judgeSpill true (floorChanged (applySlot k s))
  rw [floorApplied_spillPosts] at spill
  exact Begins.after (posted_floorApplied k s) spill

/-- Where nothing is engaged, an applied plan changes the plan, the queue floor and spill, and posts no more. -/
theorem planChanged_applySlot_disengaged (h : Disengaged s) :
    Posted (planPosts k (s.slot k).image s) s (planChanged (applySlot k s)) ∧
      (planChanged (applySlot k s)).rate = plannedRate (s.slot k).image s ∧
      (planChanged (applySlot k s)).meter = s.meter ∧ (planChanged (applySlot k s)).sched = s.sched ∧
      (planChanged (applySlot k s)).drives = s.drives := by
  have meter : (floorChanged (applySlot k s)).meter = s.meter := by rw [(floorChanged_facts _).2]; simp
  have off : Disengaged (floorChanged (applySlot k s)) := by
    rw [Disengaged, State.mode, meter]
    exact h
  obtain ⟨posted, rest⟩ := judgeSpill_disengaged off true
  rw [floorApplied_spillPosts] at posted
  refine ⟨(posted_floorApplied k s).trans posted, ?_, ?_, ?_, ?_⟩
  · rw [planChanged_eq, rest, spillOffCase_eq (floorApplied_plan k s), spillInput_eq (floorApplied_plan k s),
      floorApplied_rate, spillEnds_congr (floorApplied_inputs k s), spillBegins_congr (floorApplied_inputs k s)]
    rfl
  · rw [planChanged_eq, rest]
    exact meter
  · rw [planChanged_eq, rest]
    show (floorChanged (applySlot k s)).sched = s.sched
    rw [(floorChanged_facts _).2]
    simp
  · rw [planChanged_eq, rest]
    show (floorChanged (applySlot k s)).drives = s.drives
    rw [(floorChanged_facts _).2]
    simp

end Applied

/-- A change of the plan leaves the standing requests. -/
theorem keepsWish_judgeSpill (b : Bool) (s : State) : KeepsWish s (judgeSpill b s) := by
  obtain ⟨-, -, same⟩ | ⟨n, -, -, falls⟩ | ⟨-, -, same⟩ | ⟨d, -, -, rises⟩ := judgeSpill_cases b s
  · rw [same]
    exact .refl s
  · rw [falls]
    exact .of_meter (by cases b <;> simp [spillFalls])
  · rw [same]
    exact .refl s
  · rw [rises, spillRises]
    refine .trans (.of_meter ?_) (keepsWish_endHold _ _ _)
    cases b <;> simp

theorem keepsWish_planChanged (s : State) : KeepsWish s (planChanged s) := by
  refine .trans (t := floorChanged s) (.of_meter ?_) (keepsWish_judgeSpill true _)
  rw [(floorChanged_facts s).2]

/-! ### The wish in the modes at rest -/

theorem judgeWish_dark {s : State} (dark : s.mode = .dark) :
    judgeWish s = if wanted s = .start ∧ startConditions s = true then startMeter .start s else s := by
  unfold judgeWish
  cases wanted s <;> simp [actOnStart, actOnStop, tryStart, dark]

theorem judgeWish_still {s : State} (still : s.mode = .manual ∨ s.mode = .faultDark) : judgeWish s = s := by
  unfold judgeWish
  cases wanted s <;> obtain mode | mode := still <;> simp [actOnStart, actOnStop, mode]

/-- In the modes at rest the wish starts the meter, with a MODE_CHANGE of its own, or changes nothing. -/
theorem judgeWish_atRest {s : State} (rest : s.mode = .dark ∨ s.mode = .manual ∨ s.mode = .faultDark) :
    judgeWish s = s ∨ (s.mode = .dark ∧ judgeWish s = startMeter .start s) := by
  obtain dark | still := rest
  · rw [judgeWish_dark dark]
    split
    · exact .inr ⟨dark, rfl⟩
    · exact .inl rfl
  · exact .inl (judgeWish_still still)

/-! ### SELECT PLAN -/

theorem selectPlan_applies {s : State} (k : Fin 8) (now : s.mode = .dark ∨ s.plans.plan = none) :
    selectPlan k s = accept (judgeWish (planChanged (applySlot k s))) [byte (k.val + 1), 0] := by
  have plans : (judgeWish (planChanged (applySlot k s))).plans = (applySlot k s).plans := by simp
  simp only [selectPlan, if_pos now]
  rw [selectReply, plans]
  rfl

theorem selectChecked_of_valid {s : State} {k : Fin 8} (valid : (s.slot k).status = .valid)
    (set : s.mode = .dark ∨ otherLaneSet s (s.slot k).image = false) : selectChecked k s = selectPlan k s := by
  rw [selectChecked, if_neg (by simp [valid])]
  refine if_neg fun ⟨working, other⟩ => ?_
  obtain dark | same := set
  · exact working dark
  · rw [same] at other
    cases other

/-- What an applied selection leaves. -/
theorem selectPlan_applied (k : Fin 8) (r : State) :
    let t := judgeWish (planChanged (applySlot k r))
    let posted := r.postEach (planPosts k (r.slot k).image r)
    t.plans = { r.plans with plan := some (r.slot k).image, active := some k, pendingSlot := none } ∧
      (r.mode = .manual → t.mode = .manual) ∧ t.limits = r.limits ∧ t.locked = r.locked ∧ t.counter = r.counter ∧
      t.records = r.records ∧ t.inputs = r.inputs ∧ t.rate.orders = r.rate.orders ∧
      t.meter.requests = r.meter.requests ∧ t.meter.resolved = r.meter.resolved ∧ EventsContinue posted t ∧
      (r.mode = .dark ∨ r.mode = .manual ∨ r.mode = .faultDark →
        t.rate = plannedRate (r.slot k).image r ∧
        t.events = (if t.mode = r.mode then posted else posted.post .modeChange 0 (1 * 256 + 1)).events) := by
  have orders := ((keeps_planChanged (applySlot k r)).trans (keeps_judgeWish _)).orders
  have wish := (keepsWish_planChanged (applySlot k r)).trans (keepsWish_judgeWish _)
  have restMode : (r.mode = .dark ∨ r.mode = .manual ∨ r.mode = .faultDark) →
      (planChanged (applySlot k r)).mode = r.mode ∧ Disengaged r := fun rest => by
    have off : Disengaged r := by obtain m | m | m := rest <;> simp [Disengaged, m]
    exact ⟨by rw [State.mode, (planChanged_applySlot_disengaged k r off).2.2.1, ← State.mode], off⟩
  refine ⟨by simp [applySlot], fun manual => ?_, by simp, by simp, by simp, by simp, by simp, by simpa using orders,
    by simpa using wish.requests, by simpa using wish.resolved, ?_, fun rest => ?_⟩
  · obtain ⟨mode, -⟩ := restMode (.inr (.inl manual))
    rw [judgeWish_still (.inl (mode.trans manual)), mode, manual]
  · exact (begins_planChanged_applySlot k r).continue.trans (posts_judgeWish _).continue
  · obtain ⟨mode, off⟩ := restMode rest
    obtain ⟨posted, rate, -⟩ := planChanged_applySlot_disengaged k r off
    obtain same | ⟨dark, start⟩ := judgeWish_atRest (s := planChanged (applySlot k r)) (by rw [mode]; exact rest)
    · rw [same, if_pos mode]
      exact ⟨rate, posted.1⟩
    · have started : (startMeter .start (planChanged (applySlot k r))).mode = .startup := by rw [State.mode, startMeter_meter]
      have dark : r.mode = .dark := mode.symm.trans dark
      rw [start, if_neg (by rw [started, dark]; decide), (startMeter_rate _ _).1]
      refine ⟨rate, ?_⟩
      rw [(posted.trans (posted_startMeter .start _)).1, postEach_append]
      rfl

/-- Settles O29: a selection that passes its checks is applied, as `selectPlan_applied` says, or waits. -/
theorem selectPlanAppliesOrWaits : Obligations.SelectPlanAppliesOrWaits := by
  unfold Obligations.SelectPlanAppliesOrWaits
  refine ⟨fun l tag k s steady on => ?_, fun l tag s steady => ⟨fun n out => ?_, fun off k => ?_⟩⟩
  · intro r c
    have plans : r.plans = s.plans := by simp [r]
    have slot : r.slot k = s.slot k := received_slot l false s k
    have handled : requestAnswer c r = selectChecked k r := by
      simp only [requestAnswer, c, Permitted.allows, if_true]
      exact withSlot_present k _ ((received_linkState l l false s).trans on)
    have sameSet : ∀ p, s.plans.plan = some p → (otherLaneSet r (s.slot k).image = false ↔ byteAt (s.slot k).image 1 = byteAt p 1) :=
      fun p plan => by simp [otherLaneSet_eq_false, plans, plan, planLaneSet]
    refine ⟨fun valid now => ?_, fun p valid working plan same => ?_, fun invalid => ?_, fun p valid working plan other => ?_⟩
    · have now' : r.mode = .dark ∨ r.plans.plan = none := by rw [plans]; exact now
      have set : r.mode = .dark ∨ otherLaneSet r (r.slot k).image = false := now'.imp id fun none => by simp [otherLaneSet, none]
      obtain ⟨tplans, manual, limits, locked, counter, records, inputs, orders, requests, resolved, continues, atRest⟩ :=
        selectPlan_applied k r
      have posted : ∀ es, (r.postEach es).events = (s.postEach es).events := postEach_events (by simp [r]) (by simp [r])
      have planned : planPosts k (s.slot k).image r = planPosts k (s.slot k).image s := by
        rw [planPosts, spillEnds_congr (s := s) (by simp [r]), spillBegins_congr (s := s) (by simp [r])]
        simp [planPosts, r]
      refine ⟨_, exec_accepts (c := c) rfl (by simp [c]) steady (handled.trans ((selectChecked_of_valid (by rw [slot]; exact valid)
        set).trans (selectPlan_applies k now'))), ?_⟩
      rw [slot, planned] at continues atRest
      refine ⟨?_, ?_, ?_, ?_, ?_, ?_, ?_, ?_, ?_, ?_, ?_, ?_, fun rest => ?_⟩
      · rw [(answered_frame _ _ _ _ _ _).2.2.2.2.2.2.2.2.1, tplans, slot, plans]
      · rw [answered_link, if_pos rfl]
      · rw [answered_mode]
        exact manual
      · simp [r]
      · simp [r]
      · simp [r]
      · simp [r]
      · simp [r]
      · simpa [r] using orders
      · simpa [r] using requests
      · simpa [r] using resolved
      · intro m
        have := continues m
        rw [posted] at this
        simpa using this
      · obtain ⟨rate, events⟩ := atRest rest
        refine ⟨by simpa [plannedRate, slot, r, spillEnds_congr (s := s) (t := r) (by simp [r]),
          spillBegins_congr (s := s) (t := r) (by simp [r])] using rate, ?_⟩
        rw [(answered_frame _ _ _ _ _ _).2.2.2.2.2.2.2.2.2.2.2.1, events, answered_mode]
        show (if (judgeWish (planChanged (applySlot k r))).mode = s.mode then _ else _ : State).events = _
        split
        · exact posted _
        · exact postEach_events (posted _) (by simp [r]) [(.modeChange, 0, 1 * 256 + 1)]
    · refine exec_accepts (c := c) rfl (by simp [c]) steady (handled.trans ?_)
      rw [selectChecked_of_valid (by rw [slot]; exact valid) (.inr (by rw [slot]; exact (sameSet p plan).mpr same)), selectPlan]
      have waits : ¬ (r.mode = .dark ∨ r.plans.plan = none) := by
        rw [plans, plan]
        exact fun h => h.elim working (by simp)
      simp only [if_neg waits, selectReply]
      rw [State.putPending, plans]
      rfl
    · refine exec_refuses (c := c) rfl (by simp [c]) steady (handled.trans ?_)
      exact if_pos (by rw [slot]; exact invalid)
    · refine exec_refuses (c := c) rfl (by simp [c]) steady (handled.trans ?_)
      have differs : otherLaneSet r (r.slot k).image = true := by
        rw [slot]
        exact otherLaneSet_of_plan (by rw [plans, plan]) other
      exact (if_neg (by rw [slot]; simp [valid])).trans (if_pos ⟨working, differs⟩)
  · refine exec_refusesRange (c := .selectPlan l tag [n]) rfl (by simp) steady ?_
    simp only [requestAnswer, Permitted.allows, if_true]
    exact withSlot_noSlot _ out
  · refine exec_refuses (c := .selectPlan l tag [byte (k.val + 1)]) rfl (by simp) steady ?_
    simp only [requestAnswer, Permitted.allows, if_true]
    exact withSlot_notPresent k _ (by rw [received_linkState, off]; decide)

end Sys2Proof.PlanChanges
end

section
/-! LOCK LIMITS: the slots judged, the plan deselected with its active slot, and the start that stands (O31). -/

namespace Sys2Proof.LockLimits
open Sys2Proof.Machine Sys2Proof.Steps Sys2Proof.Steady Sys2Proof.Holders Sys2Proof.LaneLaws Sys2Proof.Postings
open Sys2Proof.Transitions Sys2Proof.Staging Sys2Proof.PlanChanges

/-! ### The slots judged -/

theorem judgeSlot_eq (k : Fin 8) (s : State) :
    judgeSlot k s = match lockFailure s k with
      | some index => (s.putSlot k { s.slot k with status := .invalid }).post .planInvalid (k.val + 1) index
      | none => s := by
  unfold judgeSlot lockFailure
  split
  · cases imageFailure (timingBounds true s.limits) (s.slot k).image <;> rfl
  · rfl

/-- The PLAN_INVALID of a slot that fails. -/
def invalidPost (s : State) (k : Fin 8) : Option (EventKind × Nat × Nat) :=
  (lockFailure s k).map fun index => (.planInvalid, k.val + 1, index)

/-- What a slot becomes when it is judged. -/
def judgedSlot (s : State) (k : Fin 8) : Slot := if (lockFailure s k).isSome then ⟨.invalid, (s.slot k).image⟩ else s.slot k

theorem lockFailure_congr {s t : State} {k : Fin 8} (slot : t.slot k = s.slot k) (limits : t.limits = s.limits) :
    lockFailure t k = lockFailure s k := by
  unfold lockFailure
  rw [slot, limits]

/-- Only the slots and the events change when a slot is judged, and of the slots only the one judged. -/
structure SlotsAlone (s t : State) : Prop where
  same : t = { s with plans := { s.plans with slots := t.plans.slots }, events := t.events }

theorem SlotsAlone.trans {s t u : State} (h : SlotsAlone s t) (g : SlotsAlone t u) : SlotsAlone s u := by
  refine ⟨?_⟩
  rw [g.same, h.same]

theorem judgeSlot_facts (k : Fin 8) (s : State) :
    SlotsAlone s (judgeSlot k s) ∧ (∀ j, (judgeSlot k s).slot j = if j = k then judgedSlot s k else s.slot j) ∧
      Posted (invalidPost s k).toList s (judgeSlot k s) := by
  rw [judgeSlot_eq]
  unfold invalidPost judgedSlot
  cases lockFailure s k with
  | none => exact ⟨⟨rfl⟩, fun j => by simp +contextual, .quiet rfl rfl⟩
  | some index =>
    refine ⟨⟨rfl⟩, fun j => ?_, (posted_post _ _ _ _).before (by simp) (by simp)⟩
    show (s.putSlot k { s.slot k with status := .invalid }).slot j = _
    rw [slot_putSlot]
    rfl

theorem foldl_judgeSlot {l : List (Fin 8)} (nodup : l.Nodup) (s : State) :
    let t := l.foldl (fun s k => judgeSlot k s) s
    SlotsAlone s t ∧ (∀ j, t.slot j = if j ∈ l then judgedSlot s j else s.slot j) ∧
      Posted (l.filterMap (invalidPost s)) s t := by
  induction l generalizing s with
  | nil => exact ⟨⟨rfl⟩, fun _ => rfl, .quiet rfl rfl⟩
  | cons k l ih =>
    obtain ⟨fresh, nodup⟩ := List.nodup_cons.mp nodup
    obtain ⟨alone, slots, posted⟩ := judgeSlot_facts k s
    obtain ⟨alone', slots', posted'⟩ := ih nodup (judgeSlot k s)
    have limits : (judgeSlot k s).limits = s.limits := by simp
    have other : ∀ j ∈ l, (judgeSlot k s).slot j = s.slot j := fun j hj => by
      rw [slots, if_neg]
      rintro rfl
      exact fresh hj
    have posts : l.filterMap (invalidPost (judgeSlot k s)) = l.filterMap (invalidPost s) :=
      List.filterMap_congr fun j hj => by rw [invalidPost, lockFailure_congr (other j hj) limits, invalidPost]
    refine ⟨alone.trans alone', fun j => ?_, ?_⟩
    · refine (slots' j).trans ?_
      by_cases hj : j ∈ l
      · rw [if_pos hj, if_pos (List.mem_cons_of_mem _ hj), judgedSlot, lockFailure_congr (other j hj) limits, other j hj, judgedSlot]
      · rw [if_neg hj, slots]
        by_cases here : j = k
        · rw [if_pos here, if_pos (by simp [here]), here]
        · rw [if_neg here, if_neg (by simp [here, hj])]
    · rw [posts] at posted'
      have both := posted.trans posted'
      rwa [show (invalidPost s k).toList ++ l.filterMap (invalidPost s) = (k :: l).filterMap (invalidPost s) from by
        rw [List.filterMap_cons]
        cases invalidPost s k <;> rfl] at both

theorem allSlots_nodup : allSlots.Nodup := by decide

theorem mem_allSlots (k : Fin 8) : k ∈ allSlots := by revert k; decide

/-- The slots judged under the lock. -/
theorem slotsJudged_facts (s : State) :
    slotsJudged s = { s with locked := true, plans := { s.plans with slots := (slotsJudged s).plans.slots },
                             events := (slotsJudged s).events } ∧
      (∀ k, (slotsJudged s).slot k = judgedSlot s k) ∧ Posted (allSlots.filterMap (invalidPost s)) s (slotsJudged s) := by
  obtain ⟨alone, slots, posted⟩ := foldl_judgeSlot allSlots_nodup { s with locked := true }
  unfold slotsJudged
  generalize allSlots.foldl (fun s k => judgeSlot k s) { s with locked := true } = t at alone slots posted
  have judged : ∀ k, judgedSlot { s with locked := true } k = judgedSlot s k := fun _ => rfl
  have posts : invalidPost { s with locked := true } = invalidPost s := rfl
  rw [posts] at posted
  exact ⟨alone.same, fun k => by rw [slots, if_pos (mem_allSlots k), judged], posted.before rfl rfl⟩

/-- What the judging of the slots leaves of the other blocks; the pending slot is `pending`. -/
structure LockedFrom (pending : Option (Fin 8)) (s t : State) : Prop where
  inputs : t.inputs = s.inputs
  counter : t.counter = s.counter
  records : t.records = s.records
  rate : t.rate = s.rate
  sched : t.sched = s.sched
  meter : t.meter = s.meter
  drives : t.drives = s.drives
  limits : t.limits = s.limits
  locked : t.locked = true
  plan : t.plans.plan = s.plans.plan
  active : t.plans.active = s.plans.active
  buffer : t.plans.buffer = s.plans.buffer
  claim : t.plans.claim = s.plans.claim
  pending : t.plans.pendingSlot = pending
  slot : ∀ k, t.slot k = judgedSlot s k
  posted : Posted (allSlots.filterMap (invalidPost s)) s t

theorem lockedFrom_of {s t : State} (same : t = { s with locked := true, plans := { s.plans with slots := t.plans.slots }, events := t.events })
    (slot : ∀ k, t.slot k = judgedSlot s k) (posted : Posted (allSlots.filterMap (invalidPost s)) s t) :
    LockedFrom s.plans.pendingSlot s t := by
  constructor
  case slot => exact slot
  case posted => exact posted
  all_goals rw [same]

theorem slotsJudged_lockedFrom (s : State) : LockedFrom s.plans.pendingSlot s (slotsJudged s) :=
  lockedFrom_of (slotsJudged_facts s).1 (slotsJudged_facts s).2.1 (slotsJudged_facts s).2.2

/-! ### The deselected plan -/

theorem recombine_noPlan {s : State} (none : s.plans.plan = none) : recombine s = s := by
  unfold recombine runCombine
  rw [none]
  split <;> rfl

/-- Without a plan the queue floor and spill end, with their events. -/
theorem planChanged_noPlan {s : State} (none : s.plans.plan = none) :
    Posted ((if s.rate.floorActive then [(.queueFloorOff, 0, 65535)] else []) ++
        (if s.rate.spillActive then [(.spillOff, 0, 2)] else [])) s (planChanged s) ∧
      planChanged s = { s with rate := { s.rate with floorActive := false, spillActive := false },
                               events := (planChanged s).events } := by
  have group : hasQueueGroup s = false := by rw [hasQueueGroup, none]
  obtain ⟨floor, rest⟩ := floorChanged_facts s
  rw [group, Bool.not_false, Bool.and_true] at floor
  rw [group, Bool.and_false] at rest
  have plan : (floorChanged s).plans.plan = .none := by rw [rest]; exact none
  have active : (floorChanged s).rate.spillActive = s.rate.spillActive := by rw [rest]
  have off : spillOffCase (floorChanged s) = some 2 := by rw [spillOffCase, plan]
  have on : spillInput (floorChanged s) = .none := by rw [spillInput, plan]
  rw [planChanged_eq]
  obtain ⟨-, never, -⟩ | ⟨n, spill, case, falls⟩ | ⟨idle, -, same⟩ | ⟨d, -, some, -⟩ := judgeSpill_cases true (floorChanged s)
  · rw [off] at never
    cases never
  · obtain rfl : 2 = n := Option.some.inj (off.symm.trans case)
    have falls : judgeSpill true (floorChanged s) = ((floorChanged s).putSpill false).post .spillOff 0 2 := by
      rw [falls]
      exact recombine_noPlan plan
    rw [falls, ← active, spill, if_pos rfl]
    refine ⟨floor.trans ((posted_post _ _ _ _).before (by simp) (by simp)), ?_⟩
    rw [rest]
    rfl
  · rw [same, ← active, idle, if_neg (c := false = true) (by decide), List.append_nil]
    refine ⟨floor, rest.trans ?_⟩
    have spill : s.rate.spillActive = false := active.symm.trans idle
    dsimp only
    rw [spill]
  · rw [on] at some
    cases some

/-! ### The queue floor and spill under a wish -/

/-- The queue floor and spill are as they were. -/
def KeepsFloor (s t : State) : Prop := t.rate.floorActive = s.rate.floorActive ∧ t.rate.spillActive = s.rate.spillActive

theorem KeepsFloor.trans {s t u : State} (h : KeepsFloor s t) (g : KeepsFloor t u) : KeepsFloor s u :=
  ⟨g.1.trans h.1, g.2.trans h.2⟩

theorem KeepsFloor.of_rate {s t : State} (h : t.rate = s.rate) : KeepsFloor s t := by
  constructor <;> rw [h]

theorem keepsFloor_runCombine (entry : Bool) (s : State) : KeepsFloor s (runCombine entry s) := by
  unfold runCombine
  cases s.plans.plan with
  | none => exact ⟨rfl, rfl⟩
  | some plan =>
    dsimp only
    split
    · exact .trans (t := s.putRate (combineOut s.rate s.limits plan (workingLanes s).length)) ⟨rfl, rfl⟩ (.of_rate (by simp))
    · exact ⟨rfl, rfl⟩

theorem keepsFloor_enterDarkJudged (cause : ModeCause) (s : State) : KeepsFloor s (enterDarkJudged cause s) := by
  have dark : KeepsFloor s (enterDark cause s) := by
    constructor <;> simp [enterDark, leaveReleases, disengage]
  refine dark.trans ?_
  show KeepsFloor _ (judgeStart _)
  unfold judgeStart tryStart
  split
  · split
    · exact .of_rate (startMeter_rate _ _).1
    · exact ⟨rfl, rfl⟩
  · exact ⟨rfl, rfl⟩

theorem keepsFloor_judgeWish (s : State) : KeepsFloor s (judgeWish s) := by
  have checkStopped : ∀ u, KeepsFloor u (checkStopped u) := fun u => by
    unfold Machine.checkStopped
    split
    · exact keepsFloor_enterDarkJudged _ u
    · exact ⟨rfl, rfl⟩
  unfold judgeWish
  cases wanted s with
  | start =>
    show KeepsFloor s (actOnStart s)
    unfold actOnStart
    cases s.mode with
    | dark =>
      show KeepsFloor s (tryStart .start s)
      unfold tryStart
      split
      · exact .of_rate (startMeter_rate _ _).1
      · exact ⟨rfl, rfl⟩
    | shutdown =>
      show KeepsFloor s (returnToMetering s)
      unfold returnToMetering entryFromShutdown
      dsimp only
      split
      · exact .of_rate (by simp)
      · refine .trans ?_ (keepsFloor_runCombine true _)
        constructor <;> simp
    | startup | metering | hold | manual | faultDark => exact ⟨rfl, rfl⟩
  | stop =>
    show KeepsFloor s (actOnStop .stop s)
    unfold actOnStop
    cases s.mode with
    | startup =>
      dsimp only
      split
      · exact ⟨rfl, rfl⟩
      · exact .trans (.of_rate (by simp)) (checkStopped _)
    | metering | hold => constructor <;> simp [shutdown, leaveReleases, disengage]
    | dark | shutdown | manual | faultDark => exact ⟨rfl, rfl⟩
  | neither => exact ⟨rfl, rfl⟩

/-! ### LOCK LIMITS -/

/-- A slot that fails the locked limits. -/
def Fails (s : State) (k : Fin 8) : Prop :=
  (s.slot k).status = .valid ∧ imageFailure (timingBounds true s.limits) (s.slot k).image ≠ none

theorem fails_iff (s : State) (k : Fin 8) : (lockFailure s k).isSome = true ↔ Fails s k := by
  unfold lockFailure Fails
  split
  · next h => simp [h, Option.isSome_iff_ne_none]
  · next h => simp [h]

/-- The active slot is INVALID under the locked limits. -/
def Lost (s : State) : Prop := ∃ k, s.plans.active = some k ∧ (Fails s k ∨ (s.slot k).status = .invalid)

theorem judgedSlot_of_fails {s : State} {k : Fin 8} (h : Fails s k) : judgedSlot s k = ⟨.invalid, (s.slot k).image⟩ :=
  if_pos ((fails_iff s k).mpr h)

theorem judgedSlot_of_passes {s : State} {k : Fin 8} (h : ¬ Fails s k) : judgedSlot s k = s.slot k :=
  if_neg (mt (fails_iff s k).mp h)

theorem judgedSlot_invalid (s : State) (k : Fin 8) :
    (judgedSlot s k).status = .invalid ↔ Fails s k ∨ (s.slot k).status = .invalid := by
  by_cases h : Fails s k
  · simp [judgedSlot_of_fails h, h]
  · simp [judgedSlot_of_passes h, h]

/-- The state in which the plan in force is judged: the lock set, the slots and the pending slot judged. -/
def locked (s : State) : State := pendingJudged (slotsJudged s)

theorem slotInvalid_judged {p : Option (Fin 8)} {s t : State} (h : LockedFrom p s t) (k : Option (Fin 8)) :
    slotInvalid t k = true ↔ ∃ j, k = some j ∧ (Fails s j ∨ (s.slot j).status = .invalid) := by
  cases k with
  | none => simp [slotInvalid]
  | some j => simp [slotInvalid, h.slot, judgedSlot_invalid]

/-- The pending slot has become INVALID. -/
def PendingLost (s : State) : Prop := ∃ j, s.plans.pendingSlot = some j ∧ (Fails s j ∨ (s.slot j).status = .invalid)

theorem LockedFrom.pendingJudged {s t : State} (h : LockedFrom s.plans.pendingSlot s t) :
    ∃ p, LockedFrom p s (pendingJudged t) ∧ (PendingLost s → p = none) ∧ (¬ PendingLost s → p = s.plans.pendingSlot) := by
  have invalid : slotInvalid t t.plans.pendingSlot = true ↔ PendingLost s := by
    rw [h.pending]
    exact slotInvalid_judged h _
  unfold Steps.pendingJudged
  by_cases bad : slotInvalid t t.plans.pendingSlot = true
  · rw [if_pos bad]
    refine ⟨none, ?_, fun _ => rfl, fun not => absurd (invalid.mp bad) not⟩
    obtain ⟨inputs, counter, records, rate, sched, meter, drives, limits, lock, plan, active, buffer, claim, -, slot, posted⟩ := h
    exact ⟨inputs, counter, records, rate, sched, meter, drives, limits, lock, plan, active, buffer, claim, rfl, slot, posted⟩
  · rw [if_neg bad]
    exact ⟨_, h, fun lost => absurd (invalid.mpr lost) bad, fun _ => rfl⟩

theorem locked_from (s : State) :
    ∃ p, LockedFrom p s (locked s) ∧ (PendingLost s → p = none) ∧ (¬ PendingLost s → p = s.plans.pendingSlot) :=
  (slotsJudged_lockedFrom s).pendingJudged

theorem slotInvalid_locked (s : State) : slotInvalid (locked s) (locked s).plans.active = true ↔ Lost s := by
  obtain ⟨p, judged, -⟩ := locked_from s
  rw [judged.active]
  exact slotInvalid_judged judged _

/-- LOCK LIMITS leaves the wish judged in this state. -/
def judged (s : State) : State := activeJudged (locked s)

theorem slot_judgeWish (s : State) (k : Fin 8) : (judgeWish s).slot k = s.slot k := by simp [State.slot]

theorem lockLimits_judged (s : State) :
    lockLimits s = accept (judgeWish (judged s)) (allSlots.map fun k => byte ((judgeWish (judged s)).slot k).status.code) := by
  simp only [slot_judgeWish, judged, locked]
  exact lockLimits_eq s

theorem activeJudged_of_kept {s : State} (kept : ¬ slotInvalid s s.plans.active = true) : activeJudged s = s := if_neg kept

theorem judged_of_kept {s : State} (kept : ¬ Lost s) : judged s = locked s := by
  unfold judged
  exact activeJudged_of_kept (mt (slotInvalid_locked s).mp kept)

/-- No plan in force, none active, none pending. -/
def withoutPlan (s : State) : State := { s with plans := { s.plans with plan := none, active := none, pendingSlot := none } }

theorem activeJudged_of_lost {s : State} (lost : slotInvalid s s.plans.active = true) :
    activeJudged s = planChanged (withoutPlan s) := if_pos lost

theorem judged_of_lost {s : State} (lost : Lost s) : judged s = planChanged (withoutPlan (locked s)) := by
  unfold judged
  exact activeJudged_of_lost ((slotInvalid_locked s).mpr lost)

/-- The queue floor and spill of a lost plan. -/
def rateWithoutPlan (r : RateComputer) : RateComputer := { r with floorActive := false, spillActive := false }

/-- The events of a lost plan. -/
def lostPosts (s : State) : List (EventKind × Nat × Nat) :=
  (if s.rate.floorActive then [(.queueFloorOff, 0, 65535)] else []) ++ (if s.rate.spillActive then [(.spillOff, 0, 2)] else [])

/-- A lost plan: none is in force, the queue floor and spill have ended; the other blocks are as the lock leaves them. -/
structure LostFrom (s t : State) : Prop where
  inputs : t.inputs = s.inputs
  counter : t.counter = s.counter
  records : t.records = s.records
  rate : t.rate = rateWithoutPlan s.rate
  sched : t.sched = s.sched
  meter : t.meter = s.meter
  drives : t.drives = s.drives
  limits : t.limits = s.limits
  locked : t.locked = true
  plan : t.plans.plan = none
  active : t.plans.active = none
  buffer : t.plans.buffer = s.plans.buffer
  claim : t.plans.claim = s.plans.claim
  pending : t.plans.pendingSlot = none
  slot : ∀ k, t.slot k = judgedSlot s k
  posted : Posted (allSlots.filterMap (invalidPost s) ++ lostPosts s) s t

theorem LockedFrom.planLost {p : Option (Fin 8)} {s t : State} (h : LockedFrom p s t) : LostFrom s (planChanged (withoutPlan t)) := by
  obtain ⟨posted, shape⟩ := planChanged_noPlan (s := withoutPlan t) rfl
  generalize planChanged (withoutPlan t) = u at posted shape
  have rate : (withoutPlan t).rate = s.rate := h.rate
  rw [rate] at posted
  have same : ∀ {α : Type} (f : State → α), f u = f { withoutPlan t with rate := rateWithoutPlan (withoutPlan t).rate, events := u.events } :=
    fun f => congrArg f shape
  exact {
    inputs := (same State.inputs).trans h.inputs, counter := (same State.counter).trans h.counter
    records := (same State.records).trans h.records, rate := (same State.rate).trans (congrArg rateWithoutPlan rate)
    sched := (same State.sched).trans h.sched, meter := (same State.meter).trans h.meter
    drives := (same State.drives).trans h.drives, limits := (same State.limits).trans h.limits
    locked := (same State.locked).trans h.locked, plan := same fun v => v.plans.plan, active := same fun v => v.plans.active
    buffer := (same fun v => v.plans.buffer).trans h.buffer, claim := (same fun v => v.plans.claim).trans h.claim
    pending := same fun v => v.plans.pendingSlot, slot := fun k => (same fun v => v.slot k).trans (h.slot k)
    posted := h.posted.trans (posted.before rfl rfl) }

theorem lostFrom_judged {s : State} (lost : Lost s) : LostFrom s (judged s) := by
  obtain ⟨p, h, -⟩ := locked_from s
  rw [judged_of_lost lost]
  exact h.planLost

/-- What the judging of the limits leaves of the other blocks, whether or not the plan is lost. -/
theorem judged_blocks (s : State) : (judged s).locked = true ∧ (judged s).limits = s.limits ∧
    (∀ k, (judged s).slot k = judgedSlot s k) ∧ (judged s).plans.buffer = s.plans.buffer ∧
    (judged s).plans.claim = s.plans.claim ∧ (judged s).counter = s.counter ∧ (judged s).records = s.records ∧
    (judged s).inputs = s.inputs ∧ (judged s).meter = s.meter ∧ (judged s).sched = s.sched ∧ (judged s).drives = s.drives := by
  by_cases lost : Lost s
  · have h := lostFrom_judged lost
    exact ⟨h.locked, h.limits, h.slot, h.buffer, h.claim, h.counter, h.records, h.inputs, h.meter, h.sched, h.drives⟩
  · rw [judged_of_kept lost]
    obtain ⟨p, h, -⟩ := locked_from s
    exact ⟨h.locked, h.limits, h.slot, h.buffer, h.claim, h.counter, h.records, h.inputs, h.meter, h.sched, h.drives⟩

/-- A standing start under the lock finds the start conditions exactly where the plan has survived. -/
theorem judged_starts (s : State) :
    (wanted (judged s) = .start ∧ startConditions (judged s) = true) ↔ ¬ Lost s ∧ StartStands s (fun i => working s i = true) := by
  obtain ⟨lock, -, slot, -, -, -, -, -, meter, sched, -⟩ := judged_blocks s
  by_cases lost : Lost s
  · have active : (judged s).plans.active = none := (lostFrom_judged lost).active
    simp [startConditions_iff, active, lost]
  · obtain ⟨p, h, -⟩ := locked_from s
    have plan : (judged s).plans.plan = s.plans.plan := by rw [judged_of_kept lost, h.plan]
    have active : (judged s).plans.active = s.plans.active := by rw [judged_of_kept lost, h.active]
    have works : ∀ i, working (judged s) i = working s i := fun i => working_congr plan (by rw [State.lane, sched, ← State.lane])
    have valid : ∀ k, s.plans.active = some k → ((judgedSlot s k).status = .valid ↔ (s.slot k).status = .valid) := fun k here => by
      have passes : ¬ Fails s k := fun f => lost ⟨k, here, .inl f⟩
      rw [judgedSlot_of_passes passes]
    simp only [startConditions_iff, lock, active, slot, works, wanted_congr (s := s) (t := judged s) (by rw [meter]) plan, lost,
      StartStands, not_false_eq_true, true_and]
    constructor
    · rintro ⟨want, ⟨k, here, ok⟩, lane⟩
      exact ⟨want, ⟨k, here, (valid k here).mp ok⟩, lane⟩
    · rintro ⟨want, ⟨k, here, ok⟩, lane⟩
      exact ⟨want, ⟨k, here, (valid k here).mpr ok⟩, lane⟩

theorem Started.of_blocks {p : List Byte} {takes : Fin 3 → Prop} {s t : State} (h : Started p takes s) (meter : t.meter = s.meter)
    (sched : t.sched = s.sched) (drives : t.drives = s.drives) : Started p takes t := by
  unfold Started State.mode State.drive State.lane
  rw [meter, sched, drives]
  exact h

/-! ### What LOCK LIMITS leaves -/

section Leaves
variable {s : State}

theorem lockLimits_kept (kept : ¬ Lost s) : (judgeWish (judged s)).plans.plan = s.plans.plan ∧
    (judgeWish (judged s)).plans.active = s.plans.active ∧
    (PendingLost s → (judgeWish (judged s)).plans.pendingSlot = none) ∧
    (¬ PendingLost s → (judgeWish (judged s)).plans.pendingSlot = s.plans.pendingSlot) := by
  obtain ⟨p, h, lost, stays⟩ := locked_from s
  have plans : (judgeWish (judged s)).plans = (judged s).plans := by simp
  rw [plans, judged_of_kept kept]
  exact ⟨h.plan, h.active, fun bad => h.pending.trans (lost bad), fun good => h.pending.trans (stays good)⟩

theorem lockLimits_lost (lost : Lost s) : (judgeWish (judged s)).plans.plan = none ∧
    (judgeWish (judged s)).plans.active = none ∧ (judgeWish (judged s)).plans.pendingSlot = none := by
  have h := lostFrom_judged lost
  have plans : (judgeWish (judged s)).plans = (judged s).plans := by simp
  rw [plans]
  exact ⟨h.plan, h.active, h.pending⟩

theorem lockLimits_events :
    EventsContinue (s.postEach (allSlots.filterMap (invalidPost s))) (judgeWish (judged s)) ∧
      (¬ Lost s → wanted s = .neither → (judgeWish (judged s)).events = (s.postEach (allSlots.filterMap (invalidPost s))).events) ∧
      (Lost s → (judgeWish (judged s)).rate.floorActive = false ∧ (judgeWish (judged s)).rate.spillActive = false ∧
        EventsContinue ((s.postEach (allSlots.filterMap (invalidPost s))).postEach (lostPosts s)) (judgeWish (judged s))) := by
  have wish := (posts_judgeWish (judged s)).continue
  refine ⟨?_, fun kept neither => ?_, fun lost => ?_⟩
  · by_cases lost : Lost s
    · have posted := (lostFrom_judged lost).posted.continue
      rw [postEach_append] at posted
      exact (eventsContinue_postEach _ _).trans (posted.trans wish)
    · rw [judged_of_kept lost] at wish ⊢
      obtain ⟨p, h, -⟩ := locked_from s
      exact h.posted.continue.trans wish
  · obtain ⟨p, h, -⟩ := locked_from s
    have same : wanted (judged s) = .neither := by
      rw [judged_of_kept kept, wanted_congr (s := s) (by rw [h.meter]) h.plan, neither]
    rw [judgeWish, same, judged_of_kept kept]
    exact h.posted.1
  · have h := lostFrom_judged lost
    obtain ⟨floor, spill⟩ := keepsFloor_judgeWish (judged s)
    have posted := h.posted.continue
    rw [postEach_append] at posted
    refine ⟨floor.trans ?_, spill.trans ?_, posted.trans wish⟩ <;> rw [h.rate] <;> rfl

/-- From DARK the meter starts where the start stands and the plan has survived, and stays as it is otherwise. -/
theorem lockLimits_dark (dark : s.mode = .dark) :
    (∀ p, s.plans.plan = some p → ¬ Lost s ∧ StartStands s (fun i => working s i = true) →
      (∀ i, (s.lane i).state = .off ∨ (s.lane i).state = .faulted) →
        Started p (fun i => working s i = true) (judgeWish (judged s)) ∧
          (∀ i, working s i = false → (judgeWish (judged s)).lane i = s.lane i) ∧
          (judgeWish (judged s)).events =
            ((s.postEach (allSlots.filterMap (invalidPost s))).post .modeChange 0 (1 * 256 + 1)).events) ∧
      (¬ (¬ Lost s ∧ StartStands s (fun i => working s i = true)) →
        (judgeWish (judged s)).meter = s.meter ∧ ∀ i, (judgeWish (judged s)).lane i = s.lane i) := by
  obtain ⟨-, -, -, -, -, -, -, -, meter, sched, -⟩ := judged_blocks s
  have mode : (judged s).mode = .dark := by rw [State.mode, meter, ← State.mode, dark]
  have lane : ∀ i, (judged s).lane i = s.lane i := fun i => by rw [State.lane, sched, ← State.lane]
  refine ⟨fun p plan starts off => ?_, fun stays => ?_⟩
  · obtain ⟨p, h, -⟩ := locked_from s
    have plan' : (judged s).plans.plan = s.plans.plan := by rw [judged_of_kept starts.1, h.plan]
    have works : ∀ i, working (judged s) i = working s i := fun i => working_congr plan' (by rw [lane])
    rw [judgeWish_dark mode, if_pos ((judged_starts s).mpr starts)]
    have started := started_startMeter (cause := .start) (plan'.trans plan) fun i on => by
      rw [lane]
      refine (off i).elim .inl fun faulted => ?_
      rw [works] at on
      simp [working, isFaulted, faulted] at on
    simp only [works] at started
    refine ⟨started, fun i out => ?_, ?_⟩
    · rw [startMeter_notWorking ((works i).trans out), lane]
    · have posted : Posted (allSlots.filterMap (invalidPost s)) s (judged s) := by rw [judged_of_kept starts.1]; exact h.posted
      rw [(posted.trans (posted_startMeter .start _)).1, postEach_append]
      rfl
  · rw [judgeWish_dark mode, if_neg (mt (judged_starts s).mp stays)]
    exact ⟨meter, lane⟩

end Leaves

/-- Settles O31: the slots are judged one by one (`foldl_judgeSlot`), then the plan in force (`LostFrom`), then the wish. -/
theorem lockLimitsJudgesEverySlot : Obligations.LockLimitsJudgesEverySlot := by
  unfold Obligations.LockLimitsJudgesEverySlot
  intro tag s steady
  refine ⟨fun unlocked => ?_, fun lock => ?_⟩
  · intro fails lost
    have run : requestAnswer (.lockLimits .L tag []) (received .L false s) = lockLimits (received .L false s) := by
      simp only [requestAnswer, Permitted.allows, if_true, withoutPayload_nil]
      exact if_neg (by simpa using unlocked)
    refine ⟨_, exec_accepts (c := .lockLimits .L tag []) rfl (by simp) steady (run.trans (lockLimits_judged _)), ?_⟩
    obtain ⟨r, isR⟩ : ∃ r, r = received .L false s := ⟨_, rfl⟩
    rw [← isR]
    obtain ⟨rlimits, rplans, rmeter, rsched, rrate, revents, rcounter, rrecords, rinputs⟩ :
        r.limits = s.limits ∧ r.plans = s.plans ∧ r.meter = s.meter ∧ r.sched = s.sched ∧ r.rate = s.rate ∧
          r.events = s.events ∧ r.counter = s.counter ∧ r.records = s.records ∧ r.inputs = s.inputs := by
      subst isR
      simp
    have rslot : ∀ k, r.slot k = s.slot k := fun k => by rw [State.slot, rplans, ← State.slot]
    have rlane : ∀ i, r.lane i = s.lane i := fun i => by rw [State.lane, rsched, ← State.lane]
    have rmode : r.mode = s.mode := by rw [State.mode, rmeter, ← State.mode]
    have rfails : ∀ k, Fails r k ↔ fails k := fun k => by rw [Fails, rslot, rlimits]
    have rlost : Lost r ↔ lost := by simp only [Lost, rplans, rfails, rslot, lost]
    have rposts : allSlots.filterMap (invalidPost r) = allSlots.filterMap fun k =>
        (lockFailure s k).map fun index => (.planInvalid, k.val + 1, index) :=
      List.filterMap_congr fun k _ => by rw [invalidPost, lockFailure_congr (rslot k) rlimits]
    have rworks : ∀ i, working r i = working s i := fun i => working_congr (by rw [rplans]) (by rw [rlane])
    have rstarts : StartStands r (fun i => working r i = true) ↔ StartStands s (fun i => working s i = true) := by
      simp only [StartStands, wanted_congr (s := s) (t := r) (by rw [rmeter]) (by rw [rplans]), rplans, rslot, rworks]
    have revents' : ∀ es, (r.postEach es).events = (s.postEach es).events := postEach_events revents rcounter
    have rcontinue : ∀ {es t}, EventsContinue (r.postEach es) t → EventsContinue (s.postEach es) t := fun {es t} h l => by
      have := h l
      rwa [revents'] at this
    obtain ⟨blocked, limits, slots, buffer, claim, counter, records, inputs, -⟩ := judged_blocks r
    have tslot : ∀ k, (answered .L 0x41 tag .accepted (allSlots.map fun k => byte ((judgeWish (judged r)).slot k).status.code)
        (judgeWish (judged r))).slot k = judgedSlot r k := fun k => by rw [answered_slot, slot_judgeWish, slots]
    have tplans : (answered .L 0x41 tag .accepted (allSlots.map fun k => byte ((judgeWish (judged r)).slot k).status.code)
        (judgeWish (judged r))).plans = (judgeWish (judged r)).plans := by simp
    have frame := answered_frame .L 0x41 tag .accepted
      (allSlots.map fun k => byte ((judgeWish (judged r)).slot k).status.code) (judgeWish (judged r))
    have tlane := answered_lane .L 0x41 tag .accepted
      (allSlots.map fun k => byte ((judgeWish (judged r)).slot k).status.code) (judgeWish (judged r))
    have tlink := answered_link .L 0x41 tag .accepted
      (allSlots.map fun k => byte ((judgeWish (judged r)).slot k).status.code) (judgeWish (judged r)) .L
    obtain ⟨tinputs, -, tcounter, trecords, trate, tsched, tmeter, tdrives, -, tlimits, tlocked, tevents, -⟩ := frame
    generalize answered .L 0x41 tag .accepted (allSlots.map fun k => byte ((judgeWish (judged r)).slot k).status.code)
      (judgeWish (judged r)) = t at *
    refine ⟨?_, ?_, fun k => ?_, fun bad => ?_, fun kept => ?_, fun kept k pending passes valid => ?_, fun k pending bad => ?_,
      ?_, ?_, ?_, ?_, ?_, ?_, ?_, ?_⟩
    · rw [tlocked]; simpa using blocked
    · rw [tlimits]; simpa [rlimits] using limits
    · rw [tslot, ← rslot]
      exact ⟨fun bad => judgedSlot_of_fails ((rfails k).mpr bad), fun good => judgedSlot_of_passes (mt (rfails k).mp good)⟩
    · rw [tplans]
      exact lockLimits_lost (rlost.mpr bad)
    · rw [tplans, ← rplans]
      obtain ⟨plan, active, -⟩ := lockLimits_kept (mt rlost.mp kept)
      exact ⟨plan, active⟩
    · rw [tplans, ← pending, ← rplans]
      refine (lockLimits_kept (mt rlost.mp kept)).2.2.2 ?_
      rintro ⟨j, isJ, bad⟩
      obtain rfl : k = j := Option.some.inj ((rplans ▸ pending).symm.trans isJ)
      exact bad.elim (fun f => passes ((rfails k).mp f)) (rslot k ▸ valid)
    · rw [tplans]
      by_cases isLost : Lost r
      · exact (lockLimits_lost isLost).2.2
      · exact (lockLimits_kept isLost).2.2.1 ⟨k, by rw [rplans, pending], .inl ((rfails k).mpr bad)⟩
    · obtain ⟨first, neither, isLost⟩ := lockLimits_events (s := r)
      rw [rposts] at first neither isLost
      have lostSame : lostPosts r = (if s.rate.floorActive then [(.queueFloorOff, 0, 65535)] else []) ++
          (if s.rate.spillActive then [(.spillOff, 0, 2)] else []) := by rw [lostPosts, rrate]
      have same : ∀ {u}, EventsContinue u (judgeWish (judged r)) → EventsContinue u t := fun h l => by rw [tevents]; exact h l
      refine ⟨same (rcontinue first), fun kept none => ?_, fun bad => ?_⟩
      · rw [tevents, neither (mt rlost.mp kept) (by rwa [wanted_congr (s := s) (t := r) (by rw [rmeter]) (by rw [rplans])])]
        exact revents' _
      · obtain ⟨floor, spill, more⟩ := isLost (rlost.mpr bad)
        rw [lostSame, ← postEach_append] at more
        rw [trate, ← postEach_append]
        exact ⟨floor, spill, same (rcontinue more)⟩
    · refine ⟨fun p dark plan starts off => ?_, fun dark stays => ?_⟩
      · obtain ⟨started, others, events⟩ := (lockLimits_dark (rmode.trans dark)).1 p (by rw [rplans, plan])
          ⟨mt rlost.mp starts.1, rstarts.mpr starts.2⟩ (by simpa only [rlane] using off)
        simp only [rworks] at started others
        refine ⟨Started.of_blocks started tmeter tsched tdrives, fun i out => by rw [tlane, others i out, rlane], ?_⟩
        rw [tevents, events, rposts]
        exact postEach_events (revents' _) (by simp [rcounter]) [(.modeChange, 0, 1 * 256 + 1)]
      · obtain ⟨meter, lanes⟩ := (lockLimits_dark (rmode.trans dark)).2
          fun h => stays ⟨mt rlost.mpr h.1, rstarts.mp h.2⟩
        exact ⟨by rw [tmeter, meter, rmeter], fun i => by rw [tlane, lanes, rlane]⟩
    · rw [tplans]; simpa [rplans] using buffer
    · rw [tplans]; simpa [rplans] using claim
    · rw [tcounter]; simpa [rcounter] using counter
    · rw [trecords]; simpa [rrecords] using records
    · rw [tinputs]; simpa [rinputs] using inputs
    · rw [tlink, if_pos rfl]
      simp [tslot, slot_judgeWish, slots]
  · refine exec_refuses (c := .lockLimits .L tag []) rfl (by simp) steady ?_
    simp only [requestAnswer, Permitted.allows, if_true, withoutPayload_nil]
    exact if_pos (by simpa using lock)

end Sys2Proof.LockLimits
end

section
/-! The mode transitions lane by lane: the shutdown, the interrupted startup, the entry to DARK and the return to METERING. -/

namespace Sys2Proof.ModeSteps
open Sys2Proof.Machine Sys2Proof.Steps Sys2Proof.Holders Sys2Proof.LaneLaws Sys2Proof.Postings Sys2Proof.Transitions

/-! ### The scheduler under lane orders -/

/-- The ring, the headway timer and the pending flag are as they were. -/
def KeepsReleases (s t : State) : Prop :=
  t.sched.ring = s.sched.ring ∧ t.sched.elapsed = s.sched.elapsed ∧ t.sched.releasePending = s.sched.releasePending ∧
    t.sched.headway = s.sched.headway

theorem KeepsReleases.refl (s : State) : KeepsReleases s s := ⟨rfl, rfl, rfl, rfl⟩

theorem KeepsReleases.trans {s t u : State} (h : KeepsReleases s t) (g : KeepsReleases t u) : KeepsReleases s u :=
  ⟨g.1.trans h.1, g.2.1.trans h.2.1, g.2.2.1.trans h.2.2.1, g.2.2.2.trans h.2.2.2⟩

theorem keepsReleases_enterLane (i : Fin 3) (x : Lane) (s : State) : KeepsReleases s (enterLane i x s) := by
  have sched : (enterLane i x s).sched = (s.setLane i x).sched := by
    rw [enterLane]
    exact (handLane_frame i x.state (s.setLane i x)).2.2.2.2.2.1
  unfold KeepsReleases
  rw [sched]
  exact ⟨rfl, rfl, rfl, rfl⟩

theorem keepsReleases_acts {i : Fin 3} {x : Lane} {s t : State} (h : ActsOnLane i x s t) : KeepsReleases s t := by
  obtain rfl | ⟨-, rfl⟩ := h
  · exact keepsReleases_enterLane i x s
  · exact ⟨rfl, rfl, rfl, rfl⟩

theorem keepsReleases_orderEach {f : Fin 3 → State → State} (h : ∀ i s, KeepsReleases s (f i s)) (l : List (Fin 3)) (s : State) :
    KeepsReleases s (orderEach f l s) := by
  induction l generalizing s with
  | nil => exact .refl s
  | cons i l ih => exact (h i s).trans (ih _)

/-! ### Which lanes work -/

/-- A function of lanes that neither faults a lane nor ends a fault. -/
def FaultKept (g : Lane → Lane) : Prop := ∀ x, (g x).state = .faulted ↔ x.state = .faulted

theorem faultKept_rest : FaultKept restLane := by
  intro x
  cases h : x.state <;> simp [restLane, h, Lane.toRestGreen]

theorem working_of_lanes {s t : State} (plan : t.plans.plan = s.plans.plan) {i : Fin 3}
    (fault : (t.lane i).state = .faulted ↔ (s.lane i).state = .faulted) : working t i = working s i := by
  have same : isFaulted t i = isFaulted s i := by
    rw [Bool.eq_iff_iff]
    simpa [isFaulted] using fault
  simp [working, enabled, plan, same]

theorem workingLanes_of_lanes {s t : State} (plan : t.plans.plan = s.plans.plan)
    (fault : ∀ i, (t.lane i).state = .faulted ↔ (s.lane i).state = .faulted) : workingLanes t = workingLanes s := by
  simp [workingLanes, fun i => working_of_lanes plan (fault i)]

/-! ### METERING or HOLD to SHUTDOWN -/

/-- SHUTDOWN before the rest orders. -/
def shutdownBegun (cause : ModeCause) (s : State) : State :=
  (leaveReleases ((commandBeacon false (changeMode .shutdown cause s)).putHold none)).putPhase .finishing 0

/-- SHUTDOWN after the rest orders, before the phase is judged. -/
def shutdownOrdered (cause : ModeCause) (s : State) : State := orderEach orderRest (workingLanes s) (shutdownBegun cause s)

theorem shutdownBegun_workingLanes (cause : ModeCause) (s : State) : workingLanes (shutdownBegun cause s) = workingLanes s :=
  Agreement.workingLanes_congr (by simp [shutdownBegun]) (by simp [shutdownBegun])

theorem shutdown_eq (cause : ModeCause) (s : State) : shutdown cause s = checkResting (shutdownOrdered cause s) := by
  rw [shutdownOrdered, ← shutdownBegun_workingLanes cause s]
  rfl

@[simp] theorem lane_checkResting (s : State) (i : Fin 3) : (checkResting s).lane i = s.lane i := by
  unfold checkResting
  split <;> rfl

theorem shutdownOrdered_lane (cause : ModeCause) (s : State) (i : Fin 3) :
    (shutdownOrdered cause s).lane i = if working s i = true then restLane (s.lane i) else s.lane i := by
  rw [shutdownOrdered, lane_orderRests (workingLanes_nodup s)]
  simp [shutdownBegun, mem_workingLanes]

theorem shutdown_lane (cause : ModeCause) (s : State) (i : Fin 3) :
    (shutdown cause s).lane i = if working s i = true then restLane (s.lane i) else s.lane i := by
  rw [shutdown_eq, lane_checkResting, shutdownOrdered_lane]

theorem shutdownOrdered_meter (cause : ModeCause) (s : State) : (shutdownOrdered cause s).meter =
    { s.meter with mode := .shutdown, beacon := false, hold := none, phase := .finishing, seqTimer := 0 } := by
  simp [shutdownOrdered, shutdownBegun, State.putPhase, State.putHold]

theorem shutdownOrdered_working (cause : ModeCause) (s : State) (i : Fin 3) :
    working (shutdownOrdered cause s) i = working s i := by
  refine working_of_lanes (by simp [shutdownOrdered, shutdownBegun]) ?_
  rw [shutdownOrdered_lane]
  split
  · exact faultKept_rest _
  · exact Iff.rfl

theorem allResting_iff (s : State) : allResting s = true ↔ ∀ i, working s i = true → (s.lane i).state = .restGreen := by
  simp [allResting, List.all_eq_true, mem_workingLanes]

/-- The phase of a shutdown: RESTING where every working lane rests, else FINISHING. -/
theorem shutdown_meter (cause : ModeCause) (s : State) :
    (shutdown cause s).mode = .shutdown ∧ (shutdown cause s).meter.beacon = false ∧ (shutdown cause s).meter.hold = none ∧
      ((shutdown cause s).meter.phase = .resting ↔ ∀ i, working s i = true → ((shutdown cause s).lane i).state = .restGreen) ∧
      ((shutdown cause s).meter.phase ≠ .resting →
        (shutdown cause s).meter.phase = .finishing ∧ (shutdown cause s).meter.seqTimer = 0) ∧
      ((shutdown cause s).meter.phase = .resting → (shutdown cause s).meter.seqTimer = planSeconds s planShutdownGreen) := by
  have meter := shutdownOrdered_meter cause s
  have lane : ∀ i, (shutdown cause s).lane i = (shutdownOrdered cause s).lane i := fun i => by rw [shutdown_eq, lane_checkResting]
  have seconds : planSeconds (shutdownOrdered cause s) planShutdownGreen = planSeconds s planShutdownGreen := by
    simp [planSeconds, shutdownOrdered, shutdownBegun]
  have rests : allResting (shutdownOrdered cause s) = true ↔
      ∀ i, working s i = true → ((shutdown cause s).lane i).state = .restGreen := by
    simp only [allResting_iff, shutdownOrdered_working, lane]
  have mode : (shutdownOrdered cause s).mode = .shutdown ∧ (shutdownOrdered cause s).meter.phase = .finishing := by
    rw [State.mode, meter]
    exact ⟨rfl, rfl⟩
  rw [← rests, shutdown_eq, checkResting]
  by_cases resting : allResting (shutdownOrdered cause s) = true
  · rw [if_pos ⟨mode.1, mode.2, resting⟩, ← seconds]
    simp [State.putPhase, State.mode, meter, resting]
  · rw [if_neg fun h => resting h.2.2]
    simp [State.mode, meter, resting]

@[simp] theorem checkResting_sched (s : State) : (checkResting s).sched = s.sched := by
  unfold checkResting
  split <;> rfl

theorem shutdown_rate (cause : ModeCause) (s : State) :
    (shutdown cause s).rate = { s.rate with inForce := none } ∧ (shutdown cause s).sched.ring = [] ∧
      (shutdown cause s).sched.releasePending = false := by
  have releases := keepsReleases_orderEach (fun i u => keepsReleases_acts (actsOnLane_rest i u)) (workingLanes s) (shutdownBegun cause s)
  rw [shutdown_eq, checkResting_sched]
  refine ⟨?_, releases.1, releases.2.2.1⟩
  simp [shutdownOrdered, shutdownBegun, leaveReleases, disengage]

/-! ### The entry to DARK -/

theorem restoreDark_other {i : Fin 3} (j : Fin 3) (u : State) (ne : i ≠ j) : SameAt i u (restoreDark j u) := by
  unfold restoreDark
  split
  · exact .of_acts (.inl rfl) ne
  · exact .refl i u

theorem lane_restoreDark (i : Fin 3) (s : State) :
    (restoreDark i s).lane i = if (s.lane i).state = .faulted then (s.lane i).toOFF else s.lane i := by
  unfold restoreDark isFaulted
  cases h : (s.lane i).state <;> simp

theorem lane_reproveAll (s : State) (i : Fin 3) : (reproveAll s).lane i = s.lane i := rfl

theorem enterDark_lane (cause : ModeCause) (s : State) (i : Fin 3) :
    (enterDark cause s).lane i = if (s.lane i).state = .faulted then (s.lane i).toOFF else s.lane i := by
  obtain ⟨u, before, after⟩ := orderEach_at (f := restoreDark) restoreDark_other allLanes_nodup (mem_allLanes i)
    (Agreement.darkEntered cause s)
  have lane : u.lane i = s.lane i := before.lane.trans (by simp [Agreement.darkEntered])
  have final : (orderEach restoreDark allLanes (Agreement.darkEntered cause s)).lane i =
      if (s.lane i).state = .faulted then (s.lane i).toOFF else s.lane i :=
    after.lane.trans ((lane_restoreDark i u).trans (by rw [lane]))
  rw [Agreement.enterDark_eq, lane_reproveAll, final]

theorem enterDark_off {cause : ModeCause} {s : State} (dark : ∀ i, (s.lane i).state = .off ∨ (s.lane i).state = .faulted) (i : Fin 3) :
    ((enterDark cause s).lane i).state = .off := by
  rw [enterDark_lane]
  obtain off | faulted := dark i
  · rw [if_neg (by rw [off]; decide), off]
  · rw [if_pos faulted]
    rfl

/-- A DARK entered with no start wanted. -/
theorem enterDarkJudged_unwanted {cause : ModeCause} {s : State} (none : wanted s ≠ .start) :
    enterDarkJudged cause s = enterDark cause s := by
  have same : wanted (enterDark cause s) = wanted s := wanted_congr (keepsWish_enterDark cause s).resolved (by simp)
  rw [enterDarkJudged, judgeStart, if_neg (by rw [same]; exact none)]

/-! ### The lengths of the phases that begin -/

section Times
variable {s t : State} (mode : t.mode = s.mode) (limits : t.limits = s.limits) (plan : t.plans.plan = s.plans.plan)
include mode limits plan

theorem amberTime_congr : amberTime t = amberTime s := by
  unfold amberTime planTime
  rw [mode, limits, plan]

end Times

/-- Outside MANUAL the phases last as the plan says. -/
theorem amberTime_plan {s : State} (other : s.mode ≠ .manual) : amberTime s = planTime s planAmber := if_neg other

theorem redTime_plan {s : State} (other : s.mode ≠ .manual) : redTime s = planTime s planRedMin := if_neg other

theorem planTime_congr {s t : State} (plan : t.plans.plan = s.plans.plan) (field : List Byte → Nat) :
    planTime t field = planTime s field := by
  unfold planTime
  rw [plan]

/-! ### The interrupted startup -/

/-- The interrupted startup after the stop orders. -/
def stopOrdered (s : State) : State := orderEach orderStop (litLanes s) ((commandBeacon false s).putPhase .stopping 0)

theorem interruptStartup_eq (s : State) : interruptStartup s = checkStopped (stopOrdered s) := rfl

theorem litLanes_nodup (s : State) : (litLanes s).Nodup := allLanes_nodup.filter _

theorem mem_litLanes (s : State) (i : Fin 3) : i ∈ litLanes s ↔ (s.lane i).state ≠ .off ∧ (s.lane i).state ≠ .faulted := by
  simp [litLanes, mem_allLanes]

/-- What the stop order makes of a lane, with the stop's amber. -/
theorem stopOrdered_lane (s : State) (i : Fin 3) :
    (stopOrdered s).lane i = if i ∈ litLanes s then stopLane (s.limits.greenMin * 10) (amberTime s) (s.lane i) else s.lane i := by
  have amber : amberTime ((commandBeacon false s).putPhase .stopping 0) = amberTime s :=
    amberTime_congr (by simp [State.mode, State.putPhase]) (by simp) (by simp)
  rw [stopOrdered, lane_orderStops (litLanes_nodup s), amber]
  simp

theorem stopOrdered_meter (s : State) : (stopOrdered s).meter = { s.meter with beacon := false, phase := .stopping, seqTimer := 0 } := by
  simp [stopOrdered, State.putPhase]

theorem stopOrdered_drive {s : State} {i : Fin 3} (lit : s.mode ≠ .faultDark)
    (green : (s.lane i).state = .restGreen ∨ (s.lane i).state = .green) (old : s.limits.greenMin * 10 ≤ (s.lane i).age) (c : Colour) :
    ((stopOrdered s).drive (driveOf i c)).commanded = decide (c = .amber) := by
  obtain ⟨u, before, after⟩ := orderEach_at (f := orderStop) stop_other (litLanes_nodup s)
    ((mem_litLanes s i).mpr (by obtain h | h := green <;> simp [h])) ((commandBeacon false s).putPhase .stopping 0)
  have lane : u.lane i = s.lane i := before.lane.trans (by simp)
  have litU : u.mode ≠ .faultDark := by
    rw [before.mode, State.mode]
    simpa [State.putPhase, State.mode] using lit
  have young : belowGreenMin u i = false := by simp [belowGreenMin, lane, before.limits, old]
  have order : orderStop i u = enterLane i ((u.lane i).toAmber (amberTime u) true) u := by
    unfold orderStop
    rw [lane]
    obtain h | h := green <;> simp only [h, young] <;> rfl
  rw [order] at after
  refine (congrArg Drive.commanded (after.drive c)).trans ((enterLane_commanded litU i _ c).trans ?_)
  cases c <;> rfl

theorem checkStopped_lit {s : State} {i : Fin 3} (lit : (s.lane i).state ≠ .off ∧ (s.lane i).state ≠ .faulted) : checkStopped s = s := by
  refine if_neg fun ⟨_, _, dark⟩ => ?_
  obtain off | faulted := (Agreement.allDark_iff s).mp dark i
  · exact lit.1 off
  · exact lit.2 faulted

theorem checkStopped_dark {s : State} (mode : s.mode = .startup) (phase : s.meter.phase = .stopping)
    (dark : ∀ i, (s.lane i).state = .off ∨ (s.lane i).state = .faulted) : checkStopped s = enterDarkJudged .stop s :=
  if_pos ⟨mode, phase, (Agreement.allDark_iff s).mpr dark⟩

theorem stopOrdered_beacon (s : State) : ((stopOrdered s).drive beaconDrive).commanded = false := by
  have kept : ∀ (l : List (Fin 3)) (u : State), (orderEach orderStop l u).drive beaconDrive = u.drive beaconDrive := fun l u =>
    orderEach_keeps (P := fun v => v.drive beaconDrive = u.drive beaconDrive)
      (fun i _ v h => ((actsOnLane_stop i v).beaconDrive).trans h) rfl
  rw [stopOrdered, kept, drive_putPhase, drive_commandBeacon, Drive.command_commanded]
  simp [driverOutput]

/-! ### SHUTDOWN to METERING -/

/-- A lane after the return to METERING. -/
def returnedLane (greenMin amber red : Nat) (x : Lane) : Lane :=
  match x.state with
  | .restGreen => clearLane greenMin amber red x
  | .green | .amber => { x with restAwaits := false }
  | .off | .red | .ready | .faulted => x

theorem actsOnLane_return (i : Fin 3) (s : State) :
    ActsOnLane i (returnedLane (s.limits.greenMin * 10) (amberTime s) (redTime s) (s.lane i)) s (returnLane i s) := by
  cases h : (s.lane i).state <;> simp only [returnLane, returnedLane, h]
  case restGreen => exact actsOnLane_clear i s
  case green | amber => exact .inr ⟨h.symm, by rw [← h]; rfl⟩
  case off | red | ready | faulted => exact .same i s

theorem lane_returnLanes (s : State) (i : Fin 3) : (orderEach returnLane allLanes s).lane i =
    returnedLane (s.limits.greenMin * 10) (amberTime s) (redTime s) (s.lane i) := by
  have each := lane_orderEach (f := returnLane) (E := orderTimes) (g := fun e => returnedLane e.1 e.2.1 e.2.2)
    (fun i s => orderTimes_congr (by simp) (by simp) (by simp)) (fun i s j => (actsOnLane_return i s).lane j) allLanes_nodup s i
  rw [if_pos (mem_allLanes i)] at each
  exact each

theorem faultKept_return (greenMin amber red : Nat) : FaultKept (returnedLane greenMin amber red) := by
  intro x
  cases h : x.state <;> simp only [returnedLane, clearLane, h]
  case restGreen => split <;> simp [h, Lane.toAmber]

/-- The return to METERING before the ring is formed. -/
def returnBegun (s : State) : State :=
  orderEach returnLane allLanes ((commandBeacon true (changeMode .metering .start s)).putPhase .idle 0)

theorem returnToMetering_eq (s : State) : returnToMetering s = entryFromShutdown (formRing (returnBegun s)) := rfl

theorem returnBegun_lane {s : State} (other : s.mode ≠ .manual) (i : Fin 3) :
    (returnBegun s).lane i = returnedLane (s.limits.greenMin * 10) (amberTime s) (redTime s) (s.lane i) := by
  have mode : ((commandBeacon true (changeMode .metering .start s)).putPhase .idle 0).mode ≠ .manual := by
    simp [State.mode, State.putPhase]
  have amber : amberTime ((commandBeacon true (changeMode .metering .start s)).putPhase .idle 0) = amberTime s := by
    rw [amberTime_plan mode, amberTime_plan other]
    exact planTime_congr (by simp) _
  have red : redTime ((commandBeacon true (changeMode .metering .start s)).putPhase .idle 0) = redTime s := by
    rw [redTime_plan mode, redTime_plan other]
    exact planTime_congr (by simp) _
  rw [returnBegun, lane_returnLanes, amber, red]
  simp

theorem returnBegun_workingLanes {s : State} (other : s.mode ≠ .manual) : workingLanes (returnBegun s) = workingLanes s :=
  workingLanes_of_lanes (by simp [returnBegun]) fun i => by
    rw [returnBegun_lane other]
    exact faultKept_return _ _ _ _

/-- The rate computer with the stored feedback value clamped to a plan. -/
def clampedRate (p : List Byte) (s : State) : RateComputer := { s.rate with rFb := max (planRMin p) (min s.rate.rFb (planRMax p)) }

/-- An entry computation hands its H over; where the headway timer is below it, no release is due. -/
theorem runCombine_entry {s : State} {p : List Byte} (plan : s.plans.plan = some p)
    (early : s.sched.elapsed < (combineOut s.rate s.limits p (workingLanes s).length).headway) :
    runCombine true s = (s.putRate (combineOut s.rate s.limits p (workingLanes s).length)).setHeadway
      (combineOut s.rate s.limits p (workingLanes s).length).headway := by
  unfold runCombine
  rw [plan]
  simp only [Bool.true_or, if_true]
  obtain ⟨-, handed⟩ | ⟨-, -, late, -⟩ := handHeadway_cases (combineOut s.rate s.limits p (workingLanes s).length).headway
      (s.putRate (combineOut s.rate s.limits p (workingLanes s).length))
  · exact handed
  · exact absurd late (Nat.not_le.mpr early)

theorem lane_formRing (i : Fin 3) (s : State) : (formRing s).lane i = s.lane i := rfl

theorem workingLanes_formRing (s : State) : workingLanes (formRing s) = workingLanes s := rfl

/-- A ring formed anew: the working lanes, the headway timer from 0 and no release pending (R73). -/
theorem formRing_sched (s : State) :
    (formRing s).sched = { s.sched with ring := workingLanes s, elapsed := 0, releasePending := false } := rfl

theorem returnToMetering_facts {s : State} {p : List Byte} (other : s.mode ≠ .manual) (plan : s.plans.plan = some p)
    (early : 1 ≤ (combineOut (clampedRate p s) s.limits p (workingLanes s).length).headway) :
    let o := combineOut (clampedRate p s) s.limits p (workingLanes s).length
    (∀ i, (returnToMetering s).lane i = returnedLane (s.limits.greenMin * 10) (amberTime s) (redTime s) (s.lane i)) ∧
      (returnToMetering s).sched.ring = workingLanes s ∧ (returnToMetering s).sched.elapsed = 0 ∧
      (returnToMetering s).sched.releasePending = false ∧ (returnToMetering s).sched.headway = o.headway ∧
      (returnToMetering s).rate = { clampedRate p s with inForce := some o, rPrev := o.rate } := by
  intro o
  have plan' : (formRing (returnBegun s)).plans.plan = some p := by simp [returnBegun, plan]
  have rate : (formRing (returnBegun s)).rate = s.rate := by simp [returnBegun]
  have limits : (formRing (returnBegun s)).limits = s.limits := by simp [returnBegun]
  have lanes : workingLanes (formRing (returnBegun s)) = workingLanes s := by
    rw [workingLanes_formRing, returnBegun_workingLanes other]
  have lane : ∀ i, (formRing (returnBegun s)).lane i = (returnBegun s).lane i := fun i => lane_formRing i _
  have ring : (formRing (returnBegun s)).sched.ring = workingLanes s := by rw [formRing_sched, returnBegun_workingLanes other]
  have elapsed : (formRing (returnBegun s)).sched.elapsed = 0 ∧ (formRing (returnBegun s)).sched.releasePending = false := by
    rw [formRing_sched]
    exact ⟨rfl, rfl⟩
  rw [returnToMetering_eq, entryFromShutdown, plan']
  simp only [← returnBegun_lane other, ← lane]
  generalize formRing (returnBegun s) = u at *
  have out : combineOut { u.rate with rFb := max (planRMin p) (min u.rate.rFb (planRMax p)) } u.limits p (workingLanes u).length = o := by
    rw [rate, limits, lanes]
    rfl
  have run := runCombine_entry (s := { u with rate := { u.rate with rFb := max (planRMin p) (min u.rate.rFb (planRMax p)) } }) plan'
    (by rw [show workingLanes { u with rate := { u.rate with rFb := max (planRMin p) (min u.rate.rFb (planRMax p)) } } = workingLanes u from rfl, out, elapsed.1]
        exact early)
  rw [show workingLanes { u with rate := { u.rate with rFb := max (planRMin p) (min u.rate.rFb (planRMax p)) } } = workingLanes u from rfl, out] at run
  rw [run]
  refine ⟨fun _ => rfl, ring, elapsed.1, elapsed.2, rfl, ?_⟩
  simp only [State.setHeadway, State.putRate, rate]
  rfl

end Sys2Proof.ModeSteps
end

section
/-! The resolved request: how it is formed, what forms it, and what leaves it (O32). -/

namespace Sys2Proof.Requests
open Sys2Proof.Machine Sys2Proof.Steps Sys2Proof.Steady Sys2Proof.Holders Sys2Proof.LaneLaws Sys2Proof.AbsentLinks
open Sys2Proof.Transitions Sys2Proof.PlanChanges Sys2Proof.Payloads

/-! ### What leaves the standing requests -/

theorem keepsWish_checkCleared (s : State) : KeepsWish s (checkCleared s) := by
  refine .ite (fun _ => ?_) fun _ => .refl s
  constructor <;> rw [enterMetering_meter]

theorem keepsWish_advanceSequence (s : State) : KeepsWish s (advanceSequence s) :=
  ((keepsWish_checkCleared s).trans (keepsWish_checkStopped _)).trans (keepsWish_checkResting _)

theorem keepsWish_workOnce (i : Fin 3) (s : State) : KeepsWish s (workOnce i s) := by
  unfold workOnce
  split
  · exact .refl s
  · split
    · exact .of_meter (by simp)
    · exact .of_meter (by simp)
    · exact .of_meter (by simp)
    · exact ⟨rfl, rfl, rfl, rfl⟩
    · exact .refl s

theorem keepsWish_workLane (i : Fin 3) (s : State) : KeepsWish s (workLane i s) :=
  .ite (fun _ => keepsWish_workOnce i s) fun _ => (keepsWish_workOnce i s).trans (keepsWish_workOnce i _)

theorem keepsWish_afterLaneChange (i : Fin 3) (s : State) : KeepsWish s (afterLaneChange i s) :=
  .ite (fun _ => keepsWish_workLane i s) fun _ => keepsWish_advanceSequence s

theorem keepsWish_judgeHeld (i : Fin 3) (s : State) : KeepsWish s (judgeHeld i s) :=
  .ite (fun _ => (KeepsWish.of_meter (by simp)).trans (keepsWish_afterLaneChange i _)) fun _ => .refl s

theorem keepsWish_orderEach {f : Fin 3 → State → State} (h : ∀ i s, KeepsWish s (f i s)) (l : List (Fin 3)) (s : State) :
    KeepsWish s (orderEach f l s) := by
  induction l generalizing s with
  | nil => exact .refl s
  | cons i l ih => exact (h i s).trans (ih _)

theorem keepsWish_endManual (cause : ModeCause) (s : State) : KeepsWish s (endManual cause s) := by
  refine .trans ?_ (keepsWish_enterDarkJudged cause _)
  constructor <;> simp [clearAspects]

theorem keepsWish_removeOrder (l : LinkId) (kind : EventKind) (s : State) : KeepsWish s (removeOrder l kind s) :=
  .of_meter (by unfold removeOrder; split <;> simp)

theorem keepsWish_withdrawHold (l : LinkId) (s : State) : KeepsWish s (withdrawHold l s) := by
  unfold withdrawHold
  split
  · exact .ite (fun _ => keepsWish_endHold _ _ _) fun _ => .refl s
  · exact .refl s

theorem keepsWish_withdrawManual (l : LinkId) (s : State) : KeepsWish s (withdrawManual l s) :=
  .ite (fun _ => keepsWish_endManual _ s) fun _ => .refl s

/-- Before the request of an ABSENT link is withdrawn, the standing requests are as they were. -/
theorem keepsWish_released (l : LinkId) (s : State) :
    KeepsWish s (releaseClaim l (withdrawManual l (withdrawHold l (removeOrder l .orderWithdrawn s)))) :=
  (((keepsWish_removeOrder l .orderWithdrawn s).trans (keepsWish_withdrawHold l _)).trans (keepsWish_withdrawManual l _)).trans
    (.of_meter (by simp))

/-! ### How the resolved request is formed -/

/-- The resolved request by the two links' wishes, with none the fallback. -/
theorem resolution_eq (s : State) : resolution s = ((linkWish s .L).or (linkWish s .C)).getD
    (if present s .L || present s .C then .off else match s.limits.absentFallback with
      | .shutdown => .off
      | .continue => s.meter.resolved) := by
  unfold resolution
  cases linkWish s .L <;> cases linkWish s .C <;> rfl

theorem formResolved_resolved (s : State) : (formResolved s).meter.resolved = resolution s := by
  unfold formResolved
  split
  · next same => exact same.symm
  · rfl

theorem formResolved_runs (s : State) :
    (resolution s ≠ s.meter.resolved → (formResolved s).meter.onRun = 0 ∧ (formResolved s).meter.offRun = 0) ∧
      (resolution s = s.meter.resolved → (formResolved s).meter.onRun = s.meter.onRun ∧
        (formResolved s).meter.offRun = s.meter.offRun) := by
  unfold formResolved
  refine ⟨fun changed => ?_, fun same => ?_⟩
  · rw [if_neg changed]
    exact ⟨rfl, rfl⟩
  · rw [if_pos same]
    exact ⟨rfl, rfl⟩

theorem formResolved_requests (s : State) : (formResolved s).meter.requests = s.meter.requests := by
  unfold formResolved
  split <;> rfl

theorem resolve_runs (s : State) : (resolve s).meter.resolved = resolution s ∧
    (resolution s ≠ s.meter.resolved → (resolve s).meter.onRun = 0 ∧ (resolve s).meter.offRun = 0) ∧
    (resolution s = s.meter.resolved → (resolve s).meter.onRun = s.meter.onRun ∧ (resolve s).meter.offRun = s.meter.offRun) := by
  obtain ⟨-, resolved, onRun, offRun⟩ := keepsWish_judgeWish (formResolved s)
  obtain ⟨changed, same⟩ := formResolved_runs s
  rw [resolve, resolved, onRun, offRun, formResolved_resolved]
  exact ⟨rfl, changed, same⟩

theorem resolve_requests (s : State) : (resolve s).meter.requests = s.meter.requests := by
  rw [resolve, (keepsWish_judgeWish _).requests, formResolved_requests]

/-! ### Closes -/

/-- A close leaves the resolved request. -/
theorem resolved_placeWaiting (s : State) : (placeWaiting s).meter.resolved = s.meter.resolved := by
  unfold placeWaiting
  cases s.counter.waiting with
  | none => rfl
  | some w =>
    refine (keepsWish_judgeWish _).resolved.trans ?_
    have auto : KeepsWish (placeRecord w.record s) (actOnAuto w (placeRecord w.record s)) := by
      unfold actOnAuto
      refine .ite (fun _ => .ite (fun _ => keepsWish_tryStart _ _) fun _ => .ite (fun _ => ?_) fun _ => .refl _) fun _ => .refl _
      split
      · exact keepsWish_shutdown _ _
      · exact keepsWish_shutdown _ _
      all_goals exact .refl _
    exact auto.resolved.trans (by simp)

theorem resolved_blocksAtClose (cause : Cause) (next : Nat) (s : State) :
    (blocksAtClose cause next s).meter.resolved = s.meter.resolved := by
  have runs : ∀ om u, (runsAtClose om u).meter.resolved = u.meter.resolved := fun om u => by
    unfold runsAtClose
    (repeat' split) <;> rfl
  have plan : ∀ u, (planAtClose u).meter.resolved = u.meter.resolved := fun u => by
    unfold planAtClose
    cases u.plans.pendingSlot with
    | none => rfl
    | some k =>
      dsimp only
      generalize (u.mode == .dark || _) = applies
      cases applies with
      | false => rfl
      | true => exact (keepsWish_judgeSpill _ _).resolved.trans (by simp)
  have rate : ∀ dets u, (rateAtClose dets u).meter = u.meter := fun dets u => by simp
  unfold blocksAtClose
  rw [runs, rate, plan]
  simp

theorem resolved_closeInterval (cause : Cause) (next : Nat) (s : State) :
    (closeInterval cause next s).meter.resolved = s.meter.resolved := by
  rw [closeInterval_eq, putWaiting, resolved_blocksAtClose, resolved_placeWaiting]

theorem resolved_closes (s : State) : (closeFreeRun (closeTimed s)).meter.resolved = s.meter.resolved := by
  have timed : (closeTimed s).meter.resolved = s.meter.resolved := by
    unfold closeTimed
    split
    · exact resolved_closeInterval _ _ s
    · rfl
  refine .trans ?_ timed
  unfold closeFreeRun
  split
  · exact resolved_closeInterval _ _ _
  · rfl

/-! ### REQUEST METERING -/

theorem activationOf_code (a : Activation) : activationOf (byteAt [byte a.code] 0) = some a := by cases a <;> rfl

theorem activationOf_none {b : Byte} (h : 3 < b.toNat) : activationOf (byteAt [b] 0) = none := by
  show activationOf b.toNat = none
  generalize b.toNat = n at h
  match n, h with
  | 0, h | 1, h | 2, h | 3, h => omega
  | n + 4, _ => rfl

/-- The request of a PRESENT link. -/
theorem requestAnswer_metering {l : LinkId} {s : State} (tag : Byte) (a : Activation) (on : (s.link l).state = .present) :
    requestAnswer (.requestMetering l tag [byte a.code]) s = requestMetering l a s := by
  simp only [requestAnswer, Permitted.allows, if_true]
  refine (withLength_of_eq (show [byte a.code].length = 1 from rfl) _).trans ?_
  rw [activationOf_code]
  exact whenPresent_of_present _ on

theorem exec_requestMetering {l : LinkId} {s : State} (tag : Byte) (a : Activation) (steady : SteadyFrame l false s)
    (on : (s.link l).state = .present) :
    exec (.requestMetering l tag [byte a.code]) s = .next (answered l 0x20 tag .accepted
      [byte (resolve (putRequest l a (received l false s))).meter.resolved.code,
       byte (resolve (putRequest l a (received l false s))).mode.code] (resolve (putRequest l a (received l false s)))) :=
  exec_accepts (c := .requestMetering l tag [byte a.code]) rfl (by simp) steady
    (requestAnswer_metering tag a ((received_linkState l l false s).trans on))

/-- What a request leaves at the site and at the other link. -/
theorem keepsSite_resolve {l : LinkId} {a : Activation} {s : State} (tag : Byte) (p : List Byte) :
    KeepsSite s (answered l 0x20 tag .accepted p (resolve (putRequest l a (received l false s)))) := by
  simp [KeepsSite]

theorem received_other {l m : LinkId} (other : m ≠ l) (k : Bool) (s : State) : (received l k s).link m = s.link m := by
  rw [received, link_setLink, if_neg other]

theorem answered_keepsLink {l m : LinkId} {kind tag : Byte} {status : Status} {p : List Byte} {s t : State} (other : m ≠ l)
    (link : t.link m = s.link m) : KeepsLink m s (answered l kind tag status p t) := by
  rw [KeepsLink, answered_link, if_neg other, link]

theorem link_resolve (a : Activation) (l m : LinkId) (s : State) : (resolve (putRequest l a s)).link m = s.link m := by
  simp [State.link]

theorem rate_orders_resolve (l : LinkId) (a : Activation) (s : State) : (resolve (putRequest l a s)).rate.orders = s.rate.orders :=
  (keeps_resolve _).orders

/-- The wish of a link by its state and its request. -/
theorem linkWish_eq (s : State) (m : LinkId) :
    linkWish s m = if (s.link m).state = .present then resolvedBy (s.meter.requests.get m) else none := by
  simp [linkWish, present]

/-! ### The violation that makes a link ABSENT -/

/-- A violation at the configured count. -/
theorem violate_absent {l : LinkId} {code : Nat} {s : State} (last : (s.link l).count ≤ (s.link l).violations + 1) :
    violate l code s = becomeAbsent l ((s.setLink l { s.link l with violations := (s.link l).violations + 1, window := 0 }).post
      .supervisionViolation (linkNumber l) (twoBytes code ((s.link l).violations + 1))) := by
  have count : (((s.setLink l { s.link l with violations := (s.link l).violations + 1, window := 0 }).post
      .supervisionViolation (linkNumber l) (twoBytes code ((s.link l).violations + 1))).link l).count = (s.link l).count := by
    cases l <;> rfl
  unfold violate
  dsimp only
  rw [count, if_pos last]

theorem lateEffect_due {l : LinkId} {s : State} (on : (s.link l).state = .present) (hi : (s.link l).tHi ≠ 0)
    (late : (s.link l).tHi * 10 ≤ (s.link l).window) : eventEffect (.lateViolation l) s = violate l 2 s := by
  simp [eventEffect, lateDue, present, on, hi, late]

/-- The resolved request that a link leaves as it becomes ABSENT. -/
theorem becomeAbsent_resolved {l m : LinkId} (other : m ≠ l) (s : State) :
    (becomeAbsent l s).meter.requests.get l = .none ∧
      (let resolved := if (s.link m).state = .present then (resolvedBy (s.meter.requests.get m)).getD .off
        else if s.limits.absentFallback = .shutdown then .off else s.meter.resolved
       (becomeAbsent l s).meter.resolved = resolved ∧
        (resolved ≠ s.meter.resolved → (becomeAbsent l s).meter.onRun = 0 ∧ (becomeAbsent l s).meter.offRun = 0) ∧
        (resolved = s.meter.resolved → (becomeAbsent l s).meter.onRun = s.meter.onRun ∧
          (becomeAbsent l s).meter.offRun = s.meter.offRun)) := by
  have wish : KeepsWish s (releaseClaim l (withdrawManual l (withdrawHold l (removeOrder l .orderWithdrawn (markedAbsent l s))))) :=
    .trans (.of_meter (by simp [markedAbsent])) (keepsWish_released l _)
  have limits : (standingWithdrawn l (markedAbsent l s)).limits = s.limits := by simp [standingWithdrawn, markedAbsent]
  have link : ∀ k, ((standingWithdrawn l (markedAbsent l s)).link k).state = if k = l then .absent else (s.link k).state := fun k => by
    have links : (standingWithdrawn l (markedAbsent l s)).links = (s.setLink l { s.link l with state := .absent }).links := by
      simp [standingWithdrawn, markedAbsent]
    rw [State.link, links, ← State.link, link_setLink]
    split <;> rfl
  have requests : ∀ k, (standingWithdrawn l (markedAbsent l s)).meter.requests.get k = if k = l then .none else s.meter.requests.get k :=
    fun k => by rw [standingWithdrawn, putRequest, PerLink.get_set, wish.requests]
  have resolved : (standingWithdrawn l (markedAbsent l s)).meter.resolved = s.meter.resolved := wish.resolved
  have runs : (standingWithdrawn l (markedAbsent l s)).meter.onRun = s.meter.onRun ∧
      (standingWithdrawn l (markedAbsent l s)).meter.offRun = s.meter.offRun := ⟨wish.onRun, wish.offRun⟩
  obtain ⟨is, changed, same⟩ := resolve_runs (standingWithdrawn l (markedAbsent l s))
  rw [becomeAbsent_eq, resolve_requests, requests, if_pos rfl]
  generalize standingWithdrawn l (markedAbsent l s) = t at *
  have formed : resolution t = if (s.link m).state = .present then (resolvedBy (s.meter.requests.get m)).getD .off
      else if s.limits.absentFallback = .shutdown then .off else s.meter.resolved := by
    rw [resolution_eq, linkWish_eq, linkWish_eq, present, present, link, link, requests, requests, limits, resolved]
    by_cases here : (s.link m).state = .present
    · cases l <;> cases m <;> simp_all
    · cases fallback : s.limits.absentFallback <;> cases l <;> cases m <;> simp_all
  rw [formed] at is
  rw [formed, resolved] at changed same
  rw [runs.1, runs.2] at same
  exact ⟨rfl, is, changed, same⟩

/-! ### WRITE LIMITS with another absent_fallback -/

theorem writeLimits_resolved {p : List Byte} {s : State} (changed : (limitsOf p).absentFallback ≠ s.limits.absentFallback)
    (absent : ∀ l, (s.link l).state ≠ .present) :
    (writeLimits p s).state.meter.resolved =
        (if (limitsOf p).absentFallback = .shutdown then .off else s.meter.resolved) ∧
      ((writeLimits p s).state.meter.resolved ≠ s.meter.resolved →
        (writeLimits p s).state.meter.onRun = 0 ∧ (writeLimits p s).state.meter.offRun = 0) := by
  have resolved : (closeFreeRun (closeTimed { s with limits := limitsOf p })).meter.resolved = s.meter.resolved := resolved_closes _
  have limits : (closeFreeRun (closeTimed { s with limits := limitsOf p })).limits = limitsOf p := by simp
  have link : ∀ l, ((closeFreeRun (closeTimed { s with limits := limitsOf p })).link l).state = (s.link l).state := fun l => by
    have links : (closeFreeRun (closeTimed { s with limits := limitsOf p })).links = s.links := by simp
    rw [State.link, links, ← State.link]
  rw [writeLimits_eq, accept_state, fallbackJudged, if_pos (by simpa using changed.symm)]
  generalize closeFreeRun (closeTimed { s with limits := limitsOf p }) = t at *
  obtain ⟨-, after, onRun, offRun⟩ := keepsWish_orderEach keepsWish_judgeHeld allLanes (resolve t)
  obtain ⟨is, resets, -⟩ := resolve_runs t
  have formed : resolution t = if (limitsOf p).absentFallback = .shutdown then .off else s.meter.resolved := by
    rw [resolution_eq, linkWish_eq, linkWish_eq, present, present, link, link, limits, resolved]
    cases fallback : (limitsOf p).absentFallback <;> simp [absent]
  rw [after, onRun, offRun, is]
  rw [formed, resolved] at resets
  rw [formed]
  exact ⟨rfl, resets⟩

/-- Settles O32: the resolved request is formed by `resolution` at a request, at the end of a link's presence and at a change
of absent_fallback. -/
theorem requestMeteringIsHeldAndResolved : Obligations.RequestMeteringIsHeldAndResolved := by
  unfold Obligations.RequestMeteringIsHeldAndResolved
  refine ⟨fun l tag s steady => ⟨fun a on => ?_, fun off a => ?_, fun b big => ?_⟩, fun l m s other on hi late last => ?_,
    fun tag m s steady unlocked ok changed absent => ?_⟩
  · refine ⟨_, exec_requestMetering tag a steady on, ?_, ?_, ?_, ?_, ?_, keepsSite_resolve tag _, ?_, fun m other => ?_⟩
    · simp [resolve_requests, putRequest]
    · have requests : ∀ m, (putRequest l a (received l false s)).meter.requests.get m = (s.meter.requests.set l a).get m := fun m => by
        simp [putRequest]
      have state : ∀ m, ((putRequest l a (received l false s)).link m).state = (s.link m).state :=
        fun m => received_linkState l m false s
      have here : present (putRequest l a (received l false s)) .L || present (putRequest l a (received l false s)) .C := by
        simp only [present, state]
        cases l <;> simp [on]
      rw [(answered_frame _ _ _ _ _ _).2.2.2.2.2.2.1, (resolve_runs _).1, resolution_eq, if_pos here, linkWish_eq, linkWish_eq, requests,
        requests, state, state]
    · simpa [(resolve_runs _).1, putRequest] using (resolve_runs (putRequest l a (received l false s))).2.1
    · simpa [(resolve_runs _).1, putRequest] using (resolve_runs (putRequest l a (received l false s))).2.2
    · rw [answered_link, if_pos rfl]
      simp
    · simp [rate_orders_resolve]
    · exact answered_keepsLink other (by rw [link_resolve, received_other other])
  · refine exec_refuses (c := .requestMetering l tag [byte a.code]) rfl (by simp) steady ?_
    simp only [requestAnswer, Permitted.allows, if_true]
    refine (withLength_of_eq (show [byte a.code].length = 1 from rfl) _).trans ?_
    rw [activationOf_code]
    exact whenPresent_of_not _ (by rw [received_linkState, off]; decide)
  · refine exec_refusesRange (c := .requestMetering l tag [b]) rfl (by simp) steady ?_
    simp only [requestAnswer, Permitted.allows, if_true]
    refine (withLength_of_eq (show [b].length = 1 from rfl) _).trans ?_
    rw [activationOf_none big]
    rfl
  · rw [exec_event (c := .lateViolation l) rfl, lateEffect_due on hi late, violate_absent last]
    obtain ⟨u, isU, meter, limits, link⟩ : ∃ u, u = (s.setLink l { s.link l with
        violations := (s.link l).violations + 1, window := 0 }).post .supervisionViolation (linkNumber l)
          (twoBytes 2 ((s.link l).violations + 1)) ∧ u.meter = s.meter ∧ u.limits = s.limits ∧ u.link m = s.link m :=
      ⟨_, rfl, by simp, by simp, (link_setLink s l m _).trans (if_neg other)⟩
    obtain ⟨none, resolved, changed, same⟩ := becomeAbsent_resolved other u
    rw [meter, link, limits] at resolved changed same
    rw [← isU]
    have frame : (becomeAbsent l u).judgeLines.meter = (becomeAbsent l u).meter := by simp
    refine ⟨_, rfl, ?_, ?_, ?_, ?_⟩ <;> rw [frame]
    · exact none
    · exact resolved
    · exact fun differs => changed (resolved ▸ differs)
    · exact fun equal => same (resolved ▸ equal)
  · obtain ⟨pass, reads⟩ := limitsPayload_fields ok
    have run : requestAnswer (.writeLimits .L tag (limitsPayload m)) (received .L false s) =
        writeLimits (limitsPayload m) (received .L false s) := by
      simp only [requestAnswer, Permitted.allows, if_true]
      exact (if_neg (by simpa using unlocked)).trans
        ((withLength_of_eq (show (limitsPayload m).length = 16 from rfl) _).trans (withFields_of_pass pass _))
    refine ⟨_, exec_steady (c := .writeLimits .L tag (limitsPayload m)) rfl (by simp) steady run, ?_⟩
    have := writeLimits_resolved (p := limitsPayload m) (s := received .L false s) (by rw [reads]; simpa using changed)
      (fun l => by rw [received_linkState]; exact absent l)
    rw [reads] at this
    simpa using this

end Sys2Proof.Requests
end

section
/-! Starts and stops that a request of Link L brings about in the modes at work: from DARK, from METERING and HOLD, in
STARTUP, and from SHUTDOWN (O33, O34, O35). -/

namespace Sys2Proof.Activations
open Sys2Proof.Machine Sys2Proof.Steps Sys2Proof.Steady Sys2Proof.Holders Sys2Proof.LaneLaws Sys2Proof.Postings
open Sys2Proof.Transitions Sys2Proof.PlanChanges Sys2Proof.Staging Sys2Proof.ModeSteps Sys2Proof.Requests

/-- The state in which a request of Link L is judged. -/
def requested (a : Activation) (s : State) : State := formResolved (putRequest .L a (received .L false s))

/-- Forming the resolved request touches the resolved request and the run counts alone. -/
theorem formResolved_eq (s : State) : ∃ on off, formResolved s = { s with
    meter := { s.meter with resolved := resolution s, onRun := on, offRun := off } } := by
  unfold formResolved
  split
  · next same => exact ⟨s.meter.onRun, s.meter.offRun, by rw [same]⟩
  · exact ⟨0, 0, rfl⟩

/-- What a request leaves as it was before its wish is judged, and the request resolved. -/
structure RequestedFrom (s u : State) : Prop where
  mode : u.mode = s.mode
  phase : u.meter.phase = s.meter.phase
  hold : u.meter.hold = s.meter.hold
  rate : u.rate = s.rate
  sched : u.sched = s.sched
  drives : u.drives = s.drives
  plans : u.plans = s.plans
  limits : u.limits = s.limits
  locked : u.locked = s.locked
  events : u.events = s.events
  counter : u.counter = s.counter

theorem requestedFrom (a : Activation) (s : State) : RequestedFrom s (requested a s) := by
  obtain ⟨on, off, is⟩ := formResolved_eq (putRequest .L a (received .L false s))
  rw [requested, is]
  constructor <;> rfl

theorem RequestedFrom.lane {s u : State} (h : RequestedFrom s u) (i : Fin 3) : u.lane i = s.lane i := by
  rw [State.lane, h.sched, ← State.lane]

theorem RequestedFrom.slot {s u : State} (h : RequestedFrom s u) (k : Fin 8) : u.slot k = s.slot k := by
  rw [State.slot, h.plans, ← State.slot]

theorem RequestedFrom.working {s u : State} (h : RequestedFrom s u) (i : Fin 3) : Machine.working u i = Machine.working s i :=
  working_congr (by rw [h.plans]) (by rw [h.lane])

theorem RequestedFrom.workingLanes {s u : State} (h : RequestedFrom s u) : Machine.workingLanes u = Machine.workingLanes s := by
  simp [Machine.workingLanes, h.working]

theorem RequestedFrom.posted {s u t : State} (h : RequestedFrom s u) {es : List (EventKind × Nat × Nat)} (p : Posted es u t) :
    t.events = (s.postEach es).events := (p.before h.events h.counter).1

theorem requested_resolved {s : State} (on : (s.link .L).state = .present) {a : Activation} {r : Resolved} (is : resolvedBy a = some r) :
    (requested a s).meter.resolved = r := by
  rw [requested, formResolved_resolved, resolution_eq, linkWish_eq]
  have state : ((putRequest .L a (received .L false s)).link .L).state = .present := (received_linkState .L .L false s).trans on
  have mine : (putRequest .L a (received .L false s)).meter.requests.get .L = a := by simp [putRequest]
  rw [if_pos state, mine, is]
  rfl

theorem wanted_on {s : State} (on : (s.link .L).state = .present) : wanted (requested .on s) = .start := by
  rw [wanted, requested_resolved on rfl]

theorem wanted_off {s : State} (on : (s.link .L).state = .present) : wanted (requested .off s) = .stop := by
  rw [wanted, requested_resolved on rfl]

/-- The reply of a request that leaves `t`. -/
theorem exec_request_leaves {a : Activation} {s t : State} {r : Resolved} {m : Mode} (tag : Byte) (steady : SteadyFrame .L false s)
    (on : (s.link .L).state = .present) (leaves : judgeWish (requested a s) = t) (is : resolvedBy a = some r) (mode : t.mode = m) :
    exec (.requestMetering .L tag [byte a.code]) s = .next (answered .L 0x20 tag .accepted [byte r.code, byte m.code] t) := by
  have same : resolve (putRequest .L a (received .L false s)) = t := leaves
  have resolved : t.meter.resolved = r := by
    rw [← leaves, (keepsWish_judgeWish _).resolved, requested_resolved on is]
  rw [exec_requestMetering tag a steady on, same, resolved, mode]

/-- What a judged request keeps of the site and of Link C. -/
theorem keeps_leaves {a : Activation} {s t : State} (tag : Byte) (p : List Byte) (leaves : judgeWish (requested a s) = t) :
    KeepsSite s (answered .L 0x20 tag .accepted p t) ∧ KeepsLink .C s (answered .L 0x20 tag .accepted p t) := by
  subst leaves
  refine ⟨keepsSite_resolve tag p, answered_keepsLink (by decide) ?_⟩
  exact (link_resolve a .L .C (received .L false s)).trans (received_other (by decide) false s)

theorem answered_events (l : LinkId) (kind tag : Byte) (status : Status) (p : List Byte) (s : State) :
    (answered l kind tag status p s).events = s.events := by simp

/-! ### DARK to STARTUP -/

theorem working_iff {s : State} {p : List Byte} (plan : s.plans.plan = some p) (i : Fin 3) :
    working s i = true ↔ planEnables p i = true ∧ (s.lane i).state ≠ .faulted := by
  simp [working, enabled, isFaulted, plan]

/-- Settles O33: the wish of a request ON in DARK, where the start conditions stand and where one fails. -/
theorem aStartTakesDarkToStartup : Obligations.AStartTakesDarkToStartup := by
  unfold Obligations.AStartTakesDarkToStartup
  intro tag s steady on dark
  have from_s := requestedFrom .on s
  have mode : (requested .on s).mode = .dark := from_s.mode.trans dark
  refine ⟨fun p k locked active valid plan off lane => ?_, fun fails => ?_⟩
  · have works := working_iff plan
    have conditions : startConditions (requested .on s) = true := by
      refine (startConditions_iff _).mpr ⟨from_s.locked.trans locked, ⟨k, by rw [from_s.plans, active], by rw [from_s.slot, valid]⟩, ?_⟩
      obtain ⟨i, ok⟩ := lane
      exact ⟨i, by rw [from_s.working, works]; exact ok⟩
    have leaves : judgeWish (requested .on s) = startMeter .start (requested .on s) := by
      rw [judgeWish_dark mode, if_pos ⟨wanted_on on, conditions⟩]
    have plan' : (requested .on s).plans.plan = some p := by rw [from_s.plans, plan]
    have started := started_startMeter (cause := .start) plan' fun i ok => by
      rw [from_s.lane]
      refine (off i).elim .inl fun faulted => ?_
      rw [from_s.working, works] at ok
      exact absurd faulted ok.2
    obtain ⟨tmode, phase, timer, beacon, drive, lanes⟩ := started
    have resolved : (startMeter .start (requested .on s)).meter.resolved = .on := by
      rw [(keepsWish_startMeter _ _).resolved, requested_resolved on rfl]
    obtain ⟨rate, ring⟩ := startMeter_rate .start (requested .on s)
    obtain ⟨site, other⟩ := keeps_leaves tag [byte Resolved.on.code, byte Mode.startup.code] leaves
    have run := exec_request_leaves tag steady on leaves rfl tmode
    refine ⟨_, run, ?_, ?_, ?_, ?_, ?_, ?_, fun i ok => ?_, fun i out => ?_, ?_, site,
      other, ?_, ?_, ?_⟩
    · simpa using tmode
    · simpa using phase
    · simpa using beacon
    · simpa using drive
    · simpa using timer
    · simpa using resolved
    · obtain ⟨state, age, drives⟩ := lanes i ((from_s.working i).trans ((works i).mpr ok))
      simp only [answered_lane, answered_drive, drives]
      exact ⟨state, age, rfl, rfl, rfl⟩
    · rw [answered_lane, startMeter_notWorking, from_s.lane]
      rw [from_s.working]
      simpa using mt (works i).mp out
    · rw [answered_link, if_pos rfl]
      rfl
    · simpa [rate] using from_s.rate
    · simpa [ring] using congrArg Scheduler.ring from_s.sched
    · exact (answered_events _ _ _ _ _ _).trans (from_s.posted (posted_startMeter .start (requested .on s)))
  · have leaves : judgeWish (requested .on s) = requested .on s := by
      rw [judgeWish_dark mode, if_neg]
      rintro ⟨-, conditions⟩
      obtain ⟨locked, ⟨k, active, valid⟩, i, lane⟩ := (startConditions_iff _).mp conditions
      rw [from_s.locked] at locked
      rw [from_s.plans] at active
      rw [from_s.slot] at valid
      rw [from_s.working] at lane
      obtain unlocked | none | ⟨j, here, invalid⟩ | faulted := fails
      · rw [unlocked] at locked
        cases locked
      · rw [none] at active
        cases active
      · obtain rfl : k = j := Option.some.inj (active.symm.trans here)
        exact invalid valid
      · simp only [working, isFaulted, Bool.and_eq_true, Bool.not_eq_true', beq_eq_false_iff_ne] at lane
        exact lane.2 (faulted i lane.1)
    have run := exec_request_leaves tag steady on leaves rfl mode
    have state : requested .on s = formResolved { received .L false s with
        meter := { s.meter with requests := s.meter.requests.set .L .on } } := rfl
    rw [state] at run
    exact run

/-! ### METERING or HOLD to SHUTDOWN -/

theorem judgeWish_stop_running {s : State} (stop : wanted s = .stop) (mode : s.mode = .metering ∨ s.mode = .hold) :
    judgeWish s = shutdown .stop s := by
  unfold judgeWish
  rw [stop]
  obtain m | m := mode <;> simp [actOnStop, m]

theorem judgeWish_stop_startup {s : State} (stop : wanted s = .stop) (mode : s.mode = .startup) (phase : s.meter.phase ≠ .stopping) :
    judgeWish s = interruptStartup s := by
  unfold judgeWish
  rw [stop]
  simp [actOnStop, mode, phase]

theorem judgeWish_start_shutdown {s : State} (start : wanted s = .start) (mode : s.mode = .shutdown) :
    judgeWish s = returnToMetering s := by
  unfold judgeWish
  rw [start]
  simp [actOnStart, mode]

/-- A rest order to a lane of a working cycle. -/
theorem restLane_cases (x : Lane) :
    (x.state = .red ∨ x.state = .ready → (restLane x).state = .restGreen) ∧
      (x.state = .green ∨ x.state = .amber → restLane x = { x with held := none, restAwaits := true }) := by
  refine ⟨fun h => ?_, fun h => ?_⟩ <;> obtain h | h := h <;> simp [restLane, h, Lane.toRestGreen]

/-- What the stop order makes of a lane in each state. -/
theorem stopLane_cases (greenMin amber : Nat) (x : Lane) :
    ((x.state = .restGreen ∨ x.state = .green) → greenMin ≤ x.age → stopLane greenMin amber x = x.toAmber amber true) ∧
      ((x.state = .restGreen ∨ x.state = .green) → x.age < greenMin → stopLane greenMin amber x = { x with held := some .stop }) ∧
      (x.state = .amber → stopLane greenMin amber x = { x with toOff := true }) ∧
      ((x.state = .red ∨ x.state = .ready) → stopLane greenMin amber x = x.toOFF) := by
  refine ⟨fun h old => ?_, fun h young => ?_, fun h => ?_, fun h => ?_⟩
  · obtain h | h := h <;> simp [stopLane, h, Nat.not_lt.mpr old]
  · obtain h | h := h <;> simp [stopLane, h, young]
  · simp [stopLane, h]
  · obtain h | h := h <;> simp [stopLane, h]

/-- An interrupted startup in which some lane shows a colour goes on. -/
theorem interruptStartup_lit {s : State} {i : Fin 3}
    (lit : (s.lane i).state = .restGreen ∨ (s.lane i).state = .green ∨ (s.lane i).state = .amber) :
    interruptStartup s = stopOrdered s := by
  rw [interruptStartup_eq]
  refine checkStopped_lit (i := i) ?_
  have mem : i ∈ litLanes s := (mem_litLanes s i).mpr (by obtain h | h | h := lit <;> simp [h])
  rw [stopOrdered_lane, if_pos mem]
  obtain h | h | h := lit <;> simp only [stopLane, h] <;> (try split) <;> simp [Lane.toAmber, h]

/-- An interrupted startup in which no lane shows green or amber ends in DARK. -/
theorem interruptStartup_dark {s : State} (mode : s.mode = .startup)
    (dark : ∀ i, (s.lane i).state = .red ∨ (s.lane i).state = .ready ∨ (s.lane i).state = .off ∨ (s.lane i).state = .faulted) :
    interruptStartup s = enterDarkJudged .stop (stopOrdered s) ∧
      ∀ i, ((stopOrdered s).lane i).state = .off ∨ ((stopOrdered s).lane i).state = .faulted := by
  have off : ∀ i, ((stopOrdered s).lane i).state = .off ∨ ((stopOrdered s).lane i).state = .faulted := fun i => by
    rw [stopOrdered_lane]
    by_cases lit : i ∈ litLanes s
    · rw [if_pos lit]
      obtain ⟨notOff, notFaulted⟩ := (mem_litLanes s i).mp lit
      have red : (s.lane i).state = .red ∨ (s.lane i).state = .ready := by
        obtain h | h | h | h := dark i
        · exact .inl h
        · exact .inr h
        · exact absurd h notOff
        · exact absurd h notFaulted
      rw [(stopLane_cases _ _ _).2.2.2 red]
      exact .inl rfl
    · rw [if_neg lit]
      by_contra h
      exact lit ((mem_litLanes s i).mpr (not_or.mp h))
  refine ⟨?_, off⟩
  rw [interruptStartup_eq]
  have meter := stopOrdered_meter s
  exact checkStopped_dark (by rw [State.mode, meter]; exact mode) (by rw [meter]) off

theorem planSeconds_of_plan {s : State} {p : List Byte} (plan : s.plans.plan = some p) (field : List Byte → Nat) :
    planSeconds s field = field p * 100 := by rw [planSeconds, plan]

theorem planTime_of_plan {s : State} {p : List Byte} (plan : s.plans.plan = some p) (field : List Byte → Nat) :
    planTime s field = field p * 10 := by rw [planTime, plan]

theorem stopped_in_running {s : State} (tag : Byte) (steady : SteadyFrame .L false s) (on : (s.link .L).state = .present)
    (mode : s.mode = .metering ∨ s.mode = .hold) :
    ∃ t, exec (.requestMetering .L tag [2]) s = .next t ∧ t.mode = .shutdown ∧ t.meter.beacon = false ∧
      t.meter.hold = none ∧ t.rate.inForce = none ∧ t.rate.rFb = s.rate.rFb ∧ t.rate.rPrev = s.rate.rPrev ∧
      t.rate.orders = s.rate.orders ∧ t.sched.ring = [] ∧ t.sched.releasePending = false ∧
      (t.meter.phase = .resting ↔ ∀ i, working s i = true → (t.lane i).state = .restGreen) ∧
      (t.meter.phase ≠ .resting → t.meter.phase = .finishing ∧ t.meter.seqTimer = 0) ∧
      (∀ p, s.plans.plan = some p → t.meter.phase = .resting → t.meter.seqTimer = planShutdownGreen p * 100) ∧
      (∀ i, working s i = true → (s.lane i).state = .red ∨ (s.lane i).state = .ready → (t.lane i).state = .restGreen) ∧
      (∀ i, working s i = true → (s.lane i).state = .green ∨ (s.lane i).state = .amber →
        t.lane i = { s.lane i with held := none, restAwaits := true }) ∧
      (∀ i, working s i = false → t.lane i = s.lane i) ∧
      (t.link .L).lastReply = ⟨0x20, tag, .accepted, [2, 4]⟩ ∧ KeepsSite s t ∧ KeepsLink .C s t ∧
      t.events = (s.post .modeChange 0 (4 * 256 + 3)).events := by
  have from_s := requestedFrom .off s
  have leaves : judgeWish (requested .off s) = shutdown .stop (requested .off s) :=
    judgeWish_stop_running (wanted_off on) (by rw [from_s.mode]; exact mode)
  obtain ⟨tmode, beacon, hold, resting, finishing, timer⟩ := shutdown_meter .stop (requested .off s)
  obtain ⟨rate, ring, pending⟩ := shutdown_rate .stop (requested .off s)
  have lane := fun i => shutdown_lane .stop (requested .off s) i
  simp only [from_s.working, from_s.lane] at lane resting
  have posted := from_s.posted (posted_shutdown .stop (requested .off s))
  have run := exec_request_leaves tag steady on leaves rfl tmode
  obtain ⟨site, other⟩ := keeps_leaves tag [byte Resolved.off.code, byte Mode.shutdown.code] leaves
  have seconds : ∀ p, s.plans.plan = some p → planSeconds (requested .off s) planShutdownGreen = planShutdownGreen p * 100 :=
    fun p plan => planSeconds_of_plan (by rw [from_s.plans, plan]) _
  rw [from_s.rate] at rate
  refine ⟨_, run, ?_⟩
  simp only [answered_mode, answered_frame, answered_lane, rate, ring, pending, beacon, hold, Capabilities.answered_lastReply]
  refine ⟨tmode, trivial, trivial, trivial, trivial, trivial, trivial, trivial, trivial, resting, finishing, fun p plan rest => ?_, fun i works red => ?_,
    fun i works green => ?_, fun i out => ?_, rfl, site, other, posted⟩
  · exact (timer rest).trans (seconds p plan)
  · rw [lane, if_pos works]
    exact (restLane_cases _).1 red
  · rw [lane, if_pos works]
    exact (restLane_cases _).2 green
  · rw [lane, if_neg (by simp [out])]

/-- Settles O34: the stop of a request OFF in the modes at work and in STARTUP. -/
theorem aStopTakesMeteringToShutdown : Obligations.AStopTakesMeteringToShutdown := by
  unfold Obligations.AStopTakesMeteringToShutdown
  refine ⟨fun tag s steady on mode => stopped_in_running tag steady on mode, fun tag p s steady on mode phase plan => ?_⟩
  have from_s := requestedFrom .off s
  have umode : (requested .off s).mode = .startup := from_s.mode.trans mode
  have notStopping : (requested .off s).meter.phase ≠ .stopping := by
    rw [from_s.phase]
    obtain h | h := phase <;> rw [h] <;> decide
  have interrupted := judgeWish_stop_startup (wanted_off on) umode notStopping
  have amber : amberTime (requested .off s) = planAmber p * 10 := by
    rw [amberTime_plan (by rw [umode]; decide), planTime_of_plan (by rw [from_s.plans, plan])]
  have lane := stopOrdered_lane (requested .off s)
  have lit := mem_litLanes (requested .off s)
  rw [amber, from_s.limits] at lane
  simp only [from_s.lane] at lane lit
  refine ⟨fun ⟨i, shows⟩ => ?_, fun dark => ?_⟩
  · have leaves := interrupted.trans (interruptStartup_lit (i := i) (by rw [from_s.lane]; exact shows))
    have meter := stopOrdered_meter (requested .off s)
    have tmode : (stopOrdered (requested .off s)).mode = .startup := by rw [State.mode, meter]; exact umode
    have run := exec_request_leaves tag steady on leaves rfl tmode
    obtain ⟨site, other⟩ := keeps_leaves tag [byte Resolved.off.code, byte Mode.startup.code] leaves
    have drive := fun i => stopOrdered_drive (s := requested .off s) (i := i) (by rw [umode]; decide)
    have beacon := stopOrdered_beacon (requested .off s)
    have rate : (stopOrdered (requested .off s)).rate = s.rate := by rw [← from_s.rate]; simp [stopOrdered]
    have events : (stopOrdered (requested .off s)).events = s.events := by rw [← from_s.events]; simp [stopOrdered]
    simp only [from_s.lane, from_s.limits] at drive
    generalize stopOrdered (requested .off s) = t at *
    refine ⟨_, run, ?_⟩
    simp only [answered_mode, answered_frame, answered_lane, answered_drive, Capabilities.answered_lastReply, meter]
    refine ⟨tmode, trivial, trivial, trivial, beacon, fun j green old => ?_, fun j green young => ?_, fun j h => ?_, fun j red => ?_,
      fun j out => ?_, rfl, site, other, rate, events⟩
    · have mem := (lit j).mpr (by obtain h | h := green <;> simp [h])
      have drives := drive j green old
      refine ⟨?_, drives .amber, drives .green⟩
      rw [lane, if_pos mem]
      exact (stopLane_cases _ _ _).1 green old
    · rw [lane, if_pos ((lit j).mpr (by obtain h | h := green <;> simp [h]))]
      exact (stopLane_cases _ _ _).2.1 green young
    · rw [lane, if_pos ((lit j).mpr (by simp [h]))]
      exact (stopLane_cases _ _ _).2.2.1 h
    · rw [lane, if_pos ((lit j).mpr (by obtain h | h := red <;> simp [h]))]
      exact (stopLane_cases _ _ _).2.2.2 red
    · rw [lane, if_neg fun mem => ((lit j).mp mem).elim fun a b => out.elim a b]
  · obtain ⟨entered, off⟩ := interruptStartup_dark umode (by simpa only [from_s.lane] using dark)
    have unwanted : wanted (stopOrdered (requested .off s)) ≠ .start := by
      rw [wanted_congr (s := requested .off s) (by rw [stopOrdered_meter]) (by simp [stopOrdered]), wanted_off on]
      decide
    have leaves := interrupted.trans (entered.trans (enterDarkJudged_unwanted (cause := .stop) unwanted))
    have meter := enterDark_meter .stop (stopOrdered (requested .off s))
    have tmode : (enterDark .stop (stopOrdered (requested .off s))).mode = .dark := by rw [State.mode, meter]
    have run := exec_request_leaves tag steady on leaves rfl tmode
    obtain ⟨site, other⟩ := keeps_leaves tag [byte Resolved.off.code, byte Mode.dark.code] leaves
    have posted := from_s.posted ((posted_enterDark .stop (stopOrdered (requested .off s))).before (by simp [stopOrdered]) (by simp [stopOrdered]))
    have lanes := enterDark_off (cause := .stop) off
    generalize enterDark .stop (stopOrdered (requested .off s)) = t at *
    refine ⟨_, run, ?_⟩
    simp only [answered_mode, answered_frame, answered_lane, Capabilities.answered_lastReply, meter]
    exact ⟨tmode, trivial, trivial, lanes, rfl, site, other, posted⟩

/-! ### SHUTDOWN to METERING -/

theorem returnedLane_cases (greenMin amber red : Nat) (x : Lane) :
    (x.state = .restGreen → (greenMin ≤ x.age → (returnedLane greenMin amber red x).state = .amber ∧
        (returnedLane greenMin amber red x).timer = some amber) ∧
        (x.age < greenMin → returnedLane greenMin amber red x = { x with held := some .clear })) ∧
      (x.state = .green ∨ x.state = .amber → returnedLane greenMin amber red x = { x with restAwaits := false }) ∧
      (x.state = .red ∨ x.state = .ready ∨ x.state = .off ∨ x.state = .faulted → returnedLane greenMin amber red x = x) := by
  refine ⟨fun h => ⟨fun old => ?_, fun young => ?_⟩, fun h => ?_, fun h => ?_⟩
  · simp [returnedLane, clearLane, h, Nat.not_lt.mpr old, Lane.toAmber]
  · simp [returnedLane, clearLane, h, young]
  · obtain h | h := h <;> simp [returnedLane, h]
  · obtain h | h | h | h := h <;> simp [returnedLane, h]

/-- Settles O35: the return to METERING from SHUTDOWN. -/
theorem aStartReturnsShutdownToMetering : Obligations.AStartReturnsShutdownToMetering := by
  unfold Obligations.AStartReturnsShutdownToMetering
  intro tag p s steady on mode plan early
  have from_s := requestedFrom .on s
  have umode : (requested .on s).mode = .shutdown := from_s.mode.trans mode
  have leaves := judgeWish_start_shutdown (wanted_on on) umode
  have clamped : clampedRate p (requested .on s) = clampedRate p s := by rw [clampedRate, from_s.rate, clampedRate]
  have facts := returnToMetering_facts (s := requested .on s) (p := p) (by rw [umode]; decide) (by rw [from_s.plans, plan])
    (by rw [clamped, from_s.limits, from_s.workingLanes]; exact early)
  rw [clamped, from_s.limits, from_s.workingLanes] at facts
  have amber : amberTime (requested .on s) = planAmber p * 10 := by
    rw [amberTime_plan (by rw [umode]; decide), planTime_of_plan (by rw [from_s.plans, plan])]
  simp only [amber, from_s.lane] at facts
  obtain ⟨lane, ring, elapsed, pending, headway, rate⟩ := facts
  have meter := returnToMetering_meter (requested .on s)
  have tmode : (returnToMetering (requested .on s)).mode = .metering := by rw [State.mode, meter]
  have run := exec_request_leaves tag steady on leaves rfl tmode
  obtain ⟨site, other⟩ := keeps_leaves tag [byte Resolved.on.code, byte Mode.metering.code] leaves
  have posted := from_s.posted (posted_returnToMetering (requested .on s))
  generalize returnToMetering (requested .on s) = t at *
  refine ⟨_, run, ?_⟩
  simp only [answered_mode, answered_frame, answered_lane, Capabilities.answered_lastReply, meter, lane, rate, ring, elapsed, pending, headway]
  refine ⟨tmode, trivial, trivial, trivial, trivial, trivial, rfl, rfl, rfl, rfl, fun i h => ?_, fun i h => ?_, fun i h => ?_, rfl, site,
    other, posted⟩
  · exact (returnedLane_cases _ _ _ _).1 h
  · exact (returnedLane_cases _ _ _ _).2.1 h
  · exact (returnedLane_cases _ _ _ _).2.2 h

end Sys2Proof.Activations
end

section
/-! Releases, recombination and the hold: what a hand-over of H, a grant and a recombination leave, the expiry of a rate
order, HOLD and RESUME (O38, O39, O40). -/

namespace Sys2Proof.Releases
open Sys2Proof.Machine Sys2Proof.Steps Sys2Proof.Steady Sys2Proof.PlanChanges Sys2Proof.ModeSteps

/-! ### Grants -/

@[simp] theorem grant_headway (i : Fin 3) (s : State) : (grant i s).sched.headway = s.sched.headway :=
  (keepsReleases_enterLane i ((s.lane i).toGreen (some (greenTime s))) s).2.2.2

@[simp] theorem releaseDue_headway (s : State) : (releaseDue s).sched.headway = s.sched.headway := by
  obtain ⟨i, -, e⟩ | ⟨-, e⟩ := releaseDue_cases s <;> rw [e]
  · exact grant_headway i s
  · rfl

@[simp] theorem handHeadway_headway (h : Nat) (s : State) : (handHeadway h s).sched.headway = h := by
  obtain ⟨-, e⟩ | ⟨-, -, -, e⟩ := handHeadway_cases h s <;> rw [e]
  · rfl
  · exact releaseDue_headway _

theorem releaseDue_of_some {s : State} {i : Fin 3} (next : nextLane s = some i) : releaseDue s = grant i s := by
  simp [releaseDue, next]

theorem releaseDue_of_none {s : State} (next : nextLane s = none) :
    releaseDue s = s.setRelease s.sched.ring s.sched.elapsed true := by
  simp [releaseDue, next]

/-- A pending release in METERING goes to the lane that a due release would go to. -/
theorem takePending_of_some {s : State} {i : Fin 3} (mode : s.mode = .metering) (pending : s.sched.releasePending = true)
    (next : nextLane s = some i) : takePending s = grant i s := by
  simp [takePending, mode, pending, next]

theorem takePending_of_none {s : State} (next : nextLane s = none) : takePending s = s := by
  simp [takePending, next]

theorem takePending_of_clear {s : State} (clear : s.sched.releasePending = false) : takePending s = s := by
  simp [takePending, clear]

/-! ### Recombination -/

theorem engaged_of_mode {s : State} (mode : s.mode = .metering ∨ s.mode = .hold) : engaged s = true := by
  obtain h | h := mode <;> simp [engaged, h]

/-- A combine run under a plan: its rate is put in force, and a new H is handed over. -/
theorem runCombine_of_plan {s : State} {p : List Byte} (entry : Bool) (plan : s.plans.plan = some p) :
    runCombine entry s =
      (let o := combineOut s.rate s.limits p (workingLanes s).length
       if entry || !(s.rate.inForce.map RateOut.headway == some o.headway) then handHeadway o.headway (s.putRate o) else s.putRate o) := by
  simp [runCombine, plan]

theorem recombine_of_engaged {s : State} (mode : s.mode = .metering ∨ s.mode = .hold) : recombine s = runCombine false s := by
  rw [recombine, if_pos (engaged_of_mode mode)]

theorem recombine_of_not_engaged {s : State} (metering : s.mode ≠ .metering) (hold : s.mode ≠ .hold) : recombine s = s := by
  simp [recombine, engaged, metering, hold]

/-- A recombination while engaged puts the combine of the stored feedback value in force (R62, R65). -/
theorem recombine_rate {s : State} {p : List Byte} (mode : s.mode = .metering ∨ s.mode = .hold) (plan : s.plans.plan = some p) :
    (recombine s).rate = (s.putRate (combineOut s.rate s.limits p (workingLanes s).length)).rate := by
  rw [recombine_of_engaged mode, runCombine_of_plan false plan]
  dsimp only
  split <;> simp

/-- H after a recombination is that of the rate put in force, where it is new or was the scheduler's already (R62). -/
theorem recombine_headway {s : State} {p : List Byte} {h : Nat} (mode : s.mode = .metering ∨ s.mode = .hold)
    (plan : s.plans.plan = some p) (out : (combineOut s.rate s.limits p (workingLanes s).length).headway = h)
    (new : s.rate.inForce.map RateOut.headway ≠ some h ∨ s.sched.headway = h) : (recombine s).sched.headway = h := by
  rw [recombine_of_engaged mode, runCombine_of_plan false plan]
  dsimp only
  rw [out]
  split
  · exact handHeadway_headway h _
  · next same =>
    obtain differs | stands := new
    · exact absurd (by simpa using same) differs
    · exact stands

/-- Settles O38: an order whose timer has run out is removed, and a recombination runs while engaged alone. -/
theorem anExpiredOrderIsRemoved : Obligations.AnExpiredOrderIsRemoved := by
  unfold Obligations.AnExpiredOrderIsRemoved
  refine ⟨fun l o s order out => ?_, fun s => recombine_of_not_engaged, fun s p mode plan => ?_⟩
  · have due : orderDue s l = true := by simp [orderDue, order, out]
    rw [exec_event (c := .orderExpired l) rfl]
    have effect : eventEffect (.orderExpired l) s = removeOrder l .orderExpired s := if_pos due
    rw [effect]
    simp only [removeOrder, order]
    rfl
  · refine ⟨recombine_rate mode plan, ?_, by simp, by simp, by simp, by simp, recombine_headway mode plan rfl⟩
    simp [State.mode]

/-! ### HOLD -/

/-- HOLD, from a PRESENT link, is answered with what its checks make of the received state. -/
theorem exec_hold {l : LinkId} {s : State} {a : Answer} (tag : Byte) (steady : SteadyFrame l false s) (on : (s.link l).state = .present)
    (answer : holdChecked l (received l false s) = a) :
    exec (.hold l tag []) s = .next (answered l 0x23 tag a.status a.payload a.state) :=
  exec_steady (c := .hold l tag []) rfl (by simp) steady (by
    simp only [requestAnswer, Permitted.allows, if_true, withoutPayload_nil]
    rw [whenPresent_of_present _ (by simp [on])]
    exact answer)

theorem holdChecked_inHold {l : LinkId} {s : State} (mode : s.mode = .hold) : holdChecked l s = refuse s .wrongState := if_pos mode

theorem holdChecked_notMetering {l : LinkId} {s : State} (notMetering : s.mode ≠ .metering) (notHold : s.mode ≠ .hold) :
    holdChecked l s = refuse s .wrongMode := by
  rw [holdChecked, if_neg notHold, if_pos notMetering]

theorem holdChecked_metering {l : LinkId} {s : State} (mode : s.mode = .metering) :
    holdChecked l s = if s.rate.spillActive then refuse s .wrongState else accept (enterHold l s) [] := by
  simp [holdChecked, mode]

/-- Settles O39: HOLD by the checks of R99, and the end of the hold timer. -/
theorem holdSuspendsAndEnds : Obligations.HoldSuspendsAndEnds := by
  unfold Obligations.HoldSuspendsAndEnds
  refine ⟨fun l tag s steady on => ?_, fun l tag s steady off => ?_, fun s h mode hold out => ?_⟩
  · have rmode : (received l false s).mode = s.mode := received_mode l false s
    have answer := fun a => exec_hold (a := a) tag steady on
    refine ⟨fun mode spill => answer (accept _ _) ?_, fun mode => answer (refuse (received l false s) _) ?_,
      fun notMetering notHold => answer (refuse (received l false s) _) ?_, fun mode spill => answer (refuse (received l false s) _) ?_⟩
    · rw [holdChecked_metering (rmode.trans mode), if_neg (by simp [spill])]
      rfl
    · exact holdChecked_inHold (rmode.trans mode)
    · exact holdChecked_notMetering (by rwa [rmode]) (by rwa [rmode])
    · rw [holdChecked_metering (rmode.trans mode), if_pos (by simp [spill])]
  · refine exec_refuses (c := .hold l tag []) rfl (by simp) steady ?_
    simp only [requestAnswer, Permitted.allows, if_true, withoutPayload_nil]
    exact whenPresent_of_not _ (by simp [off])
  · have due : holdDue s = true := by simp [holdDue, mode, hold, out]
    rw [exec_event (c := .holdExpired) rfl]
    have effect : eventEffect .holdExpired s = endHold .holdExpired 0 s := if_pos due
    rw [effect]
    simp only [endHold, hold, mode, if_true]
    rfl

/-! ### RESUME -/

/-- The continuation of releases on the return from HOLD (R80). -/
theorem resumeReleases_cases {s : State} (mode : s.mode = .metering) :
    (s.sched.releasePending = false → s.sched.elapsed < s.sched.headway → resumeReleases s = s) ∧
      (s.sched.releasePending = true ∨ s.sched.headway ≤ s.sched.elapsed → resumeReleases s = releaseDue s) := by
  refine ⟨fun clear early => by simp [resumeReleases, clear, Nat.not_le.mpr early], fun due => ?_⟩
  cases pending : s.sched.releasePending with
  | false => simp [resumeReleases, pending, due.resolve_left (by simp [pending])]
  | true =>
    rw [resumeReleases, if_pos pending]
    obtain ⟨i, next, e⟩ | ⟨next, e⟩ := releaseDue_cases s <;> rw [e]
    · exact takePending_of_some mode pending next
    · rw [takePending_of_none next, ← pending]
      rfl

/-- RESUME, from a PRESENT link, is answered with what its checks make of the received state. -/
theorem exec_resume {l : LinkId} {s : State} {a : Answer} (tag : Byte) (steady : SteadyFrame l false s) (on : (s.link l).state = .present)
    (answer : resumeChecked l (received l false s) = a) :
    exec (.resume l tag []) s = .next (answered l 0x24 tag a.status a.payload a.state) :=
  exec_steady (c := .resume l tag []) rfl (by simp) steady (by
    simp only [requestAnswer, Permitted.allows, if_true, withoutPayload_nil]
    rw [whenPresent_of_present _ (by simp [on])]
    exact answer)

theorem resumeChecked_held {l : LinkId} {h : HoldRecord} {s : State} (held : s.meter.hold = some h) :
    resumeChecked l s = if h.owner = l ∨ l = .L then accept (leaveHold .resumed s) [] else refuse s .notOwner := by
  simp only [resumeChecked, held]

theorem resumeChecked_none {l : LinkId} {s : State} (free : s.meter.hold = none) : resumeChecked l s = refuse s .wrongState := by
  simp only [resumeChecked, free]

/-- Settles O40: RESUME by the checks of R100, and the continuation of releases. -/
theorem resumeReturnsToMeteringAndItsReleases : Obligations.ResumeReturnsToMeteringAndItsReleases := by
  unfold Obligations.ResumeReturnsToMeteringAndItsReleases
  refine ⟨fun l tag s steady => ⟨fun h on hold owns => ?_, fun h on hold other link => ?_, fun none => ?_, fun p payload => ?_⟩,
    fun s mode => ⟨(resumeReleases_cases mode).1, fun i next due => ?_, fun next due => ?_⟩⟩
  · have held : (received l false s).meter.hold = some h := by simp [hold]
    refine exec_resume (a := accept _ _) tag steady on ?_
    rw [resumeChecked_held held, if_pos owns]
    rfl
  · have held : (received l false s).meter.hold = some h := by simp [hold]
    refine exec_resume (a := refuse (received l false s) _) tag steady on ?_
    rw [resumeChecked_held held, if_neg fun owns => owns.elim other (by simp [link])]
  · refine exec_refuses (c := .resume l tag []) rfl (by simp) steady ?_
    simp only [requestAnswer, Permitted.allows, if_true, withoutPayload_nil]
    by_cases on : (s.link l).state = .present
    · have held : (received l false s).meter.hold = .none := by simp [none.resolve_right (by simp [on])]
      rw [whenPresent_of_present _ (by simp [on])]
      exact resumeChecked_none held
    · exact whenPresent_of_not _ (by simp [on])
  · refine exec_refusesRange (c := .resume l tag p) rfl (by simp) steady ?_
    simp only [requestAnswer, Permitted.allows, if_true]
    exact CancelOrder.withoutPayload_of_ne_nil payload _ _
  · rw [(resumeReleases_cases mode).2 due, releaseDue_of_some next]
  · rw [(resumeReleases_cases mode).2 due, releaseDue_of_none next]
    rfl

end Sys2Proof.Releases
end

section
/-! The lane orders, the hand-over of a lane's drives and the watches of a drive (O55, O57, O59). -/

namespace Sys2Proof.Lamps
open Sys2Proof.Machine Sys2Proof.Steps Sys2Proof.LaneLaws Sys2Proof.Transitions

/-! ### Lane orders -/

theorem lane_orderRest (i j : Fin 3) (s : State) :
    (orderRest i s).lane j = if j = i then restLane (s.lane i) else s.lane j := (actsOnLane_rest i s).lane j

theorem lane_orderClear (i j : Fin 3) (s : State) : (orderClear i s).lane j =
    if j = i then clearLane (s.limits.greenMin * 10) (amberTime s) (redTime s) (s.lane i) else s.lane j := (actsOnLane_clear i s).lane j

theorem lane_orderStop (i j : Fin 3) (s : State) : (orderStop i s).lane j =
    if j = i then stopLane (s.limits.greenMin * 10) (amberTime s) (s.lane i) else s.lane j := (actsOnLane_stop i s).lane j

theorem lane_orderGo (i j : Fin 3) (s : State) :
    (orderGo i s).lane j = if j = i then goLane (s.lane i) else s.lane j := (actsOnLane_go i s).lane j

theorem lane_orderCut (i j : Fin 3) (s : State) :
    (orderCut i s).lane j = if j = i then cutLane (s.lane i) else s.lane j := (actsOnLane_cut i s).lane j

/-- A clear order to a lane that neither shows green nor is OFF does nothing. -/
theorem orderClear_idle {i : Fin 3} {s : State} (h : (s.lane i).state = .amber ∨ (s.lane i).state = .red ∨ (s.lane i).state = .ready) :
    orderClear i s = s := by
  obtain h | h | h := h <;> simp [orderClear, h]

/-- A FAULTED lane takes no order. -/
theorem orders_faulted {i : Fin 3} {s : State} (h : (s.lane i).state = .faulted) :
    orderRest i s = s ∧ orderClear i s = s ∧ orderStop i s = s ∧ orderGo i s = s ∧ orderCut i s = s := by
  simp [orderRest, orderClear, orderStop, orderGo, orderCut, h]

/-- Settles O57: each order is the function of the lane that the table gives. -/
theorem laneOrdersFollowTheTable : Obligations.LaneOrdersFollowTheTable := by
  unfold Obligations.LaneOrdersFollowTheTable
  intro i s
  have rest := lane_orderRest i i s
  have clear := lane_orderClear i i s
  have stop := lane_orderStop i i s
  have go := lane_orderGo i i s
  have cut := lane_orderCut i i s
  rw [if_pos rfl] at rest clear stop go cut
  dsimp only
  rw [rest, clear, stop, go, cut]
  refine ⟨fun h => ?_, fun h => ?_, fun h => ?_, fun h young => ?_, fun h old => ?_, fun h => ?_, orderClear_idle, fun h => ?_,
    fun h => ?_, fun h => ?_, fun unready unfaulted => ?_, fun unfaulted => ?_, orders_faulted, ?_⟩
  · obtain h | h | h := h <;> simp only [restLane, h]
  · obtain h | h := h <;> simp only [restLane, h]
  · simp only [restLane, h]
  · obtain h | h := h <;> simp only [clearLane, stopLane, h, if_pos young, and_self]
  · obtain h | h := h <;> simp only [clearLane, stopLane, h, if_neg old, and_self]
  · simp only [clearLane, h]
  · simp only [stopLane, h]
  · obtain h | h | h := h <;> simp only [stopLane, h]
  · simp only [goLane, h]
  · cases h : (s.lane i).state
    case ready => exact absurd h unready
    case faulted => exact absurd h unfaulted
    case off | restGreen | green | amber | red => simp only [goLane, h]
  · have off : cutLane (s.lane i) = (s.lane i).toOFF := by
      cases h : (s.lane i).state
      case faulted => exact absurd h unfaulted
      case off | restGreen | green | amber | red | ready => simp only [cutLane, h]
    rw [off]
    exact ⟨rfl, rfl⟩
  · intro order mem j other
    simp only [List.mem_cons, List.not_mem_nil, or_false] at mem
    obtain rfl | rfl | rfl | rfl | rfl := mem
    · rw [lane_orderRest, if_neg other]
    · rw [lane_orderClear, if_neg other]
    · rw [lane_orderStop, if_neg other]
    · rw [lane_orderGo, if_neg other]
    · rw [lane_orderCut, if_neg other]

/-! ### Watches -/

/-- A watch that does not compare drops a SUSPECT state and keeps LATCHED without its proof timer (R112, R114). -/
theorem judge_silent (disagree : Bool) (deglitch : Nat) (w : WatchState) :
    (w = .clear → w.judge false disagree deglitch = .clear) ∧ (∀ e m, w = .suspect e m → w.judge false disagree deglitch = .clear) ∧
      (∀ proof, w = .latched proof → w.judge false disagree deglitch = .latched none) := by
  refine ⟨fun h => ?_, fun e m h => ?_, fun proof h => ?_⟩ <;> subst h <;> rfl

/-- A watch that compares (R113, R114). -/
theorem judge_comparing (disagree : Bool) (deglitch : Nat) (w : WatchState) :
    (w = .clear → w.judge true disagree deglitch = if disagree then .suspect 0 deglitch else .clear) ∧
      (∀ e m, w = .suspect e m → w.judge true disagree deglitch = if disagree then .suspect e m else .clear) ∧
      (w = .latched none → w.judge true disagree deglitch = .latched (if disagree then none else some (0, deglitch))) ∧
      (∀ e m, w = .latched (some (e, m)) → w.judge true disagree deglitch = .latched (if disagree then none else some (e, m))) := by
  refine ⟨fun h => ?_, fun e m h => ?_, fun h => ?_, fun e m h => ?_⟩ <;> subst h <;> cases disagree <;> rfl

/-! ### Hand-overs -/

/-- A drive handed a new command. -/
def commanded (lim : SiteLimits) (on : Bool) (d : Drive) : Drive :=
  ({ d with commanded := on, blank := startBlank lim.lampBlank }).judge lim.lampDeglitch

theorem command_of_ne {lim : SiteLimits} {on : Bool} {d : Drive} (differs : d.commanded ≠ on) : d.command lim on = commanded lim on d :=
  if_neg differs

theorem commanded_out (lim : SiteLimits) (on : Bool) (d : Drive) : (commanded lim on d).out =
    d.out.judge (decide (lim.lampBlank = 0) && on) (!d.sensed) lim.lampDeglitch := by
  by_cases none : lim.lampBlank = 0 <;> simp [commanded, Drive.judge, startBlank, none]

theorem commanded_lit (lim : SiteLimits) (on : Bool) (d : Drive) : (commanded lim on d).lit =
    d.lit.judge (decide (lim.lampBlank = 0) && !on) d.sensed lim.lampDeglitch := by
  by_cases none : lim.lampBlank = 0 <;> simp [commanded, Drive.judge, startBlank, none]

theorem commands_eq (st : LaneState) (c : Colour) : commands st c =
    decide ((c = .green ∧ (st = .green ∨ st = .restGreen)) ∨ (c = .amber ∧ st = .amber) ∨ (c = .red ∧ (st = .red ∨ st = .ready))) := by
  cases st <;> cases c <;> rfl

/-- A drive of the lane that enters a state, outside FAULT_DARK. -/
theorem enterLane_drive {s : State} (lit : s.mode ≠ .faultDark) (i : Fin 3) (x : Lane) (c : Colour) :
    (enterLane i x s).drive (driveOf i c) = (s.drive (driveOf i c)).command s.limits (commands x.state c) := by
  have output : driverOutput s (commands x.state c) = commands x.state c := by simp [driverOutput, lit]
  rw [drive_enterLane, if_pos rfl, output]

/-- Settles O55: the entry to a lane state and the hand-over of the lane's drives. -/
theorem enteringALaneStateHandsOverItsDrives : Obligations.EnteringALaneStateHandsOverItsDrives := by
  unfold Obligations.EnteringALaneStateHandsOverItsDrives
  intro i x s mode
  have drive := enterLane_drive mode i x
  refine ⟨by simp, fun j other => by simp [other], fun c => ?_, fun c same => ?_, fun c differs => ?_, fun c differs => ?_,
    fun j c other => ?_, drive_enterLane_beacon s i x, by simp, by simp, fun _ _ => rfl, fun _ => rfl, fun _ => rfl, rfl, rfl, rfl, rfl,
    rfl, fun _ _ => ⟨rfl, rfl, rfl, rfl, rfl⟩, fun n => ⟨fun c h => ?_, fun h => ?_, rfl, rfl, fun amber after => ?_⟩, ?_, ?_⟩
  · rw [enterLane_commanded mode, commands_eq]
  · rw [drive, ← same, Drive.command_same]
  · rw [drive, command_of_ne differs]
    rfl
  · rw [drive, command_of_ne differs]
    dsimp only
    rw [commanded_out, commanded_lit]
    have on : (commanded s.limits (commands x.state c) (s.drive (driveOf i c))).commanded = commands x.state c := rfl
    rw [on]
    refine ⟨rfl, fun h => ?_, fun h => ?_, fun h none => ?_, fun h none => ?_⟩
    · rw [show (decide (s.limits.lampBlank = 0) && !commands x.state c) = false by obtain h | h := h <;> simp [h]]
      exact judge_silent _ _ _
    · rw [show (decide (s.limits.lampBlank = 0) && commands x.state c) = false by obtain h | h := h <;> simp [h]]
      exact judge_silent _ _ _
    · rw [h, show (decide (s.limits.lampBlank = 0) && true) = true by simp [none]]
      obtain ⟨clear, -, latched, -⟩ := judge_comparing (!(s.drive (driveOf i c)).sensed) s.limits.lampDeglitch (s.drive (driveOf i c)).out
      refine ⟨fun h => ?_, fun h => ?_⟩
      · rw [clear h]; cases (s.drive (driveOf i c)).sensed <;> rfl
      · rw [latched h]; cases (s.drive (driveOf i c)).sensed <;> rfl
    · rw [h, show (decide (s.limits.lampBlank = 0) && !false) = true by simp [none]]
      obtain ⟨clear, -, latched, -⟩ := judge_comparing (s.drive (driveOf i c)).sensed s.limits.lampDeglitch (s.drive (driveOf i c)).lit
      exact ⟨clear, latched⟩
  · rw [drive_enterLane, if_neg other]
  · simp [Lane.toRed, h]
  · simp [Lane.toRed, h]
  · simp [Lane.toRed, Lane.restMark, amber, after]
  · simp [Lane.toOFF, Lane.toRestGreen, Lane.toFaulted, Lane.toGreen]
  · simp [Lane.toOFF, Lane.toRestGreen, Lane.toFaulted, Lane.toGreen, Lane.toReady, Lane.toRed, Lane.toAmber]

/-! ### Sense changes, blanking and proof -/

theorem proofDue_of_latched {d : Drive} {w : WatchKind} {e m : Nat} (h : d.watch w = .latched (some (e, m))) :
    proofDue d w = decide (m ≤ e) := by
  simp [proofDue, h]

theorem proofDue_of_idle {d : Drive} {w : WatchKind} (h : d.watch w = .clear ∨ d.watch w = .latched none ∨ ∃ e m, d.watch w = .suspect e m) :
    proofDue d w = false := by
  obtain h | h | ⟨e, m, h⟩ := h <;> simp [proofDue, h]

/-- A proof expiry not due changes nothing. -/
theorem exec_proof_idle {k : Fin 10} {w : WatchKind} {s : State} (h : proofDue (s.drive k) w = false) :
    exec (.proofExpiry k w) s = .next s.judgeLines := by
  rw [exec_event (c := .proofExpiry k w) rfl, show eventEffect (.proofExpiry k w) s = s from if_neg (by simp [h])]

/-- Settles O59: the watches under a sense change, the end of blanking and a proof expiry. -/
theorem watchesFollowTheSense : Obligations.WatchesFollowTheSense := by
  unfold Obligations.WatchesFollowTheSense
  intro k lit s dg
  refine ⟨⟨_, exec_event (c := .lampSenseChange k lit) rfl s, rfl, rfl, rfl, fun blank on => ?_, fun blank off => ?_, fun blank => ?_⟩,
    fun out => ?_, fun running => ?_, fun w e m latched due => ?_, fun w h => ?_, fun w e m h => ?_, fun w e m latched early => ?_⟩
  · simp only [Drive.judge, blank, on, Option.isNone_none, Bool.and_true]
    obtain ⟨clear, suspect, latched, proof⟩ := judge_comparing (!lit) s.limits.lampDeglitch (s.drive k).out
    refine ⟨fun h => ?_, fun e m h => ?_, fun h => ?_, fun e m h => ?_⟩
    · rw [clear h]; cases lit <;> rfl
    · rw [suspect e m h]; cases lit <;> rfl
    · rw [latched h]; cases lit <;> rfl
    · rw [proof e m h]; cases lit <;> rfl
  · simp only [Drive.judge, blank, off, Option.isNone_none, Bool.not_false, Bool.and_true]
    exact judge_comparing lit s.limits.lampDeglitch (s.drive k).lit
  · have blanked : (s.drive k).blank.isNone = false :=
      Option.isNone_eq_false_iff.mpr (Option.isSome_iff_ne_none.mpr blank)
    simp only [Drive.judge, blanked, Bool.false_and]
    obtain ⟨clearOut, -, latchedOut⟩ := judge_silent (!lit) s.limits.lampDeglitch (s.drive k).out
    obtain ⟨clearLit, -, latchedLit⟩ := judge_silent lit s.limits.lampDeglitch (s.drive k).lit
    exact ⟨fun h => h.elim (fun h => (clearOut h).trans h.symm) fun h => (latchedOut _ h).trans h.symm,
      fun h => h.elim (fun h => (clearLit h).trans h.symm) fun h => (latchedLit _ h).trans h.symm⟩
  · have effect : eventEffect (.blankingExpiry k) s =
        s.setDrive k (({ s.drive k with blank := none }).judge s.limits.lampDeglitch) := if_pos out
    have run := exec_event (c := .blankingExpiry k) rfl s
    rw [effect] at run
    refine ⟨_, run, rfl, rfl, rfl, fun h => ?_, fun h => ?_, fun h => ?_, fun h => ?_⟩
    all_goals
      simp only [Drive.judge, Option.isNone_none, Bool.true_and, h]
      cases (s.drive k).commanded <;> cases (s.drive k).sensed <;> rfl
  · rw [exec_event (c := .blankingExpiry k) rfl, show eventEffect (.blankingExpiry k) s = s from if_neg running]
  · have due : proofDue (s.drive k) w = true := by simp [proofDue_of_latched latched, due]
    rw [exec_event (c := .proofExpiry k w) rfl, show eventEffect (.proofExpiry k w) s = s.setDrive k ((s.drive k).setWatch w .clear) from if_pos due]
  · exact exec_proof_idle (proofDue_of_idle (h.imp_right .inl))
  · exact exec_proof_idle (proofDue_of_idle (.inr (.inr ⟨e, m, h⟩)))
  · exact exec_proof_idle (by rw [proofDue_of_latched latched, decide_eq_false (Nat.not_le.mpr early)])

end Sys2Proof.Lamps
end

section
/-! Hand work on a lane: what an order of the pending-aspect table makes of a lane and of its pending aspect, as a function
of the two, and what it leaves as it was. -/

namespace Sys2Proof.HandWork
open Sys2Proof.Machine Sys2Proof.Steps Sys2Proof.Holders Sys2Proof.AbsentLinks Sys2Proof.LaneLaws Sys2Proof.Transitions
open Sys2Proof.ModeSteps Sys2Proof.Lamps

/-! ### Operations on one lane and its pending aspect -/

/-- An operation that touches one lane, its drives and its pending aspect alone, and hands the drives over with a change of
state. -/
structure LaneAlone (i : Fin 3) (s t : State) : Prop where
  lane : ∀ j, j ≠ i → t.lane j = s.lane j
  aspect : ∀ j, j ≠ i → t.aspect j = s.aspect j
  meter : AspectsAlone s t
  drive : s.mode ≠ .faultDark → (∀ c, (t.drive (driveOf i c)).commanded = commands (t.lane i).state c) ∨
    (t.lane i).state = (s.lane i).state ∧ ∀ c, t.drive (driveOf i c) = s.drive (driveOf i c)
  otherDrive : ∀ j c, j ≠ i → t.drive (driveOf j c) = s.drive (driveOf j c)
  beacon : t.drive beaconDrive = s.drive beaconDrive
  releases : KeepsReleases s t
  site : KeepsSite s t
  rate : t.rate = s.rate
  links : t.links = s.links
  events : t.events = s.events

theorem KeepsSite.refl (s : State) : KeepsSite s s := ⟨rfl, rfl, rfl, rfl, rfl, rfl, rfl, rfl⟩

theorem KeepsSite.trans {s t u : State} (h : KeepsSite s t) (g : KeepsSite t u) : KeepsSite s u := by
  obtain ⟨hi, hd, hc, hr, hp, hm, hl, hq⟩ := h
  obtain ⟨gi, gd, gc, gr, gp, gm, gl, gq⟩ := g
  exact ⟨gi.trans hi, gd.trans hd, gc.trans hc, gr.trans hr, gp.trans hp, gm.trans hm, gl.trans hl, gq.trans hq⟩

section LaneAlone
variable {i : Fin 3} {s t u : State}

theorem LaneAlone.mode (h : LaneAlone i s t) : t.mode = s.mode := by
  rw [State.mode, h.meter, ← State.mode]

theorem LaneAlone.limits (h : LaneAlone i s t) : t.limits = s.limits := h.site.2.2.2.2.2.1

theorem LaneAlone.plans (h : LaneAlone i s t) : t.plans = s.plans := h.site.2.2.2.2.1

theorem LaneAlone.refl (i : Fin 3) (s : State) : LaneAlone i s s :=
  ⟨fun _ _ => rfl, fun _ _ => rfl, .refl s, fun _ => .inr ⟨rfl, fun _ => rfl⟩, fun _ _ _ => rfl, rfl, .refl s, KeepsSite.refl s, rfl, rfl, rfl⟩

theorem LaneAlone.trans (h : LaneAlone i s t) (g : LaneAlone i t u) : LaneAlone i s u where
  lane j other := (g.lane j other).trans (h.lane j other)
  aspect j other := (g.aspect j other).trans (h.aspect j other)
  meter := h.meter.trans g.meter
  drive lit := by
    obtain handed | ⟨same, kept⟩ := g.drive (by rw [h.mode]; exact lit)
    · exact .inl handed
    · obtain handed | ⟨same', kept'⟩ := h.drive lit
      · exact .inl fun c => by rw [kept, same]; exact handed c
      · exact .inr ⟨same.trans same', fun c => (kept c).trans (kept' c)⟩
  otherDrive j c other := (g.otherDrive j c other).trans (h.otherDrive j c other)
  beacon := g.beacon.trans h.beacon
  releases := h.releases.trans g.releases
  site := KeepsSite.trans h.site g.site
  rate := g.rate.trans h.rate
  links := g.links.trans h.links
  events := g.events.trans h.events

theorem LaneAlone.times (h : LaneAlone i s t) : orderTimes t = orderTimes s := by
  simp only [orderTimes, amberTime, redTime, planTime, h.mode, h.limits, h.plans]

theorem LaneAlone.enter (i : Fin 3) (x : Lane) (s : State) : LaneAlone i s (enterLane i x s) where
  lane j other := by simp [other]
  aspect j _ := by simp [State.aspect]
  meter := .of_meter (by simp)
  drive lit := .inl fun c => by rw [enterLane_commanded lit]; simp
  otherDrive j c other := by rw [drive_enterLane, if_neg other]
  beacon := drive_enterLane_beacon s i x
  releases := keepsReleases_enterLane i x s
  site := by simp [KeepsSite]
  rate := by simp
  links := by simp
  events := by simp

theorem LaneAlone.put {i : Fin 3} {x : Lane} {s : State} (same : x.state = (s.lane i).state) : LaneAlone i s (s.setLane i x) where
  lane j other := by simp [other]
  aspect j _ := rfl
  meter := .of_meter rfl
  drive _ := .inr ⟨by simp [same], fun _ => rfl⟩
  otherDrive _ _ _ := rfl
  beacon := rfl
  releases := ⟨rfl, rfl, rfl, rfl⟩
  site := KeepsSite.refl s
  rate := rfl
  links := rfl
  events := rfl

theorem LaneAlone.of_acts {x : Lane} (h : ActsOnLane i x s t) : LaneAlone i s t := by
  obtain rfl | ⟨same, rfl⟩ := h
  · exact .enter i x s
  · exact .put same

theorem LaneAlone.putAspect (i : Fin 3) (a : Option Aspect) (s : State) : LaneAlone i s (s.setAspectOf i a) where
  lane _ _ := rfl
  aspect j other := by simp [other]
  meter := rfl
  drive _ := .inr ⟨rfl, fun _ => rfl⟩
  otherDrive _ _ _ := rfl
  beacon := rfl
  releases := .refl s
  site := KeepsSite.refl s
  rate := rfl
  links := rfl
  events := rfl

end LaneAlone

/-! ### The pending-aspect table as a function -/

/-- A lane and its pending aspect. -/
abbrev Cell := Lane × Option Aspect

/-- A lane and its pending aspect in a state. -/
def cell (i : Fin 3) (s : State) : Cell := (s.lane i, s.aspect i)

theorem LaneAlone.cell {i j : Fin 3} {s t : State} (h : LaneAlone i s t) (other : j ≠ i) : HandWork.cell j t = HandWork.cell j s := by
  rw [HandWork.cell, h.lane j other, h.aspect j other, HandWork.cell]

/-- A lane worked once toward its pending aspect, with green_min and the amber and the red that begin now, in cs (R103). -/
def workedOnce (times : Nat × Nat × Nat) (x : Lane) (a : Option Aspect) : Cell :=
  match a with
  | none => (x, none)
  | some a =>
    match aspectOrder a x.state with
    | .clear => (clearLane times.1 times.2.1 times.2.2 x, some a)
    | .go => (goLane x, some a)
    | .stop => (if x.state = .amber then x else stopLane times.1 times.2.1 x, some a)
    | .met => (x, none)
    | .nothing => (x, some a)

/-- A lane worked until no order changes its state (R103). -/
def worked (times : Nat × Nat × Nat) (x : Lane) (a : Option Aspect) : Cell :=
  if (workedOnce times x a).1.state = x.state then workedOnce times x a
  else workedOnce times (workedOnce times x a).1 (workedOnce times x a).2

theorem laneAlone_handStop (i : Fin 3) (s : State) : LaneAlone i s (handStop i s) := by
  unfold handStop
  split
  · exact .refl i s
  · exact .of_acts (actsOnLane_stop i s)

theorem cell_of_acts {i : Fin 3} {x : Lane} {s t : State} (h : ActsOnLane i x s t) : cell i t = (x, s.aspect i) := by
  have aspects : t.aspect i = s.aspect i := by rw [State.aspect, h.frame.1, ← State.aspect]
  rw [cell, h.lane, if_pos rfl, aspects]

theorem cell_handStop (i : Fin 3) (s : State) : cell i (handStop i s) =
    (if (s.lane i).state = .amber then s.lane i else stopLane (orderTimes s).1 (orderTimes s).2.1 (s.lane i), s.aspect i) := by
  unfold handStop
  split
  · rfl
  · exact cell_of_acts (actsOnLane_stop i s)

theorem workOnce_facts (i : Fin 3) (s : State) :
    LaneAlone i s (workOnce i s) ∧ cell i (workOnce i s) = workedOnce (orderTimes s) (s.lane i) (s.aspect i) := by
  cases pending : s.aspect i with
  | none => simp only [workOnce, workedOnce, pending]; exact ⟨.refl i s, by rw [cell, pending]⟩
  | some a =>
    cases order : aspectOrder a (s.lane i).state <;> simp only [workOnce, workedOnce, pending, order]
    case clear => exact ⟨.of_acts (actsOnLane_clear i s), by rw [cell_of_acts (actsOnLane_clear i s), pending]; rfl⟩
    case go => exact ⟨.of_acts (actsOnLane_go i s), by rw [cell_of_acts (actsOnLane_go i s), pending]⟩
    case stop => exact ⟨laneAlone_handStop i s, by rw [cell_handStop, pending]⟩
    case met => exact ⟨.putAspect i none s, by simp [cell]⟩
    case nothing => exact ⟨.refl i s, by rw [cell, pending]⟩

/-- Working a lane is the table taken once or twice (R103). -/
theorem workLane_facts (i : Fin 3) (s : State) :
    LaneAlone i s (workLane i s) ∧ cell i (workLane i s) = worked (orderTimes s) (s.lane i) (s.aspect i) := by
  obtain ⟨alone, once⟩ := workOnce_facts i s
  obtain ⟨again, twice⟩ := workOnce_facts i (workOnce i s)
  have lane : (workOnce i s).lane i = (workedOnce (orderTimes s) (s.lane i) (s.aspect i)).1 := congrArg Prod.fst once
  have aspect : (workOnce i s).aspect i = (workedOnce (orderTimes s) (s.lane i) (s.aspect i)).2 := congrArg Prod.snd once
  rw [alone.times, lane, aspect] at twice
  unfold workLane worked
  dsimp only
  rw [lane]
  split
  · exact ⟨alone, once⟩
  · exact ⟨alone.trans again, twice⟩

theorem orderTimes_manual {s : State} (mode : s.mode = .manual) :
    orderTimes s = (s.limits.greenMin * 10, s.limits.amberMin * 10, s.limits.redMin * 10) := by
  simp [orderTimes, amberTime, redTime, mode]

/-! ### Hand work on several lanes -/

/-- Work on different lanes, each by a function of its lane and pending aspect, leaves at each what its own work makes of
it. -/
theorem cell_orderEach {f : Fin 3 → State → State} {g : Nat × Nat × Nat → Lane → Option Aspect → Cell}
    (works : ∀ i s, LaneAlone i s (f i s) ∧ cell i (f i s) = g (orderTimes s) (s.lane i) (s.aspect i))
    {l : List (Fin 3)} (nodup : l.Nodup) (s : State) (j : Fin 3) :
    cell j (orderEach f l s) = if j ∈ l then g (orderTimes s) (s.lane j) (s.aspect j) else cell j s := by
  induction l generalizing s with
  | nil => rfl
  | cons i l ih =>
    obtain ⟨fresh, nodup⟩ := List.nodup_cons.mp nodup
    obtain ⟨alone, here⟩ := works i s
    show cell j (orderEach f l (f i s)) = _
    rw [ih nodup, alone.times]
    by_cases same : j = i
    · subst same
      simp [fresh, here]
    · have kept := alone.cell same
      rw [kept, alone.lane j same, alone.aspect j same]
      simp [same]

end Sys2Proof.HandWork
end

section
/-! The entry to DARK in full, and the standing start that may follow it. -/

namespace Sys2Proof.DarkEntries
open Sys2Proof.Machine Sys2Proof.Steps Sys2Proof.Steady Sys2Proof.Holders Sys2Proof.LaneLaws Sys2Proof.Transitions
open Sys2Proof.ModeSteps Sys2Proof.Lamps

/-! ### The drives proved again -/

/-- A drive that is off and proved again from the start (R121). -/
def provedDark (lim : SiteLimits) (sensed : Bool) : Drive :=
  ⟨false, sensed, startBlank lim.lampBlank, .clear, if lim.lampBlank = 0 ∧ sensed then .suspect 0 lim.lampDeglitch else .clear⟩

theorem reprove_off {d : Drive} (lim : SiteLimits) (off : d.commanded = false) : d.reprove lim = provedDark lim d.sensed := by
  by_cases none : lim.lampBlank = 0 <;>
    simp [Drive.reprove, Drive.judge, WatchState.judge, provedDark, startBlank, off, none]

/-- A drive is the beacon's or that of a lane and colour (6.). -/
theorem drive_of_lane (k : Fin 10) : k = beaconDrive ∨ ∃ i c, k = driveOf i c := by
  match k with
  | 0 => exact .inr ⟨0, .red, rfl⟩
  | 1 => exact .inr ⟨0, .amber, rfl⟩
  | 2 => exact .inr ⟨0, .green, rfl⟩
  | 3 => exact .inr ⟨1, .red, rfl⟩
  | 4 => exact .inr ⟨1, .amber, rfl⟩
  | 5 => exact .inr ⟨1, .green, rfl⟩
  | 6 => exact .inr ⟨2, .red, rfl⟩
  | 7 => exact .inr ⟨2, .amber, rfl⟩
  | 8 => exact .inr ⟨2, .green, rfl⟩
  | 9 => exact .inl rfl

theorem drive_reproveAll (s : State) (k : Fin 10) : (reproveAll s).drive k = (s.drive k).reprove s.limits := by
  simp [reproveAll, State.drive]

theorem drive_restoreDark {i : Fin 3} {s : State} {c : Colour}
    (unlit : (s.lane i).state ≠ .faulted → (s.drive (driveOf i c)).commanded = false) :
    ((restoreDark i s).drive (driveOf i c)).commanded = false ∧
      ((restoreDark i s).drive (driveOf i c)).sensed = (s.drive (driveOf i c)).sensed := by
  by_cases faulted : (s.lane i).state = .faulted
  · have restored : restoreDark i s = enterLane i (s.lane i).toOFF s := by simp [restoreDark, isFaulted, faulted]
    have off : commands (s.lane i).toOFF.state c = false := rfl
    rw [restored, drive_enterLane, if_pos rfl, Drive.command_commanded, Drive.command_sensed, off]
    exact ⟨rfl, rfl⟩
  · have kept : restoreDark i s = s := by simp [restoreDark, isFaulted, faulted]
    rw [kept]
    exact ⟨unlit faulted, rfl⟩

theorem restored_limits (cause : ModeCause) (s : State) :
    (orderEach restoreDark allLanes (Agreement.darkEntered cause s)).limits = s.limits := by
  rw [orderEach_limits restoreDark (by simp)]
  simp [Agreement.darkEntered]

/-- A lane's drive after the entry to DARK: off and proved again, where the lane is FAULTED or the drive was off. -/
theorem enterDark_drive {s : State} {i : Fin 3} {c : Colour} (cause : ModeCause)
    (unlit : (s.lane i).state ≠ .faulted → (s.drive (driveOf i c)).commanded = false) :
    (enterDark cause s).drive (driveOf i c) = provedDark s.limits (s.drive (driveOf i c)).sensed := by
  obtain ⟨u, before, after⟩ := orderEach_at (f := restoreDark) restoreDark_other allLanes_nodup (mem_allLanes i)
    (Agreement.darkEntered cause s)
  have lane : u.lane i = s.lane i := before.lane.trans (by simp [Agreement.darkEntered])
  have drive : u.drive (driveOf i c) = s.drive (driveOf i c) := (before.drive c).trans (by simp [Agreement.darkEntered])
  obtain ⟨off, sensed⟩ := drive_restoreDark (i := i) (s := u) (c := c) (by rw [lane, drive]; exact unlit)
  rw [← after.drive c] at off sensed
  rw [Agreement.enterDark_eq, drive_reproveAll, reprove_off _ off, restored_limits, sensed, drive]

theorem restoreDark_beacon (i : Fin 3) (s : State) : (restoreDark i s).drive beaconDrive = s.drive beaconDrive := by
  unfold restoreDark
  split
  · exact drive_enterLane_beacon s i _
  · rfl

theorem enterDark_beacon (cause : ModeCause) (s : State) :
    (enterDark cause s).drive beaconDrive = provedDark s.limits (s.drive beaconDrive).sensed := by
  have kept : (orderEach restoreDark allLanes (Agreement.darkEntered cause s)).drive beaconDrive =
      (Agreement.darkEntered cause s).drive beaconDrive :=
    orderEach_keeps (P := fun v => v.drive beaconDrive = (Agreement.darkEntered cause s).drive beaconDrive)
      (fun i _ v h => (restoreDark_beacon i v).trans h) rfl
  have off : ((Agreement.darkEntered cause s).drive beaconDrive).commanded = false ∧
      ((Agreement.darkEntered cause s).drive beaconDrive).sensed = (s.drive beaconDrive).sensed := by
    simp [Agreement.darkEntered, driverOutput]
  rw [Agreement.enterDark_eq, drive_reproveAll, kept, reprove_off _ off.1, restored_limits, off.2]

/-! ### The rest of the entry -/

theorem restoreDark_ring (i : Fin 3) (s : State) : (restoreDark i s).sched.ring = s.sched.ring := by
  unfold restoreDark
  split
  · exact (keepsReleases_enterLane i _ s).1
  · rfl

theorem sched_reproveAll (s : State) : (reproveAll s).sched = s.sched := rfl

theorem ring_darkEntered (cause : ModeCause) (s : State) : (Agreement.darkEntered cause s).sched.ring = [] := rfl

theorem enterDark_rate (cause : ModeCause) (s : State) :
    (enterDark cause s).rate = { s.rate with inForce := none } ∧ (enterDark cause s).sched.ring = [] := by
  refine ⟨by simp [enterDark, leaveReleases, disengage], ?_⟩
  rw [Agreement.enterDark_eq, sched_reproveAll]
  exact orderEach_keeps (P := fun v => v.sched.ring = []) (fun i _ v h => (restoreDark_ring i v).trans h)
    (ring_darkEntered cause s)

/-- DARK as its entry leaves it: everything off, no release, no aspect; the rest as it was. -/
structure Darkened (cause : ModeCause) (s t : State) : Prop where
  meter : t.meter = { s.meter with mode := .dark, phase := .idle, seqTimer := 0, hold := none, beacon := false,
                                   aspects := Vector.replicate 3 none }
  lane : ∀ i, (t.lane i).state = .off
  rate : t.rate = { s.rate with inForce := none }
  ring : t.sched.ring = []
  posted : Posted [modeEvent .dark cause] s t
  site : KeepsSite s t
  links : t.links = s.links

theorem darkened {s : State} (cause : ModeCause) (dark : ∀ i, (s.lane i).state = .off ∨ (s.lane i).state = .faulted) :
    Darkened cause s (enterDark cause s) where
  meter := enterDark_meter cause s
  lane := enterDark_off dark
  rate := (enterDark_rate cause s).1
  ring := (enterDark_rate cause s).2
  posted := posted_enterDark cause s
  site := by simp [KeepsSite]
  links := by simp

theorem Darkened.mode {cause : ModeCause} {s t : State} (h : Darkened cause s t) : t.mode = .dark := by rw [State.mode, h.meter]

theorem aspect_replicate {t : State} (h : t.meter.aspects = Vector.replicate 3 none) (i : Fin 3) : t.aspect i = none := by
  simp [State.aspect, h]

/-! ### The standing start -/

/-- A standing start finds its conditions met: the lock, the active slot and an enabled lane (R92, R94). -/
def Starts (s : State) : Prop := s.locked = true ∧ StartStands s fun i => enabled s i = true

theorem enabled_congr {s t : State} (plan : t.plans.plan = s.plans.plan) (i : Fin 3) : enabled t i = enabled s i := by
  simp [enabled, plan]

theorem Starts.congr {s t : State} (locked : t.locked = s.locked) (plans : t.plans = s.plans)
    (resolved : t.meter.resolved = s.meter.resolved) : Starts t ↔ Starts s := by
  have slot : ∀ k, t.slot k = s.slot k := fun k => by rw [State.slot, plans, ← State.slot]
  have wish : wanted t = wanted s := wanted_congr resolved (by rw [plans])
  have lanes : ∀ i, enabled t i = enabled s i := enabled_congr (by rw [plans])
  simp only [Starts, StartStands, locked, wish, plans, slot, lanes]

/-- In DARK with no lane FAULTED the start is judged by the standing conditions alone. -/
theorem starts_iff {s : State} (off : ∀ i, (s.lane i).state = .off) : wanted s = .start ∧ startConditions s = true ↔ Starts s := by
  have works : ∀ i, working s i = enabled s i := fun i => by simp [working, isFaulted, off]
  simp only [startConditions_iff, works, Starts, StartStands]
  tauto

/-- A meter that has entered DARK and started at that moment. -/
structure Restarted (cause : ModeCause) (p : List Byte) (s t : State) : Prop where
  started : Started p (fun i => planEnables p i = true) t
  others : ∀ i, planEnables p i = false → (t.lane i).state = .off
  aspect : ∀ i, t.aspect i = none
  hold : t.meter.hold = none
  requests : t.meter.requests = s.meter.requests
  rate : t.rate = { s.rate with inForce := none }
  ring : t.sched.ring = []
  posted : Posted [modeEvent .dark cause, modeEvent .startup .start] s t
  site : KeepsSite s t
  links : t.links = s.links

theorem judgeStart_dark {s : State} (dark : s.mode = .dark) :
    judgeStart s = if wanted s = .start ∧ startConditions s = true then startMeter .start s else s := by
  by_cases start : wanted s = .start <;> simp [judgeStart, tryStart, start, dark]

section Entry
variable {cause : ModeCause} {s : State} (dark : ∀ i, (s.lane i).state = .off ∨ (s.lane i).state = .faulted)
include dark

theorem starts_darkened : wanted (enterDark cause s) = .start ∧ startConditions (enterDark cause s) = true ↔ Starts s := by
  have entered := darkened cause dark
  rw [starts_iff entered.lane]
  exact Starts.congr (by simp) (by simp) (by rw [entered.meter])

theorem enterDarkJudged_stays (stays : ¬ Starts s) : enterDarkJudged cause s = enterDark cause s := by
  rw [enterDarkJudged, judgeStart_dark (darkened cause dark).mode, if_neg (mt (starts_darkened dark).mp stays)]

theorem enterDarkJudged_starts {p : List Byte} (plan : s.plans.plan = some p) (starts : Starts s) :
    Restarted cause p s (enterDarkJudged cause s) := by
  have entered := darkened cause dark
  have begins : enterDarkJudged cause s = startMeter .start (enterDark cause s) := by
    rw [enterDarkJudged, judgeStart_dark entered.mode, if_pos ((starts_darkened dark).mpr starts)]
  have plan' : (enterDark cause s).plans.plan = some p := by simp [plan]
  have works : ∀ i, working (enterDark cause s) i = planEnables p i := fun i => by
    simp [working, isFaulted, entered.lane, enabled, plan]
  have started := started_startMeter (cause := .start) plan' fun i _ => .inl (entered.lane i)
  simp only [works] at started
  obtain ⟨rate, ring⟩ := startMeter_rate .start (enterDark cause s)
  have meter := startMeter_meter .start (enterDark cause s)
  rw [begins]
  refine ⟨started, fun i out => ?_, aspect_replicate ?_, ?_, ?_, rate.trans entered.rate, ring.trans entered.ring,
    entered.posted.trans (posted_startMeter .start _), ?_, ?_⟩
  · rw [startMeter_notWorking ((works i).trans out)]
    exact entered.lane i
  · rw [meter, entered.meter]
  · rw [meter, entered.meter]
  · rw [meter, entered.meter]
  · exact HandWork.KeepsSite.trans entered.site (by simp [KeepsSite])
  · simp

end Entry

end Sys2Proof.DarkEntries
end

section
/-! Manual control: ENTER MANUAL, SET ASPECT, SET BEACON, EXIT MANUAL and the end of FAULT_DARK (O42, O43, O44). -/

namespace Sys2Proof.Manual
open Sys2Proof.Machine Sys2Proof.Steps Sys2Proof.Steady Sys2Proof.Holders Sys2Proof.AbsentLinks Sys2Proof.LaneLaws
open Sys2Proof.Transitions Sys2Proof.ModeSteps Sys2Proof.Lamps Sys2Proof.HandWork Sys2Proof.DarkEntries Sys2Proof.Requests Sys2Proof.Activations

/-! ### The received state -/

theorem received_lane (l : LinkId) (k : Bool) (s : State) (i : Fin 3) : (received l k s).lane i = s.lane i := by simp [State.lane]

theorem received_drive (l : LinkId) (k : Bool) (s : State) (d : Fin 10) : (received l k s).drive d = s.drive d := by simp [State.drive]

theorem received_aspect (l : LinkId) (k : Bool) (s : State) (i : Fin 3) : (received l k s).aspect i = s.aspect i := by
  simp [State.aspect]

theorem keepsSite_received (l : LinkId) (k : Bool) (s : State) : KeepsSite s (received l k s) := by simp [KeepsSite]

/-- What an accepted request of Link L leaves of the site and of Link C, where its owner keeps both. -/
theorem keeps_answered {s t : State} {kind tag : Byte} {p : List Byte} (site : KeepsSite (received .L false s) t)
    (links : t.links = (received .L false s).links) :
    KeepsSite s (answered .L kind tag .accepted p t) ∧ KeepsLink .C s (answered .L kind tag .accepted p t) := by
  refine ⟨KeepsSite.trans (KeepsSite.trans (keepsSite_received .L false s) site) (by simp [KeepsSite]), answered_keepsLink (by decide) ?_⟩
  rw [State.link, links, ← State.link]
  exact received_other (by decide) false s

/-- A request of Link L, KEEPALIVE apart, is answered by its owner in the received state. -/
theorem exec_onL {c : Instr} {kind tag : Byte} {p : List Byte} {s : State} {a : Answer}
    (parts : requestParts c = some (.L, kind, tag, p)) (notNop : ∀ l' tag' p', c ≠ .nop l' tag' p')
    (steady : SteadyFrame .L false s) (uncounted : (kind == 0x02) = false) (answer : requestAnswer c (received .L false s) = a) :
    exec c s = .next (answered .L kind tag a.status a.payload a.state) :=
  exec_steady parts notNop (by rw [uncounted]; exact steady) (by rw [uncounted]; exact answer)

theorem exec_acceptedL {c : Instr} {kind tag : Byte} {p q : List Byte} {s t : State}
    (parts : requestParts c = some (.L, kind, tag, p)) (notNop : ∀ l' tag' p', c ≠ .nop l' tag' p')
    (steady : SteadyFrame .L false s) (uncounted : (kind == 0x02) = false)
    (answer : requestAnswer c (received .L false s) = accept t q) :
    exec c s = .next (answered .L kind tag .accepted q t) := exec_onL parts notNop steady uncounted answer

/-! ### SET ASPECT -/

theorem laneOf_byte (i : Fin 3) (rest : List Byte) : laneOf (byteAt (byte (i.val + 1) :: rest) 0) = some i := by
  match i with
  | 0 => rfl
  | 1 => rfl
  | 2 => rfl

theorem aspectOf_code (b : Byte) (a : Aspect) : aspectOf (byteAt [b, byte a.code] 1) = some a := by cases a <;> rfl

theorem aspectOf_none {a b : Byte} (h : 2 < b.toNat) : aspectOf (byteAt [a, b] 1) = none := by
  show aspectOf b.toNat = none
  generalize b.toNat = n at h
  match n, h with
  | 0, h | 1, h | 2, h => omega
  | n + 3, _ => rfl

theorem requestAnswer_setAspect (tag : Byte) (i : Fin 3) (a : Aspect) (s : State) :
    requestAnswer (.setAspect .L tag [byte (i.val + 1), byte a.code]) s = setAspectChecked i a s := by
  simp only [requestAnswer, Permitted.allows, if_true]
  rw [withLength_of_eq (show [byte (i.val + 1), byte a.code].length = 2 from rfl), withLane_of_some (laneOf_byte i _), aspectOf_code]

/-- The table of R103 with the orders carried out: what a new pending aspect makes of a lane and of itself. -/
theorem worked_table (greenMin amber red : Nat) (a : Aspect) (x : Lane) (keeps : Option Aspect) (unfaulted : x.state ≠ .faulted) :
    worked (greenMin, amber, red) x (some a) =
      (match a, x.state with
      | .red, .green | .red, .restGreen | .green, .restGreen =>
        if x.age < greenMin then ({ x with held := some .clear }, some a) else (x.toAmber amber false, some a)
      | .off, .green | .off, .restGreen =>
        if x.age < greenMin then ({ x with held := some .stop }, some a) else (x.toAmber amber true, some a)
      | .green, .green => (x, none)
      | .red, .amber | .green, .amber | .off, .amber => (x, some a)
      | .red, .red | .red, .ready => (x, none)
      | .green, .red => (x, some a)
      | .green, .ready => (x.toGreen none, none)
      | .off, .red | .off, .ready => (x.toOFF, none)
      | .off, .off => (x, none)
      | .red, .off => (x.toRed red, none)
      | .green, .off => (x.toRed red, some a)
      | _, .faulted => (x, keeps)) := by
  by_cases young : x.age < greenMin <;> cases h : x.state
  case neg.faulted | pos.faulted => exact absurd h unfaulted
  all_goals
    cases a <;>
      simp [worked, workedOnce, aspectOrder, clearLane, stopLane, goLane, h, young, Lane.toAmber, Lane.toGreen, Lane.toOFF, Lane.toRed]

theorem setAspectChecked_manual {i : Fin 3} {a : Aspect} {s : State} (mode : s.mode = .manual) (unfaulted : (s.lane i).state ≠ .faulted) :
    setAspectChecked i a s = accept (workLane i (s.setAspectOf i (some a)))
      [if ((workLane i (s.setAspectOf i (some a))).aspect i).isSome then 1 else 0] := by
  have works : isFaulted s i = false := by simp [isFaulted, unfaulted]
  rw [setAspectChecked, if_neg (by simp [mode]), works]
  rfl

theorem setAspectChecked_faulted {i : Fin 3} {a : Aspect} {s : State} (mode : s.mode = .manual) (faulted : (s.lane i).state = .faulted) :
    setAspectChecked i a s = refuse s .wrongState := by
  rw [setAspectChecked, if_neg (by simp [mode]), if_pos (by simp [isFaulted, faulted])]

theorem setAspectChecked_other {i : Fin 3} {a : Aspect} {s : State} (mode : s.mode ≠ .manual) :
    setAspectChecked i a s = refuse s .wrongMode := if_pos mode

theorem commandBeacon_manual {s : State} (on : Bool) (mode : s.mode = .manual) : commandBeacon on s =
    ({ s with meter := { s.meter with beacon := on } }).setDrive 9 ((s.drive 9).command s.limits on) := by
  have output : driverOutput { s with meter := { s.meter with beacon := on } } on = on := by
    have kept : ({ s with meter := { s.meter with beacon := on } } : State).mode = .manual := mode
    simp [driverOutput, kept]
  rw [commandBeacon, handDrive, output]
  rfl

/-- SET BEACON is answered by its two checks. -/
theorem requestAnswer_setBeacon (tag b : Byte) (s : State) : requestAnswer (.setBeacon .L tag [b]) s =
    if b.toNat ≤ 1 then (if s.mode = .manual then accept (commandBeacon (b.toNat == 1) s) [] else refuse s .wrongMode)
    else refuseRange s 0 := by
  simp only [requestAnswer, Permitted.allows, if_true]
  rw [withLength_of_eq (show [b].length = 1 from rfl)]
  have first : byteAt [b] 0 = b.toNat := rfl
  rw [first]
  by_cases ok : b.toNat ≤ 1
  · rw [if_pos ok, withFields_of_pass (by simp [firstFailure, inRange, ok])]
  · rw [if_neg ok, withFields_of_fail (k := 0) (by simp [firstFailure, inRange, ok])]

/-- Settles O44: SET ASPECT by the table of R103, and SET BEACON. -/
theorem setAspectAndSetBeacon : Obligations.SetAspectAndSetBeacon := by
  unfold Obligations.SetAspectAndSetBeacon
  intro tag s steady
  have rmode : (received .L false s).mode = s.mode := received_mode .L false s
  have rlane := received_lane .L false s
  refine ⟨fun i a mode unfaulted => ?_, fun i a => ⟨fun mode => ?_, fun mode faulted => ?_⟩, fun on => ⟨fun mode => ?_, fun mode => ?_⟩,
    fun n b out => ?_, fun i b out => ?_, fun b out => ?_⟩
  · have answer := (requestAnswer_setAspect tag i a (received .L false s)).trans
      (setAspectChecked_manual (rmode.trans mode) (by rw [rlane]; exact unfaulted))
    have run := exec_acceptedL (c := .setAspect .L tag [byte (i.val + 1), byte a.code]) rfl (by simp) steady rfl answer
    obtain ⟨alone, now⟩ := workLane_facts i ((received .L false s).setAspectOf i (some a))
    have whole := (LaneAlone.putAspect i (some a) (received .L false s)).trans alone
    have times : orderTimes ((received .L false s).setAspectOf i (some a)) =
        (s.limits.greenMin * 10, s.limits.amberMin * 10, s.limits.redMin * 10) := by
      rw [(LaneAlone.putAspect i (some a) (received .L false s)).times, orderTimes_manual (rmode.trans mode)]
      simp
    have pending : ((received .L false s).setAspectOf i (some a)).aspect i = some a := by simp
    have lane : ((received .L false s).setAspectOf i (some a)).lane i = s.lane i := rlane i
    rw [times, pending, lane, worked_table _ _ _ a _ (s.aspect i) unfaulted] at now
    obtain ⟨site, other⟩ := keeps_answered (kind := 0x44) (tag := tag)
      (p := [if ((workLane i ((received .L false s).setAspectOf i (some a))).aspect i).isSome then 1 else 0]) whole.site whole.links
    have tmode := whole.mode.trans (rmode.trans mode)
    generalize workLane i ((received .L false s).setAspectOf i (some a)) = t at *
    refine ⟨_, run, ?_⟩
    simp only [answered_mode, answered_lane, answered_aspect, answered_drive, answered_frame, Capabilities.answered_lastReply]
    refine ⟨tmode, now, fun j ne => ⟨(whole.lane j ne).trans (rlane j), (whole.aspect j ne).trans (received_aspect .L false s j)⟩,
      fun c => ?_, trivial, site, other, by rw [whole.rate]; simp, by rw [whole.events]; simp⟩
    obtain handed | ⟨same, -⟩ := whole.drive (by rw [rmode, mode]; decide)
    · exact .inl (handed c)
    · exact .inr (same.trans (congrArg Lane.state (rlane i)))
  · exact exec_onL (c := .setAspect .L tag [byte (i.val + 1), byte a.code]) (a := refuse (received .L false s) _) rfl (by simp) steady rfl
      ((requestAnswer_setAspect tag i a _).trans (setAspectChecked_other (by rwa [rmode])))
  · exact exec_onL (c := .setAspect .L tag [byte (i.val + 1), byte a.code]) (a := refuse (received .L false s) _) rfl (by simp) steady rfl
      ((requestAnswer_setAspect tag i a _).trans (setAspectChecked_faulted (rmode.trans mode) (by rw [rlane]; exact faulted)))
  · refine exec_onL (c := .setBeacon .L tag [byte (flagCode on)]) (a := accept _ _) rfl (by simp) steady rfl ?_
    rw [requestAnswer_setBeacon, if_pos (by cases on <;> decide), if_pos (rmode.trans mode)]
    rw [show ((byte (flagCode on)).toNat == 1) = on by cases on <;> rfl, commandBeacon_manual on (rmode.trans mode)]
    rfl
  · refine exec_onL (c := .setBeacon .L tag [byte (flagCode on)]) (a := refuse (received .L false s) _) rfl (by simp) steady rfl ?_
    rw [requestAnswer_setBeacon, if_pos (by cases on <;> decide), if_neg (by rwa [rmode])]
  · refine exec_onL (c := .setAspect .L tag [n, b]) (a := refuseRange (received .L false s) _) rfl (by simp) steady rfl ?_
    simp only [requestAnswer, Permitted.allows, if_true]
    rw [withLength_of_eq (show [n, b].length = 2 from rfl), withLane_of_none (laneOf_none ?_)]
    exact out.imp (fun zero => by rw [zero]; exact Nat.zero_lt_one) id
  · refine exec_onL (c := .setAspect .L tag [byte (i.val + 1), b]) (a := refuseRange (received .L false s) _) rfl (by simp) steady rfl ?_
    simp only [requestAnswer, Permitted.allows, if_true]
    rw [withLength_of_eq (show [byte (i.val + 1), b].length = 2 from rfl), withLane_of_some (laneOf_byte i _), aspectOf_none out]
  · refine exec_onL (c := .setBeacon .L tag [b]) (a := refuseRange (received .L false s) _) rfl (by simp) steady rfl ?_
    rw [requestAnswer_setBeacon, if_neg (by omega)]

/-! ### ENTER MANUAL -/

/-- What ENTER MANUAL makes of a lane and its pending aspect (R102). -/
def taken (times : Nat × Nat × Nat) (x : Lane) (a : Option Aspect) : Cell :=
  if x.state = .faulted then (x, a) else worked times { x with restAwaits := false } (some .red)

theorem takeManual_facts (i : Fin 3) (s : State) :
    LaneAlone i s (takeManual i s) ∧ cell i (takeManual i s) = taken (orderTimes s) (s.lane i) (s.aspect i) := by
  by_cases faulted : (s.lane i).state = .faulted
  · have kept : takeManual i s = s := by simp [takeManual, isFaulted, faulted]
    rw [kept, taken, if_pos faulted]
    exact ⟨.refl i s, rfl⟩
  · have works : takeManual i s = workLane i ((withdrawRest i s).setAspectOf i (some .red)) := by
      simp [takeManual, isFaulted, faulted]
    have before : LaneAlone i s ((withdrawRest i s).setAspectOf i (some .red)) :=
      (LaneAlone.put (x := { s.lane i with restAwaits := false }) rfl).trans (.putAspect i _ _)
    have lane : ((withdrawRest i s).setAspectOf i (some .red)).lane i = { s.lane i with restAwaits := false } := by
      simp [withdrawRest]
    have aspect : ((withdrawRest i s).setAspectOf i (some .red)).aspect i = some .red := by simp
    obtain ⟨alone, now⟩ := workLane_facts i ((withdrawRest i s).setAspectOf i (some .red))
    rw [before.times, lane, aspect] at now
    rw [works, taken, if_neg faulted]
    exact ⟨before.trans alone, now⟩

theorem taken_cases (greenMin amber red : Nat) (x : Lane) (a : Option Aspect) :
    (x.state = .off → (taken (greenMin, amber, red) x a).1.state = .red ∧ (taken (greenMin, amber, red) x a).1.timer = some red ∧
        (taken (greenMin, amber, red) x a).2 = none) ∧
      (x.state = .green ∨ x.state = .restGreen → greenMin ≤ x.age → (taken (greenMin, amber, red) x a).1.state = .amber ∧
        (taken (greenMin, amber, red) x a).1.timer = some amber ∧ (taken (greenMin, amber, red) x a).2 = some .red) ∧
      (x.state = .green ∨ x.state = .restGreen → x.age < greenMin →
        taken (greenMin, amber, red) x a = ({ x with held := some .clear, restAwaits := false }, some .red)) ∧
      (x.state = .red ∨ x.state = .ready → taken (greenMin, amber, red) x a = ({ x with restAwaits := false }, none)) ∧
      (x.state = .amber → taken (greenMin, amber, red) x a = ({ x with restAwaits := false }, some .red)) ∧
      (x.state = .faulted → taken (greenMin, amber, red) x a = (x, a)) := by
  have table : x.state ≠ .faulted → taken (greenMin, amber, red) x a = _ := fun unfaulted =>
    (if_neg unfaulted).trans (worked_table greenMin amber red .red { x with restAwaits := false } none unfaulted)
  refine ⟨fun h => ?_, fun h old => ?_, fun h young => ?_, fun h => ?_, fun h => ?_, fun h => if_pos h⟩
  · rw [table (by rw [h]; decide)]
    simp only [h]
    exact ⟨rfl, rfl, trivial⟩
  · have late : ¬ x.age < greenMin := Nat.not_lt.mpr old
    obtain h | h := h <;> rw [table (by rw [h]; decide)] <;> simp only [h, if_neg late] <;> exact ⟨rfl, rfl, trivial⟩
  · obtain h | h := h <;> rw [table (by rw [h]; decide)] <;> simp only [h, if_pos young]
  · obtain h | h := h <;> rw [table (by rw [h]; decide)] <;> simp only [h]
  · rw [table (by rw [h]; decide)]
    simp only [h]

theorem takenManual_sched (s : State) : (Agreement.manualEntered s).sched.ring = [] := rfl

theorem enterManual_facts (s : State) :
    (∀ i, cell i (enterManual s) = taken (s.limits.greenMin * 10, s.limits.amberMin * 10, s.limits.redMin * 10) (s.lane i) (s.aspect i)) ∧
      (enterManual s).rate = { s.rate with inForce := none } ∧ (enterManual s).sched.ring = [] := by
  have mode : (Agreement.manualEntered s).mode = .manual := rfl
  have lane : ∀ i, (Agreement.manualEntered s).lane i = s.lane i := fun i => by simp [Agreement.manualEntered]
  have limits : (Agreement.manualEntered s).limits = s.limits := by simp [Agreement.manualEntered]
  have rate : (Agreement.manualEntered s).rate = { s.rate with inForce := none } := by
    simp [Agreement.manualEntered, leaveReleases, disengage]
  have aspect : ∀ i, (Agreement.manualEntered s).aspect i = s.aspect i := fun i => by
    simp [Agreement.manualEntered, State.aspect, State.putHold, State.putPhase]
  have ring : (Agreement.manualEntered s).sched.ring = [] := takenManual_sched s
  rw [Agreement.enterManual_eq]
  generalize Agreement.manualEntered s = u at *
  refine ⟨fun i => ?_, ?_, ?_⟩
  · rw [cell_orderEach takeManual_facts allLanes_nodup, if_pos (mem_allLanes i), orderTimes_manual mode, limits, lane, aspect]
  · rw [orderEach_rate takeManual takeManual_rate, rate]
  · rw [(keepsReleases_orderEach (fun i s => (takeManual_facts i s).1.releases) allLanes u).1, ring]

/-- ENTER MANUAL from a PRESENT Link L is answered with what its checks make of the received state. -/
theorem exec_enterManual {s : State} {a : Answer} (tag : Byte) (steady : SteadyFrame .L false s) (on : (s.link .L).state = .present)
    (answer : enterManualChecked (received .L false s) = a) :
    exec (.enterManual .L tag []) s = .next (answered .L 0x43 tag a.status a.payload a.state) :=
  exec_onL (c := .enterManual .L tag []) rfl (by simp) steady rfl (by
    simp only [requestAnswer, Permitted.allows, if_true, withoutPayload_nil]
    rw [whenPresent_of_present _ (by simp [on])]
    exact answer)

/-- Settles O42: ENTER MANUAL, lane by lane, and its refusals. -/
theorem enterManualBringsLanesToRed : Obligations.EnterManualBringsLanesToRed := by
  unfold Obligations.EnterManualBringsLanesToRed
  refine ⟨fun tag s steady on => ?_, fun tag s steady off => ?_⟩
  · have rmode : (received .L false s).mode = s.mode := received_mode .L false s
    have run := fun a => exec_enterManual (a := a) tag steady on
    refine ⟨fun notManual notDark => ?_, fun mode => run (refuse (received .L false s) _) (if_pos (rmode.trans mode)),
      fun mode => run (refuse (received .L false s) _) ?_⟩
    · have accepted : enterManualChecked (received .L false s) = accept (enterManual (received .L false s)) [] := by
        rw [enterManualChecked, if_neg (by rwa [rmode]), if_neg (by rwa [rmode])]
      have run := run _ accepted
      obtain ⟨cells, rate, ring⟩ := enterManual_facts (received .L false s)
      have meter := enterManual_meter (received .L false s)
      have posted := posted_enterManual (received .L false s)
      obtain ⟨site, other⟩ := keeps_answered (kind := 0x43) (tag := tag) (p := []) (s := s) (t := enterManual (received .L false s))
        (by simp [KeepsSite]) (by simp)
      have events : (enterManual (received .L false s)).events = (s.post .modeChange 0 (5 * 256 + 9)).events :=
        (posted.before (by simp) (by simp)).1
      simp only [received_lane, received_aspect, received_frame] at cells rate ring meter
      generalize enterManual (received .L false s) = t at *
      have table := fun i => taken_cases (s.limits.greenMin * 10) (s.limits.amberMin * 10) (s.limits.redMin * 10) (s.lane i) (s.aspect i)
      simp only [← cells] at table
      refine ⟨_, run, ?_⟩
      simp only [accept, answered_mode, answered_lane, answered_aspect, answered_frame, Capabilities.answered_lastReply, ring, rate]
      refine ⟨by rw [State.mode, meter], by rw [meter], by rw [meter], by rw [meter], trivial, trivial, fun i => (table i).1,
        fun i => (table i).2.1, fun i h young => Prod.mk.injEq .. ▸ (table i).2.2.1 h young,
        fun i h => Prod.mk.injEq .. ▸ (table i).2.2.2.1 h, fun i h => Prod.mk.injEq .. ▸ (table i).2.2.2.2.1 h,
        fun i h => congrArg Prod.fst ((table i).2.2.2.2.2 h), trivial, site, other, trivial, by rw [meter], events⟩
    · rw [enterManualChecked, if_neg (by rw [rmode, mode]; decide), if_pos (rmode.trans mode)]
  · refine exec_onL (c := .enterManual .L tag []) (a := refuse (received .L false s) _) rfl (by simp) steady rfl ?_
    simp only [requestAnswer, Permitted.allows, if_true, withoutPayload_nil]
    exact whenPresent_of_not _ (by simp [off])

/-! ### The ends in DARK -/

/-- A state in which everything is dark and DARK may be entered, with what it owes to the state before. -/
structure Dimmed (s u : State) : Prop where
  dark : ∀ i, (u.lane i).state = .off ∨ (u.lane i).state = .faulted
  unlit : ∀ i c, (u.lane i).state ≠ .faulted → (u.drive (driveOf i c)).commanded = false
  sensed : ∀ k, (u.drive k).sensed = (s.drive k).sensed
  rate : u.rate = s.rate
  requests : u.meter.requests = s.meter.requests
  resolved : u.meter.resolved = s.meter.resolved
  site : KeepsSite s u
  links : u.links = (received .L false s).links

theorem Dimmed.starts {s u : State} (h : Dimmed s u) : Starts u ↔ Starts s := by
  obtain ⟨-, -, -, -, plans, -, locked, -⟩ := h.site
  exact Starts.congr locked plans h.resolved

theorem Dimmed.drive {s u : State} (h : Dimmed s u) (cause : ModeCause) (k : Fin 10) :
    (enterDark cause u).drive k = provedDark s.limits (s.drive k).sensed := by
  obtain ⟨-, -, -, -, -, limits, -, -⟩ := h.site
  rw [← limits, ← h.sensed k]
  obtain rfl | ⟨i, c, rfl⟩ := drive_of_lane k
  · exact enterDark_beacon cause u
  · exact enterDark_drive cause (h.unlit i c)

/-- What an end in DARK keeps of the site and of Link C. -/
theorem Dimmed.keeps {s u t : State} {kind tag : Byte} {p : List Byte} (h : Dimmed s u) (site : KeepsSite u t) (links : t.links = u.links) :
    KeepsSite s (answered .L kind tag .accepted p t) ∧ KeepsLink .C s (answered .L kind tag .accepted p t) := by
  refine ⟨KeepsSite.trans (KeepsSite.trans h.site site) (by simp [KeepsSite]), answered_keepsLink (by decide) ?_⟩
  rw [State.link, links, h.links, ← State.link]
  exact received_other (by decide) false s

theorem cut_drive (i : Fin 3) (c : Colour) (s : State) :
    ((s.lane i).state ≠ .faulted → ((orderCut i s).drive (driveOf i c)).commanded = false) ∧
      ((orderCut i s).drive (driveOf i c)).sensed = (s.drive (driveOf i c)).sensed := by
  by_cases faulted : (s.lane i).state = .faulted
  · rw [(orders_faulted faulted).2.2.2.2]
    exact ⟨fun h => absurd faulted h, rfl⟩
  · have cut : orderCut i s = enterLane i (s.lane i).toOFF s := by
      cases h : (s.lane i).state <;> simp_all [orderCut]
    have off : commands (s.lane i).toOFF.state c = false := rfl
    rw [cut, drive_enterLane, if_pos rfl, Drive.command_commanded, Drive.command_sensed, off]
    exact ⟨fun _ => rfl, rfl⟩

/-- The lanes cut at the end of MANUAL, with the beacon off. -/
def lanesCut (s : State) : State := commandBeacon false (orderEach orderCut allLanes (clearAspects s))

theorem endManual_eq (cause : ModeCause) (s : State) : endManual cause s = enterDarkJudged cause (lanesCut s) := rfl

theorem lanesCut_lane (s : State) (i : Fin 3) : (lanesCut s).lane i = cutLane (s.lane i) := by
  rw [lanesCut, lane_commandBeacon, lane_orderCuts allLanes_nodup, if_pos (mem_allLanes i), lane_clearAspects]

theorem lanesCut_drive (s : State) (i : Fin 3) (c : Colour) :
    ((s.lane i).state ≠ .faulted → ((lanesCut s).drive (driveOf i c)).commanded = false) ∧
      ((lanesCut s).drive (driveOf i c)).sensed = (s.drive (driveOf i c)).sensed := by
  obtain ⟨u, before, after⟩ := orderEach_at (f := orderCut) cut_other allLanes_nodup (mem_allLanes i) (clearAspects s)
  have drive : (lanesCut s).drive (driveOf i c) = (orderCut i u).drive (driveOf i c) := by
    rw [lanesCut, drive_commandBeacon_lane, after.drive c]
  have cut := cut_drive i c u
  rw [before.lane, before.drive c, lane_clearAspects, drive_clearAspects] at cut
  rw [drive]
  exact cut

theorem lanesCut_beacon (s : State) : ((lanesCut s).drive beaconDrive).sensed = (s.drive beaconDrive).sensed := by
  have kept : (orderEach orderCut allLanes (clearAspects s)).drive beaconDrive = s.drive beaconDrive :=
    orderEach_keeps (P := fun v => v.drive beaconDrive = s.drive beaconDrive)
      (fun i _ v h => ((actsOnLane_cut i v).beaconDrive).trans h) rfl
  rw [lanesCut, drive_commandBeacon, Drive.command_sensed, kept]

theorem cutLane_state (x : Lane) : (cutLane x).state = if x.state = .faulted then .faulted else .off := by
  cases h : x.state <;> simp [cutLane, h, Lane.toOFF]

theorem dimmed_lanesCut (s : State) : Dimmed s (lanesCut (received .L false s)) where
  dark i := by
    rw [lanesCut_lane, cutLane_state]
    split
    · exact .inr rfl
    · exact .inl rfl
  unlit i c unfaulted := (lanesCut_drive _ i c).1 fun faulted => unfaulted (by rw [lanesCut_lane, cutLane_state, if_pos faulted])
  sensed k := by
    rw [← received_drive .L false s]
    obtain rfl | ⟨i, c, rfl⟩ := drive_of_lane k
    · exact lanesCut_beacon _
    · exact (lanesCut_drive _ i c).2
  rate := by simp [lanesCut]
  requests := by simp [lanesCut, clearAspects]
  resolved := by simp [lanesCut, clearAspects]
  site := by simp [lanesCut, KeepsSite]
  links := by simp [lanesCut]

theorem posted_lanesCut {s t : State} {es : List (EventKind × Nat × Nat)} (h : Posted es (lanesCut (received .L false s)) t) :
    Posted es s t := h.before (by simp [lanesCut]) (by simp [lanesCut])

theorem dimmed_faultCleared {s : State} (dark : ∀ i, (s.lane i).state = .off ∨ (s.lane i).state = .faulted)
    (unlit : ∀ i c, (s.drive (driveOf i c)).commanded = false) : Dimmed s ((received .L false s).post .faultCleared 0 0) where
  dark i := by rw [lane_post, received_lane]; exact dark i
  unlit i c _ := by rw [drive_post, received_drive]; exact unlit i c
  sensed k := by rw [drive_post, received_drive]
  rate := by simp
  requests := by simp
  resolved := by simp
  site := by simp [KeepsSite]
  links := by simp

theorem clearMeterChecked_clears {s : State} (mode : s.mode = .faultDark) (free : conflictHeld s = false) :
    clearMeterChecked s = accept (enterDarkJudged .faultCleared (s.post .faultCleared 0 0)) [] := by
  rw [clearMeterChecked, if_neg (by simp [mode]), if_neg (by simp [free])]

theorem exec_exitManual {s : State} (tag : Byte) (steady : SteadyFrame .L false s) (mode : s.mode = .manual) :
    exec (.exitManual .L tag []) s =
      .next (answered .L 0x46 tag .accepted [] (enterDarkJudged .manualExited (lanesCut (received .L false s)))) := by
  refine exec_acceptedL (c := .exitManual .L tag []) rfl (by simp) steady rfl ?_
  simp only [requestAnswer, Permitted.allows, if_true, withoutPayload_nil]
  rw [if_pos ((received_mode .L false s).trans mode), endManual_eq]

/-- CLEAR FAULT (meter) from a PRESENT Link L is answered with what its checks make of the received state. -/
theorem exec_clearMeter {s : State} {a : Answer} (tag : Byte) (steady : SteadyFrame .L false s) (on : (s.link .L).state = .present)
    (answer : clearMeterChecked (received .L false s) = a) :
    exec (.clearFaultMeter .L tag []) s = .next (answered .L 0x47 tag a.status a.payload a.state) :=
  exec_onL (c := .clearFaultMeter .L tag []) rfl (by simp) steady rfl (by
    simp only [requestAnswer, Permitted.allows, if_true, withoutPayload_nil]
    rw [whenPresent_of_present _ (by simp [on])]
    exact answer)

theorem exec_clearMeter_accepts {s t : State} {q : List Byte} (tag : Byte) (steady : SteadyFrame .L false s)
    (on : (s.link .L).state = .present) (answer : clearMeterChecked (received .L false s) = accept t q) :
    exec (.clearFaultMeter .L tag []) s = .next (answered .L 0x47 tag .accepted q t) := exec_clearMeter tag steady on answer

theorem conflictHeld_received (s : State) : conflictHeld (received .L false s) = conflictHeld s := by
  simp [conflictHeld, received_drive]

theorem exec_clearsMeter {s : State} (tag : Byte) (steady : SteadyFrame .L false s) (on : (s.link .L).state = .present)
    (mode : s.mode = .faultDark) (free : conflictHeld s = false) : exec (.clearFaultMeter .L tag []) s =
      .next (answered .L 0x47 tag .accepted [] (enterDarkJudged .faultCleared ((received .L false s).post .faultCleared 0 0))) := by
  have answer := clearMeterChecked_clears ((received_mode .L false s).trans mode) ((conflictHeld_received s).trans free)
  exact exec_clearMeter_accepts tag steady on answer

section Ends
variable {s u : State} (h : Dimmed s u) (cause : ModeCause) (kind tag : Byte)
include h

/-- The end in DARK where no start stands. -/
theorem Dimmed.stays (stays : ¬ Starts s) :
    let t := answered .L kind tag .accepted [] (enterDarkJudged cause u)
    (t.mode = .dark ∧ t.meter.phase = .idle ∧ t.meter.hold = none ∧ t.meter.beacon = false ∧
      (∀ i, (t.lane i).state = .off ∧ t.aspect i = none) ∧
      (∀ k, t.drive k = ⟨false, (s.drive k).sensed, startBlank s.limits.lampBlank, .clear,
        if s.limits.lampBlank = 0 ∧ (s.drive k).sensed then .suspect 0 s.limits.lampDeglitch else .clear⟩) ∧
      t.rate.inForce = none ∧ t.sched.ring = [] ∧ KeepsSite s t ∧ KeepsLink .C s t ∧ t.rate.orders = s.rate.orders ∧
      t.meter.requests = s.meter.requests) ∧ (t.link .L).lastReply = ⟨kind, tag, .accepted, []⟩ ∧
      Posted [modeEvent .dark cause] u (enterDarkJudged cause u) := by
  have entered := darkened cause h.dark
  obtain ⟨site, other⟩ := h.keeps (kind := kind) (tag := tag) (p := []) entered.site entered.links
  have drive := h.drive cause
  rw [enterDarkJudged_stays h.dark (mt h.starts.mp stays)]
  generalize enterDark cause u = v at *
  dsimp only
  simp only [answered_mode, answered_lane, answered_aspect, answered_drive, answered_frame, Capabilities.answered_lastReply, entered.meter,
    entered.rate, entered.ring, h.rate, h.requests]
  exact ⟨⟨entered.mode, trivial, trivial, trivial, fun i => ⟨entered.lane i, aspect_replicate (by rw [entered.meter]) i⟩, drive, trivial,
    trivial, site, other, trivial, trivial⟩, trivial, entered.posted⟩

/-- The end in DARK from which a standing start starts the meter. -/
theorem Dimmed.restarts {p : List Byte} (plan : s.plans.plan = some p) (starts : Starts s) :
    let t := answered .L kind tag .accepted [] (enterDarkJudged cause u)
    (Started p (fun i => planEnables p i = true) t ∧ (∀ i, planEnables p i = false → (t.lane i).state = .off) ∧
      (∀ i, t.aspect i = none) ∧ t.meter.hold = none ∧ t.rate.inForce = none ∧ t.sched.ring = [] ∧ KeepsSite s t ∧ KeepsLink .C s t ∧
      t.meter.requests = s.meter.requests) ∧ (t.link .L).lastReply = ⟨kind, tag, .accepted, []⟩ ∧
      Posted [modeEvent .dark cause, modeEvent .startup .start] u (enterDarkJudged cause u) := by
  obtain ⟨-, -, -, -, plans, -⟩ := h.site
  have again := enterDarkJudged_starts (cause := cause) h.dark (by rw [plans, plan]) (h.starts.mpr starts)
  obtain ⟨site, other⟩ := h.keeps (kind := kind) (tag := tag) (p := []) again.site again.links
  generalize enterDarkJudged cause u = v at *
  dsimp only
  simp only [answered_lane, answered_aspect, answered_frame, Capabilities.answered_lastReply, again.rate, again.ring, again.requests, h.requests]
  exact ⟨⟨LockLimits.Started.of_blocks again.started (by simp) (by simp) (by simp), again.others, again.aspect, again.hold, trivial, trivial, site,
    other, trivial⟩, trivial, again.posted⟩

end Ends

/-- Settles O43: the ends in DARK, and the standing start that follows. -/
theorem manualAndFaultDarkEndInDark : Obligations.ManualAndFaultDarkEndInDark := by
  unfold Obligations.ManualAndFaultDarkEndInDark
  intro tag s steady
  have rmode : (received .L false s).mode = s.mode := received_mode .L false s
  have exits := dimmed_lanesCut s
  have posts : ∀ es t, Posted es ((received .L false s).post .faultCleared 0 0) t → Posted ((.faultCleared, 0, 0) :: es) s t :=
    fun es t h => ((posted_post (received .L false s) .faultCleared 0 0).trans h).before (by simp) (by simp)
  refine ⟨fun p mode plan starts => ?_, fun p on mode free plan starts dark unlit => ?_, fun mode stays => ?_, fun mode => ?_,
    fun on mode free stays dark unlit => ?_, fun on mode held => ?_, fun on mode => ?_, fun off => ?_⟩
  · obtain ⟨facts, reply, posted⟩ := exits.restarts .manualExited 0x46 tag plan starts
    exact ⟨_, exec_exitManual tag steady mode, facts, reply, (answered_events ..).trans (posted_lanesCut posted).1⟩
  · obtain ⟨facts, reply, posted⟩ := (dimmed_faultCleared dark unlit).restarts .faultCleared 0x47 tag plan starts
    exact ⟨_, exec_clearsMeter tag steady on mode free, facts, reply, (answered_events ..).trans (posts _ _ posted).1⟩
  · obtain ⟨facts, reply, posted⟩ := exits.stays .manualExited 0x46 tag stays
    exact ⟨_, exec_exitManual tag steady mode, facts, reply, (answered_events ..).trans (posted_lanesCut posted).1⟩
  · refine exec_onL (c := .exitManual .L tag []) (a := refuse (received .L false s) _) rfl (by simp) steady rfl ?_
    simp only [requestAnswer, Permitted.allows, if_true, withoutPayload_nil]
    exact if_neg (by rwa [rmode])
  · obtain ⟨facts, reply, posted⟩ := (dimmed_faultCleared dark unlit).stays .faultCleared 0x47 tag stays
    exact ⟨_, exec_clearsMeter tag steady on mode free, facts, reply, (answered_events ..).trans (posts _ _ posted).1⟩
  · refine exec_clearMeter (a := refuse (received .L false s) _) tag steady on ?_
    rw [clearMeterChecked, if_neg (by simp [rmode, mode]), if_pos ((conflictHeld_received s).trans held)]
  · exact exec_clearMeter (a := refuse (received .L false s) _) tag steady on (if_pos (by rwa [rmode]))
  · refine exec_onL (c := .clearFaultMeter .L tag []) (a := refuse (received .L false s) _) rfl (by simp) steady rfl ?_
    simp only [requestAnswer, Permitted.allows, if_true, withoutPayload_nil]
    exact whenPresent_of_not _ (by simp [off])

end Sys2Proof.Manual
end

section
/-! The timers of a lane: the release cycle, the same cycle in SHUTDOWN, and in MANUAL toward the pending aspect (O54). -/

namespace Sys2Proof.Cycle
open Sys2Proof.Machine Sys2Proof.Steps Sys2Proof.LaneLaws Sys2Proof.Transitions Sys2Proof.ModeSteps Sys2Proof.PlanChanges
open Sys2Proof.Lamps Sys2Proof.HandWork Sys2Proof.Manual Sys2Proof.Activations Sys2Proof.Releases

/-! ### Where no sequence advances and no wish is acted on -/

theorem checkCleared_of_mode {s : State} (mode : s.mode ≠ .startup) : checkCleared s = s := by simp [checkCleared, cleared, mode]

theorem checkStopped_of_mode {s : State} (mode : s.mode ≠ .startup) : checkStopped s = s := by simp [checkStopped, mode]

theorem checkResting_of_mode {s : State} (mode : s.mode ≠ .shutdown) : checkResting s = s := by simp [checkResting, mode]

/-- A working lane that does not rest keeps a shutdown from resting. -/
theorem checkResting_unrested {s : State} {i : Fin 3} (works : working s i = true) (moves : (s.lane i).state ≠ .restGreen) :
    checkResting s = s := by
  have unrested : ¬ allResting s = true := fun rest => moves ((allResting_iff s).mp rest i works)
  rw [checkResting, if_neg fun h => unrested h.2.2]

theorem checkCleared_of_phase {s : State} (phase : s.meter.phase ≠ .clearing) : checkCleared s = s := by
  simp [checkCleared, cleared, phase]

theorem advanceSequence_idle {s : State} (startup : s.mode ≠ .startup) (shutdown : s.mode ≠ .shutdown) : advanceSequence s = s := by
  rw [advanceSequence, checkCleared_of_mode startup, checkStopped_of_mode startup, checkResting_of_mode shutdown]

/-- A mode and a wish in which the wish is acted on already. -/
def WishMet (s : State) : Prop :=
  (s.mode = .metering ∨ s.mode = .hold ∨ s.mode = .startup) ∧ wanted s ≠ .stop ∨ s.mode = .shutdown ∧ wanted s ≠ .start

theorem judgeWish_met {s : State} (met : WishMet s) : judgeWish s = s := by
  obtain ⟨h | h | h, wish⟩ | ⟨h, wish⟩ := met <;> cases w : wanted s <;> simp_all [judgeWish, actOnStart, actOnStop]

theorem WishMet.congr {s t : State} (mode : t.mode = s.mode) (wish : wanted t = wanted s) (met : WishMet s) : WishMet t := by
  rwa [WishMet, mode, wish]

/-! ### The cycle -/

/-- A lane that cycles: in METERING and HOLD, and a working one in SHUTDOWN, with no wish to act on. -/
def Cycles (s : State) (i : Fin 3) : Prop :=
  WishMet s ∧ (s.mode = .metering ∨ s.mode = .hold ∨ s.mode = .shutdown ∧ working s i = true)

section Cycles
variable {s : State} {i : Fin 3} {x : Lane}

theorem wanted_enterLane (i : Fin 3) (x : Lane) (s : State) : wanted (enterLane i x s) = wanted s :=
  wanted_congr (by simp) (by simp)

theorem judgeWish_enterLane (met : WishMet s) : judgeWish (enterLane i x s) = enterLane i x s :=
  judgeWish_met (met.congr (enterLane_mode s i x) (wanted_enterLane i x s))

theorem working_enterLane (moves : x.state ≠ .faulted) : working (enterLane i x s) i = enabled s i := by
  simp [working, isFaulted, moves, enabled]

theorem afterLaneChange_cycle (cycles : Cycles s i) (moves : x.state ≠ .restGreen ∧ x.state ≠ .faulted) :
    afterLaneChange i (enterLane i x s) = enterLane i x s := by
  have mode := enterLane_mode s i x
  obtain ⟨-, run⟩ := cycles
  have other : (enterLane i x s).mode ≠ .manual := by
    rw [mode]
    obtain h | h | ⟨h, -⟩ := run <;> rw [h] <;> decide
  rw [afterLaneChange, if_neg other]
  obtain h | h | ⟨h, works⟩ := run
  · exact advanceSequence_idle (by rw [mode, h]; decide) (by rw [mode, h]; decide)
  · exact advanceSequence_idle (by rw [mode, h]; decide) (by rw [mode, h]; decide)
  · have startup : (enterLane i x s).mode ≠ .startup := by rw [mode, h]; decide
    simp only [working, Bool.and_eq_true] at works
    rw [advanceSequence, checkCleared_of_mode startup, checkStopped_of_mode startup,
      checkResting_unrested (i := i) ((working_enterLane moves.2).trans works.1) (by simpa using moves.1)]

theorem Cycles.notManual (cycles : Cycles s i) : s.mode ≠ .manual := by
  obtain ⟨-, h | h | ⟨h, -⟩⟩ := cycles <;> rw [h] <;> decide

end Cycles

theorem phaseDue_iff {s : State} {i : Fin 3} {st : LaneState} :
    phaseDue s i st = true ↔ (s.lane i).state = st ∧ (s.lane i).timer = some 0 := by simp [phaseDue]

section Expiries
variable {s : State} {i : Fin 3} (out : (s.lane i).timer = some 0)
include out

theorem exec_green (green : (s.lane i).state = .green) :
    exec (.greenTimerExpiry i) s = .next (afterLaneChange i (endGreen i s)).judgeLines := by
  rw [exec_event (c := .greenTimerExpiry i) rfl,
    show eventEffect (.greenTimerExpiry i) s = afterLaneChange i (endGreen i s) from if_pos (phaseDue_iff.mpr ⟨green, out⟩)]

theorem exec_amber (amber : (s.lane i).state = .amber) :
    exec (.amberTimerExpiry i) s = .next (judgeWish (afterLaneChange i (endAmber i s))).judgeLines := by
  rw [exec_event (c := .amberTimerExpiry i) rfl,
    show eventEffect (.amberTimerExpiry i) s = judgeWish (afterLaneChange i (endAmber i s)) from if_pos (phaseDue_iff.mpr ⟨amber, out⟩)]

theorem exec_red (red : (s.lane i).state = .red) :
    exec (.redTimerExpiry i) s = .next (takePending (afterLaneChange i (endRed i s))).judgeLines := by
  rw [exec_event (c := .redTimerExpiry i) rfl,
    show eventEffect (.redTimerExpiry i) s = takePending (afterLaneChange i (endRed i s)) from if_pos (phaseDue_iff.mpr ⟨red, out⟩)]

end Expiries

/-- The end of an amber that neither a stop nor a rest order turns aside. -/
theorem endAmber_red {s : State} {i : Fin 3} (toOff : (s.lane i).toOff = false) (awaits : (s.lane i).restAwaits = false) :
    endAmber i s = enterLane i ((s.lane i).toRed (redTime s)) s := by
  have kept : ((enterLane i ((s.lane i).toRed (redTime s)) s).lane i).restAwaits = false := by simp [Lane.toRed, awaits]
  simp only [endAmber, toOff, Bool.false_eq_true, if_false, kept]

theorem endAmber_off {s : State} {i : Fin 3} (toOff : (s.lane i).toOff = true) : endAmber i s = enterLane i (s.lane i).toOFF s := by
  simp only [endAmber, toOff, if_true]

/-- The three expiries of a lane that cycles (R71). -/
theorem exec_cycle {s : State} {i : Fin 3} {p : List Byte} (plan : s.plans.plan = some p) (cycles : Cycles s i) :
    ((s.lane i).state = .green → (s.lane i).timer = some 0 → (s.lane i).held = none →
      exec (.greenTimerExpiry i) s = .next (enterLane i ((s.lane i).toAmber (planAmber p * 10) false) s).judgeLines) ∧
    ((s.lane i).state = .amber → (s.lane i).timer = some 0 → (s.lane i).toOff = false → (s.lane i).restAwaits = false →
      exec (.amberTimerExpiry i) s = .next (enterLane i ((s.lane i).toRed (planRedMin p * 10)) s).judgeLines) ∧
    ((s.lane i).state = .red → (s.lane i).timer = some 0 →
      exec (.redTimerExpiry i) s = .next (takePending (enterLane i (s.lane i).toReady s)).judgeLines) := by
  have amberIs : amberTime s = planAmber p * 10 := by rw [amberTime_plan cycles.notManual, planTime_of_plan plan]
  have redIs : redTime s = planRedMin p * 10 := by rw [redTime_plan cycles.notManual, planTime_of_plan plan]
  refine ⟨fun green out free => ?_, fun amber out toOff awaits => ?_, fun red out => ?_⟩
  · have ends : endGreen i s = enterLane i ((s.lane i).toAmber (planAmber p * 10) false) s := by
      rw [endGreen, amberIs, free]
      rfl
    rw [exec_green out green, ends, afterLaneChange_cycle cycles ⟨by simp [Lane.toAmber], by simp [Lane.toAmber]⟩]
  · rw [exec_amber out amber, endAmber_red toOff awaits, redIs,
      afterLaneChange_cycle cycles ⟨by simp [Lane.toRed], by simp [Lane.toRed]⟩, judgeWish_enterLane cycles.1]
  · rw [exec_red out red, endRed, afterLaneChange_cycle cycles ⟨by simp [Lane.toReady], by simp [Lane.toReady]⟩]

theorem takePending_of_mode {s : State} (mode : s.mode ≠ .metering) : takePending s = s := by simp [takePending, mode]

/-! ### Expiries not due -/

/-- A phase expiry in another lane state, or before its time, changes nothing. -/
theorem exec_phase_idle {s : State} {i : Fin 3} {st : LaneState} {c : Instr} (early : (s.lane i).state ≠ st ∨ (s.lane i).timer ≠ some 0)
    {f : State → State} (parts : requestParts c = none) (effect : eventEffect c s = if phaseDue s i st then f s else s) :
    exec c s = .next s.judgeLines := by
  rw [exec_event parts, effect, if_neg (mt phaseDue_iff.mp fun ⟨h, g⟩ => early.elim (· h) (· g))]

theorem graceDue_iff {s : State} {i : Fin 3} : graceDue s i = true ↔ ∃ c, (s.lane i).window = .inGrace c 0 := by
  cases h : (s.lane i).window <;> simp [graceDue, h]

/-! ### Held orders -/

theorem heldDue_of {s : State} {i : Fin 3} {h : HeldOrder} (held : (s.lane i).held = some h)
    (green : (s.lane i).state = .green ∨ (s.lane i).state = .restGreen) (old : s.limits.greenMin * 10 ≤ (s.lane i).age) :
    heldDue s i = true ∧ carryOutHeld i s = enterLane i ((s.lane i).toAmber (amberTime s) (h == .stop)) s := by
  have reached : belowGreenMin s i = false := by simp [belowGreenMin, old]
  cases h <;> obtain g | g := green <;> simp [heldDue, carryOutHeld, orderClear, orderStop, held, g, reached, Lane.showsGreen,
    show (HeldOrder.clear == HeldOrder.stop) = false from rfl]

theorem exec_held {s : State} {i : Fin 3} {h : HeldOrder} (held : (s.lane i).held = some h)
    (green : (s.lane i).state = .green ∨ (s.lane i).state = .restGreen) (old : s.limits.greenMin * 10 ≤ (s.lane i).age) :
    exec (.greenMinReached i) s =
      .next (afterLaneChange i (enterLane i ((s.lane i).toAmber (amberTime s) (h == .stop)) s)).judgeLines := by
  obtain ⟨due, carried⟩ := heldDue_of held green old
  have effect : eventEffect (.greenMinReached i) s = afterLaneChange i (carryOutHeld i s) := if_pos due
  rw [exec_event (c := .greenMinReached i) rfl, effect, carried]

/-- An interrupted startup goes on while a lane is lit. -/
theorem advanceSequence_stopping {s : State} {i : Fin 3} (mode : s.mode = .startup) (phase : s.meter.phase = .stopping)
    (lit : (s.lane i).state ≠ .off ∧ (s.lane i).state ≠ .faulted) : advanceSequence s = s := by
  rw [advanceSequence, checkCleared_of_phase (by rw [phase]; decide), checkStopped_lit lit, checkResting_of_mode (by rw [mode]; decide)]

/-! ### MANUAL -/

theorem worked_none (times : Nat × Nat × Nat) (x : Lane) : worked times x none = (x, none) := by simp [worked, workedOnce]

/-- No aspect changes a running amber (R103). -/
theorem worked_amber (times : Nat × Nat × Nat) {x : Lane} (amber : x.state = .amber) (a : Option Aspect) : worked times x a = (x, a) := by
  cases a with
  | none => exact worked_none times x
  | some a => cases a <;> simp [worked, workedOnce, aspectOrder, amber]

theorem keepsLinks_judgeLines {s t : State} (links : t.links = s.links) : KeepsLinks s t.judgeLines := by
  have link : ∀ l, t.link l = s.link l := fun l => by rw [State.link, links, ← State.link]
  constructor
  · rw [KeepsLink, ← link]
    rfl
  · rw [KeepsLink, ← link]
    rfl

/-- What an operation on one lane in MANUAL leaves, once the attention lines are judged. -/
theorem LaneAlone.others {i : Fin 3} {s t : State} (h : LaneAlone i s t) (mode : s.mode = .manual) :
    (∀ j, j ≠ i → t.judgeLines.lane j = s.lane j ∧ t.judgeLines.aspect j = s.aspect j) ∧ t.judgeLines.mode = .manual ∧
      t.judgeLines.rate = s.rate ∧ t.judgeLines.events = s.events ∧ KeepsSite s t.judgeLines ∧ KeepsLinks s t.judgeLines :=
  ⟨fun j other => ⟨h.lane j other, h.aspect j other⟩, h.mode.trans mode, h.rate, h.events, h.site, keepsLinks_judgeLines h.links⟩

theorem afterLaneChange_manual {i : Fin 3} {s : State} (mode : s.mode = .manual) : afterLaneChange i s = workLane i s := if_pos mode

/-- A lane of MANUAL that enters a state is worked on toward its pending aspect. -/
theorem workLane_enter {i : Fin 3} {s : State} (x : Lane) (mode : s.mode = .manual) :
    LaneAlone i s (workLane i (enterLane i x s)) ∧ cell i (workLane i (enterLane i x s)) =
      worked (s.limits.greenMin * 10, s.limits.amberMin * 10, s.limits.redMin * 10) x (s.aspect i) := by
  obtain ⟨alone, now⟩ := workLane_facts i (enterLane i x s)
  have entered := LaneAlone.enter i x s
  have aspect : (enterLane i x s).aspect i = s.aspect i := by simp [State.aspect]
  rw [entered.times, orderTimes_manual mode, aspect, lane_enterLane, if_pos rfl] at now
  exact ⟨entered.trans alone, now⟩

theorem judgeWish_manual {s : State} (mode : s.mode = .manual) : judgeWish s = s := judgeWish_still (.inl mode)

/-! ### The obligation -/

/-- The end of an amber and of a red in MANUAL bring the lane on toward its pending aspect (R103). -/
theorem exec_manual {i : Fin 3} {s : State} (mode : s.mode = .manual) (out : (s.lane i).timer = some 0)
    (awaits : (s.lane i).restAwaits = false) :
    ((s.lane i).state = .amber → exec (.amberTimerExpiry i) s = .next (workLane i (enterLane i
      (if (s.lane i).toOff then (s.lane i).toOFF else (s.lane i).toRed (s.limits.redMin * 10)) s)).judgeLines) ∧
    ((s.lane i).state = .red → exec (.redTimerExpiry i) s = .next (workLane i (enterLane i (s.lane i).toReady s)).judgeLines) := by
  have entered : ∀ x, (enterLane i x s).mode = .manual := fun x => (enterLane_mode s i x).trans mode
  have redIs : redTime s = s.limits.redMin * 10 := if_pos mode
  refine ⟨fun amber => ?_, fun red => ?_⟩
  · have ends : endAmber i s = enterLane i (if (s.lane i).toOff then (s.lane i).toOFF else (s.lane i).toRed (s.limits.redMin * 10)) s := by
      cases toOff : (s.lane i).toOff
      · rw [endAmber_red toOff awaits, redIs]
        rfl
      · rw [endAmber_off toOff]
        rfl
    rw [exec_amber out amber, ends, afterLaneChange_manual (entered _), judgeWish_manual ((workLane_enter _ mode).1.mode.trans mode)]
  · rw [exec_red out red, endRed, afterLaneChange_manual (entered _),
      takePending_of_mode (by rw [(workLane_enter _ mode).1.mode, mode]; decide)]

theorem worked_ended_amber (greenMin amber red : Nat) (x : Lane) (a : Option Aspect) :
    worked (greenMin, amber, red) (if x.toOff then x.toOFF else x.toRed red) a =
      (match a, x.toOff with
      | none, false => (x.toRed red, none)
      | none, true => (x.toOFF, none)
      | some .red, false => (x.toRed red, none)
      | some .red, true => (x.toOFF.toRed red, none)
      | some .green, false => (x.toRed red, some .green)
      | some .green, true => (x.toOFF.toRed red, some .green)
      | some .off, false => ((x.toRed red).toOFF, none)
      | some .off, true => (x.toOFF, none)) := by
  have off : x.toOFF.state = .off := rfl
  have isRed : (x.toRed red).state = .red := rfl
  cases toOff : x.toOff
  · obtain - | a := a
    · exact worked_none _ _
    · have table := worked_table greenMin amber red a (x.toRed red) none (by rw [isRed]; decide)
      cases a <;> simpa only [isRed, Bool.false_eq_true, if_false] using table
  · obtain - | a := a
    · exact worked_none _ _
    · have table := worked_table greenMin amber red a x.toOFF none (by rw [off]; decide)
      cases a <;> simpa only [off, if_true] using table

theorem worked_ended_red (greenMin amber red : Nat) (x : Lane) (a : Option Aspect) :
    worked (greenMin, amber, red) x.toReady a =
      (match a with
      | some .green => (x.toReady.toGreen none, none)
      | some .off => (x.toReady.toOFF, none)
      | _ => (x.toReady, none)) := by
  have ready : x.toReady.state = .ready := rfl
  obtain - | a := a
  · exact worked_none _ _
  · have table := worked_table greenMin amber red a x.toReady none (by rw [ready]; decide)
    cases a <;> simpa only [ready] using table

/-- Settles O54: the expiries of a lane in each mode. -/
theorem laneTimersFollowTheCycle : Obligations.LaneTimersFollowTheCycle := by
  unfold Obligations.LaneTimersFollowTheCycle
  refine ⟨fun i p s plan mode wish => ?_, fun i p s plan mode works wish => ?_, fun i s => ⟨fun early => ?_, fun early => ?_, fun early => ?_,
    fun c window => ?_, fun open_ => ?_, fun h mode held green old => ?_, fun h p mode held green old plan => ?_, fun early => ?_⟩,
    fun i s mode out awaits => ?_⟩
  · exact exec_cycle plan ⟨.inl ⟨mode.imp_right .inl, wish⟩, mode.imp_right .inl⟩
  · obtain ⟨green, amber, red⟩ := exec_cycle (i := i) plan ⟨.inr ⟨mode, wish⟩, .inr (.inr ⟨mode, works⟩)⟩
    refine ⟨green, amber, fun h out => (red h out).trans ?_⟩
    rw [takePending_of_mode (by rw [enterLane_mode, mode]; decide)]
  · exact exec_phase_idle (c := .greenTimerExpiry i) (f := fun u => afterLaneChange i (endGreen i u)) early rfl rfl
  · exact exec_phase_idle (c := .amberTimerExpiry i) (f := fun u => judgeWish (afterLaneChange i (endAmber i u))) early rfl rfl
  · exact exec_phase_idle (c := .redTimerExpiry i) (f := fun u => takePending (afterLaneChange i (endRed i u))) early rfl rfl
  · rw [exec_event (c := .graceExpiry i) rfl, show eventEffect (.graceExpiry i) s = s.setLane i { s.lane i with window := .closed } from
      if_pos (graceDue_iff.mpr ⟨c, window⟩)]
  · rw [exec_event (c := .graceExpiry i) rfl, show eventEffect (.graceExpiry i) s = s from
      if_neg (mt graceDue_iff.mp fun ⟨c, window⟩ => open_ c window)]
  · obtain ⟨alone, now⟩ := workLane_enter (i := i) ((s.lane i).toAmber (s.limits.amberMin * 10) (h == .stop)) mode
    have run := exec_held held green old
    rw [show amberTime s = s.limits.amberMin * 10 from if_pos mode, afterLaneChange_manual ((enterLane_mode s i _).trans mode)] at run
    rw [worked_amber _ rfl] at now
    obtain ⟨others, tmode, rate, events, site, links⟩ := LaneAlone.others alone mode
    generalize workLane i _ = t at *
    have lane : t.lane i = _ := congrArg Prod.fst now
    have drives := alone.drive (by rw [mode]; decide)
    rw [lane] at drives
    have handed := drives.resolve_right fun ⟨same, _⟩ => by
      rw [show ((s.lane i).toAmber (s.limits.amberMin * 10) (h == .stop)).state = .amber from rfl] at same
      obtain g | g := green <;> rw [g] at same <;> cases same
    exact ⟨_, run, lane, congrArg Prod.snd now, fun j ne => (others j ne).1, handed .amber, handed .green, tmode, rate, events, site, links⟩
  · have mode' : s.mode ≠ .manual := by obtain ⟨m | m, -⟩ | ⟨m, -⟩ := mode <;> rw [m] <;> decide
    have entered := fun x => enterLane_mode s i x
    rw [exec_held held green old, amberTime_plan mode', planTime_of_plan plan, afterLaneChange, if_neg (by rw [entered]; exact mode')]
    obtain ⟨m, -⟩ | ⟨m, phase, -⟩ := mode
    · rw [advanceSequence_idle (by rw [entered]; obtain m | m := m <;> rw [m] <;> decide)
        (by rw [entered]; obtain m | m := m <;> rw [m] <;> decide)]
    · rw [advanceSequence_stopping (i := i) ((entered _).trans m) (by simpa using phase) (by simp [Lane.toAmber])]
  · have idle : heldDue s i = false := by
      obtain free | young := early
      · simp [heldDue, free]
      · simp [heldDue, belowGreenMin, young]
    rw [exec_event (c := .greenMinReached i) rfl, show eventEffect (.greenMinReached i) s = s from if_neg (by simp [idle])]
  · obtain ⟨amber, red⟩ := exec_manual mode out awaits
    refine ⟨fun h => ?_, fun h => ?_⟩
    · have run := amber h
      obtain ⟨alone, now⟩ := workLane_enter (i := i)
        (if (s.lane i).toOff then (s.lane i).toOFF else (s.lane i).toRed (s.limits.redMin * 10)) mode
      rw [worked_ended_amber] at now
      have others := LaneAlone.others alone mode
      generalize workLane i _ = t at *
      refine ⟨_, run, others, now.trans ?_⟩
      generalize s.aspect i = a
      generalize (s.lane i).toOff = off
      obtain - | a := a
      · cases off <;> rfl
      · cases a <;> cases off <;> rfl
    · have run := red h
      obtain ⟨alone, now⟩ := workLane_enter (i := i) (s.lane i).toReady mode
      rw [worked_ended_red] at now
      have others := LaneAlone.others alone mode
      generalize workLane i (enterLane i (s.lane i).toReady s) = t at run alone now others
      refine ⟨_, run, others, now.trans ?_⟩
      generalize s.aspect i = a
      obtain - | a := a
      · rfl
      · cases a <;> rfl

end Sys2Proof.Cycle
end

section
/-! The sequences: the startup and its clearance, the interrupted startup, and the shutdown, as the timers of the sequence
and the ambers of the lanes advance them (O58). -/

namespace Sys2Proof.Sequences
open Sys2Proof.Machine Sys2Proof.Steps Sys2Proof.Holders Sys2Proof.LaneLaws Sys2Proof.Transitions Sys2Proof.ModeSteps
open Sys2Proof.PlanChanges Sys2Proof.Lamps Sys2Proof.HandWork Sys2Proof.DarkEntries Sys2Proof.Activations Sys2Proof.Cycle

/-! ### STARTUP to METERING -/

/-- The rate computer as the entry from STARTUP begins (R43). -/
def startRate (p : List Byte) (s : State) : RateComputer := { s.rate with rFb := planRFixed p, basis := .fixed, fallbackMark := false }

/-- METERING as the entry from STARTUP leaves it, with the headway timer below the new H. -/
structure Metering (p : List Byte) (s t : State) : Prop where
  meter : t.meter = { s.meter with mode := .metering, phase := .idle, seqTimer := 0 }
  lane : ∀ i, t.lane i = s.lane i
  drives : t.drives = s.drives
  ring : t.sched.ring = workingLanes s
  elapsed : t.sched.elapsed = 0
  releasePending : t.sched.releasePending = false
  headway : t.sched.headway = (combineOut (startRate p s) s.limits p (workingLanes s).length).headway
  rate : t.rate = { startRate p s with
    inForce := some (combineOut (startRate p s) s.limits p (workingLanes s).length)
    rPrev := (combineOut (startRate p s) s.limits p (workingLanes s).length).rate }
  posted : Posted [modeEvent .metering .sequence] s t
  site : KeepsSite s t
  links : t.links = s.links

theorem Metering.mode {p : List Byte} {s t : State} (h : Metering p s t) : t.mode = .metering := by rw [State.mode, h.meter]

/-- The entry computation from a ring formed in `u`. -/
theorem entryFromStartup_facts {u : State} {p : List Byte} (plan : u.plans.plan = some p)
    (early : u.sched.elapsed < (combineOut (startRate p u) u.limits p (workingLanes u).length).headway) :
    entryFromStartup u = ((({ u with rate := startRate p u } : State).putRate
      (combineOut (startRate p u) u.limits p (workingLanes u).length)).setHeadway
      (combineOut (startRate p u) u.limits p (workingLanes u).length).headway) := by
  unfold entryFromStartup
  rw [plan]
  exact runCombine_entry (s := { u with rate := startRate p u }) plan early

theorem lane_meteringBegun (s : State) (i : Fin 3) :
    (formRing ((changeMode .metering .sequence s).putPhase .idle 0)).lane i = s.lane i := rfl

theorem metering_entered {s : State} {p : List Byte} (plan : s.plans.plan = some p)
    (early : 1 ≤ (combineOut (startRate p s) s.limits p (workingLanes s).length).headway) : Metering p s (enterMetering s) := by
  have same : workingLanes (formRing ((changeMode .metering .sequence s).putPhase .idle 0)) = workingLanes s := rfl
  have rate : startRate p (formRing ((changeMode .metering .sequence s).putPhase .idle 0)) = startRate p s := rfl
  have limits : (formRing ((changeMode .metering .sequence s).putPhase .idle 0)).limits = s.limits := rfl
  have ring : (formRing ((changeMode .metering .sequence s).putPhase .idle 0)).sched.ring = workingLanes s := rfl
  have zero : (formRing ((changeMode .metering .sequence s).putPhase .idle 0)).sched.elapsed = 0 := rfl
  have free : (formRing ((changeMode .metering .sequence s).putPhase .idle 0)).sched.releasePending = false := rfl
  have drives : (formRing ((changeMode .metering .sequence s).putPhase .idle 0)).drives = s.drives := rfl
  have lane := lane_meteringBegun s
  have meter := enterMetering_meter s
  have posted := posted_enterMetering s
  have site : KeepsSite s (enterMetering s) := by simp [KeepsSite]
  have links : (enterMetering s).links = s.links := by simp
  have facts := entryFromStartup_facts (u := formRing ((changeMode .metering .sequence s).putPhase .idle 0)) (p := p) plan
    (by rw [same, rate, limits, zero]; exact early)
  rw [same, rate, limits] at facts
  have entered : enterMetering s = entryFromStartup (formRing ((changeMode .metering .sequence s).putPhase .idle 0)) := rfl
  rw [entered] at meter posted site links ⊢
  rw [facts] at meter posted site links ⊢
  generalize formRing ((changeMode .metering .sequence s).putPhase .idle 0) = u at *
  exact ⟨meter, lane, drives, ring, zero, free, rfl, rfl, posted, site, links⟩

theorem metering_wanted {p : List Byte} {s t : State} (h : Metering p s t) : wanted t = wanted s := by
  obtain ⟨-, -, -, -, plans, -⟩ := h.site
  exact wanted_congr (by rw [h.meter]) (by rw [plans])

/-! ### The clearance -/

theorem cleared_iff {s : State} (mode : s.mode = .startup) (phase : s.meter.phase = .clearing) :
    cleared s = true ↔ (∃ i, working s i = true) ∧ ∀ i, working s i = true → (s.lane i).state = .red ∨ (s.lane i).state = .ready := by
  have some_ : (workingLanes s).isEmpty = false ↔ ∃ i, working s i = true := by
    rw [List.isEmpty_eq_false_iff_exists_mem]
    simp [mem_workingLanes]
  simp [cleared, mode, phase, some_, mem_workingLanes]

/-- A clearance that has ended enters METERING, and no other sequence follows. -/
theorem advanceSequence_cleared {s : State} {p : List Byte} (mode : s.mode = .startup) (phase : s.meter.phase = .clearing)
    (lane : ∃ i, working s i = true) (past : ∀ i, working s i = true → (s.lane i).state = .red ∨ (s.lane i).state = .ready)
    (entered : Metering p s (enterMetering s)) : advanceSequence s = enterMetering s := by
  have cleared : checkCleared s = enterMetering s := if_pos ((cleared_iff mode phase).mpr ⟨lane, past⟩)
  rw [advanceSequence, cleared, checkStopped_of_mode (by rw [entered.mode]; decide), checkResting_of_mode (by rw [entered.mode]; decide)]

/-- A clearance goes on while a working lane is not past its amber. -/
theorem advanceSequence_clearing {s : State} {i : Fin 3} (mode : s.mode = .startup) (phase : s.meter.phase ≠ .stopping)
    (waits : s.meter.phase = .clearing → working s i = true ∧ (s.lane i).state ≠ .red ∧ (s.lane i).state ≠ .ready) :
    advanceSequence s = s := by
  have uncleared : checkCleared s = s := by
    by_cases clearing : s.meter.phase = .clearing
    · refine if_neg fun h => ?_
      obtain ⟨works, red, ready⟩ := waits clearing
      exact (((cleared_iff mode clearing).mp h).2 i works).elim red ready
    · exact checkCleared_of_phase clearing
  rw [advanceSequence, uncleared, checkResting_of_mode (s := checkStopped s) (by rw [checkStopped, if_neg fun h => phase h.2.1, mode]; decide)]
  exact if_neg fun h => phase h.2.1

/-! ### The interrupted startup -/

/-- What stands for a state in which an entry to DARK is judged: the standing start starts the meter, or DARK stays. -/
theorem advanceSequence_stopped {s : State} (mode : s.mode = .startup) (phase : s.meter.phase = .stopping)
    (dark : ∀ i, (s.lane i).state = .off ∨ (s.lane i).state = .faulted)
    (after : (enterDarkJudged .stop s).mode ≠ .shutdown) : advanceSequence s = enterDarkJudged .stop s := by
  rw [advanceSequence, checkCleared_of_phase (by rw [phase]; decide), checkStopped_dark mode phase dark, checkResting_of_mode after]

/-- The wish is not acted on again once DARK has been entered and judged. -/
theorem judgeWish_darkJudged {cause : ModeCause} {s : State} {p : List Byte} (plan : s.plans.plan = some p)
    (dark : ∀ i, (s.lane i).state = .off ∨ (s.lane i).state = .faulted) :
    (enterDarkJudged cause s).mode ≠ .shutdown ∧ judgeWish (enterDarkJudged cause s) = enterDarkJudged cause s := by
  by_cases starts : Starts s
  · have again := enterDarkJudged_starts (cause := cause) dark plan starts
    have mode : (enterDarkJudged cause s).mode = .startup := again.started.1
    have wish : wanted (enterDarkJudged cause s) = .start :=
      (wanted_congr (keepsWish_enterDarkJudged cause s).resolved (by simp)).trans starts.2.1
    exact ⟨by rw [mode]; decide, judgeWish_met (.inl ⟨.inr (.inr mode), by rw [wish]; decide⟩)⟩
  · have mode := (darkened cause dark).mode
    rw [enterDarkJudged_stays dark starts]
    exact ⟨by rw [mode]; decide, by rw [judgeWish_dark mode, if_neg (mt (starts_darkened dark).mp starts)]⟩

/-- An interrupted startup acts on no wish. -/
theorem judgeWish_stopping {s : State} (mode : s.mode = .startup) (phase : s.meter.phase = .stopping) : judgeWish s = s := by
  cases w : wanted s <;> simp [judgeWish, w, actOnStart, actOnStop, mode, phase]

/-! ### The shutdown -/

/-- A shutdown with its lanes judged: it rests where every working lane does (R97). -/
theorem checkResting_rests {s : State} {p : List Byte} (plan : s.plans.plan = some p) (mode : s.mode = .shutdown)
    (phase : s.meter.phase = .finishing) (rest : ∀ i, working s i = true → (s.lane i).state = .restGreen) :
    checkResting s = s.putPhase .resting (planShutdownGreen p * 100) := by
  rw [checkResting, if_pos ⟨mode, phase, (allResting_iff s).mpr rest⟩, planSeconds_of_plan plan]

theorem checkResting_waits {s : State}
    (waits : ¬ (s.meter.phase = .finishing ∧ ∀ i, working s i = true → (s.lane i).state = .restGreen)) : checkResting s = s :=
  if_neg fun h => waits ⟨h.2.1, (allResting_iff s).mp h.2.2⟩

theorem advanceSequence_shutdown {s : State} (mode : s.mode = .shutdown) : advanceSequence s = checkResting s := by
  have startup : s.mode ≠ .startup := by rw [mode]; decide
  rw [advanceSequence, checkCleared_of_mode startup, checkStopped_of_mode startup]

/-! ### The rests -/

theorem restingLanes_nodup (s : State) : (restingLanes s).Nodup := allLanes_nodup.filter _

theorem mem_restingLanes (s : State) (i : Fin 3) : i ∈ restingLanes s ↔ (s.lane i).state = .restGreen := by
  simp [restingLanes, mem_allLanes]

theorem restDue_iff {s : State} {m : Mode} {p : Phase} :
    restDue s m p = true ↔ (s.mode = m ∧ s.meter.phase = p) ∧ s.meter.seqTimer = 0 := by simp [restDue]

/-- A resting lane of age that a clear order takes to AMBER, with its drives. -/
theorem clears_rest {s : State} {i : Fin 3} (lit : s.mode ≠ .faultDark) (rest : (s.lane i).state = .restGreen)
    (old : s.limits.greenMin * 10 ≤ (s.lane i).age) :
    (orderEach orderClear (restingLanes s) s).lane i = (s.lane i).toAmber (amberTime s) false ∧
      ∀ c, ((orderEach orderClear (restingLanes s) s).drive (driveOf i c)).commanded = decide (c = .amber) := by
  have mem := (mem_restingLanes s i).mpr rest
  refine ⟨?_, fun c => ?_⟩
  · rw [lane_orderClears (restingLanes_nodup s), if_pos mem]
    simp [clearLane, rest, Nat.not_lt.mpr old]
  · obtain ⟨u, before, after⟩ := orderEach_at (f := orderClear) clear_other (restingLanes_nodup s) mem s
    have order : orderClear i u = enterLane i ((u.lane i).toAmber (amberTime u) false) u := by
      simp [orderClear, before.lane, rest, belowGreenMin, before.limits, old]
    rw [after.drive c, order, enterLane_commanded (by rw [before.mode]; exact lit)]
    cases c <;> rfl

/-- The lanes at rest cut: they are dark with their drives off. -/
theorem cuts_rest (s : State) (i : Fin 3) :
    (orderEach orderCut (restingLanes s) s).lane i = (if (s.lane i).state = .restGreen then (s.lane i).toOFF else s.lane i) ∧
      ((s.lane i).state = .restGreen → ∀ c, ((orderEach orderCut (restingLanes s) s).drive (driveOf i c)).commanded = false) := by
  refine ⟨?_, fun rest c => ?_⟩
  · rw [lane_orderCuts (restingLanes_nodup s)]
    by_cases rest : (s.lane i).state = .restGreen <;> simp [mem_restingLanes, rest, cutLane]
  · obtain ⟨u, before, after⟩ := orderEach_at (f := orderCut) cut_other (restingLanes_nodup s) ((mem_restingLanes s i).mpr rest) s
    rw [after.drive c]
    exact (Manual.cut_drive i c u).1 (by rw [before.lane, rest]; decide)

theorem cuts_dark {s : State} (dark : ∀ i, (s.lane i).state = .restGreen ∨ (s.lane i).state = .off ∨ (s.lane i).state = .faulted)
    (i : Fin 3) : ((orderEach orderCut (restingLanes s) s).lane i).state = .off ∨
      ((orderEach orderCut (restingLanes s) s).lane i).state = .faulted := by
  rw [(cuts_rest s i).1]
  obtain rest | off := dark i
  · rw [if_pos rest]
    exact .inl rfl
  · split
    · exact .inl rfl
    · exact off

/-- What an operation that changes lanes and lamps alone leaves. -/
structure Quiet (s t : State) : Prop where
  meter : t.meter = s.meter
  rate : t.rate = s.rate
  events : t.events = s.events
  site : KeepsSite s t
  links : t.links = s.links

theorem quiet_orderEach {f : Fin 3 → State → State} (h : ∀ i s, Quiet s (f i s)) (l : List (Fin 3)) (s : State) :
    Quiet s (orderEach f l s) := by
  induction l generalizing s with
  | nil => exact ⟨rfl, rfl, rfl, KeepsSite.refl s, rfl⟩
  | cons i l ih =>
    obtain ⟨meter, rate, events, site, links⟩ := h i s
    obtain ⟨meter', rate', events', site', links'⟩ := ih (f i s)
    exact ⟨meter'.trans meter, rate'.trans rate, events'.trans events, KeepsSite.trans site site', links'.trans links⟩

theorem quiet_acts {i : Fin 3} {x : Lane} {s t : State} (h : ActsOnLane i x s t) : Quiet s t := by
  have alone := LaneAlone.of_acts h
  exact ⟨h.frame.1, alone.rate, alone.events, alone.site, alone.links⟩

theorem quiet_enterLane (i : Fin 3) (x : Lane) (s : State) : Quiet s (enterLane i x s) := quiet_acts (.inl rfl)

theorem Quiet.mode {s t : State} (h : Quiet s t) : t.mode = s.mode := by rw [State.mode, h.meter, ← State.mode]

theorem Quiet.plan {s t : State} (h : Quiet s t) : t.plans = s.plans := h.site.2.2.2.2.1

theorem Quiet.posted {s t u : State} {es : List (EventKind × Nat × Nat)} (h : Quiet s t) (p : Posted es t u) : Posted es s u :=
  p.before h.events h.site.2.2.1

/-! ### The entries to DARK -/

/-- A state that leads to an entry to DARK: what the entry and the standing start go by is as it was. -/
structure Leads (s t : State) : Prop where
  resolved : t.meter.resolved = s.meter.resolved
  events : t.events = s.events
  site : KeepsSite s t
  links : t.links = s.links

theorem Quiet.leads {s t : State} (h : Quiet s t) : Leads s t := ⟨by rw [h.meter], h.events, h.site, h.links⟩

theorem Leads.plan {s t : State} (h : Leads s t) : t.plans = s.plans := h.site.2.2.2.2.1

theorem Leads.starts {s t : State} (h : Leads s t) : Starts t ↔ Starts s := Starts.congr h.site.2.2.2.2.2.2.1 h.plan h.resolved

theorem Leads.posted {s t u : State} {es : List (EventKind × Nat × Nat)} (h : Leads s t) (p : Posted es t u) : Posted es s u :=
  p.before h.events h.site.2.2.1

section Dark
variable {s u : State} {p : List Byte} (leads : Leads s u) (dark : ∀ i, (u.lane i).state = .off ∨ (u.lane i).state = .faulted)
  (cause : ModeCause) (plan : s.plans.plan = some p)
include leads dark plan

theorem exec_restarts (starts : Starts s) : let t := (enterDarkJudged cause u).judgeLines
    Started p (fun i => planEnables p i = true) t ∧ (∀ i, planEnables p i = false → (t.lane i).state = .off) ∧
      t.rate.inForce = none ∧ KeepsSite s t ∧ KeepsLinks s t ∧
      t.events = ((s.post .modeChange 0 (0 * 256 + cause.code)).post .modeChange 0 (1 * 256 + 1)).events := by
  have again := enterDarkJudged_starts (cause := cause) dark (by rw [leads.plan, plan]) (leads.starts.mpr starts)
  have site := KeepsSite.trans leads.site again.site
  have links := keepsLinks_judgeLines (again.links.trans leads.links)
  have events : (enterDarkJudged cause u).events = _ := (leads.posted again.posted).1
  have rate := again.rate
  have started := LockLimits.Started.of_blocks again.started (t := (enterDarkJudged cause u).judgeLines) (by simp) (by simp) (by simp)
  have others := again.others
  generalize enterDarkJudged cause u = t at *
  exact ⟨started, others, by simp [rate], site, links, events⟩

omit plan in
theorem exec_stays (stays : ¬ Starts s) : let t := (enterDarkJudged cause u).judgeLines
    t.mode = .dark ∧ t.meter.phase = .idle ∧ (∀ i, (t.lane i).state = .off) ∧ t.meter.beacon = false ∧ (t.drive 9).commanded = false ∧
      (∀ i c, (u.drive (driveOf i c)).commanded = false → (t.drive (driveOf i c)).commanded = false) ∧ t.rate.inForce = none ∧
      KeepsSite s t ∧ KeepsLinks s t ∧ t.events = (s.post .modeChange 0 (0 * 256 + cause.code)).events := by
  have entered := darkened cause dark
  have site := KeepsSite.trans leads.site entered.site
  have links := keepsLinks_judgeLines (entered.links.trans leads.links)
  have events : (enterDark cause u).events = _ := (leads.posted entered.posted).1
  have beacon : ((enterDark cause u).drive 9).commanded = false := congrArg Drive.commanded (enterDark_beacon cause u)
  have drive : ∀ i c, (u.drive (driveOf i c)).commanded = false → ((enterDark cause u).drive (driveOf i c)).commanded = false :=
    fun i c off => congrArg Drive.commanded (enterDark_drive cause fun _ => off)
  rw [enterDarkJudged_stays dark (mt leads.starts.mp stays)]
  have mode := entered.mode
  obtain ⟨meter, lane, rate, ring, -, -, -⟩ := entered
  generalize enterDark cause u = t at *
  exact ⟨mode, by simp [meter], lane, by simp [meter], beacon, drive, by simp [rate], site, links, events⟩

end Dark

/-! ### The ambers of the sequences -/

/-- The working lanes with one lane put into another state that is not FAULTED. -/
theorem working_entered {s : State} {i : Fin 3} {x : Lane} (live : (s.lane i).state ≠ .faulted) (lives : x.state ≠ .faulted) (j : Fin 3) :
    working (enterLane i x s) j = working s j := by
  refine working_of_lanes (by simp) ?_
  by_cases same : j = i
  · subst same
    simp [live, lives]
  · simp [same]

theorem workingLanes_entered {s : State} {i : Fin 3} {x : Lane} (live : (s.lane i).state ≠ .faulted) (lives : x.state ≠ .faulted) :
    workingLanes (enterLane i x s) = workingLanes s := by
  simp [workingLanes, working_entered live lives]

section Amber
variable {s : State} {i : Fin 3} {p : List Byte} (plan : s.plans.plan = some p) (amber : (s.lane i).state = .amber)
  (out : (s.lane i).timer = some 0)
include plan amber out

/-- An amber of a sequence that ends in RED: the sequence is judged with the lane in RED. -/
theorem exec_amber_red (mode : s.mode ≠ .manual) (toOff : (s.lane i).toOff = false) (awaits : (s.lane i).restAwaits = false) :
    exec (.amberTimerExpiry i) s =
      .next (judgeWish (advanceSequence (enterLane i ((s.lane i).toRed (planRedMin p * 10)) s))).judgeLines := by
  rw [exec_amber out amber, endAmber_red toOff awaits, redTime_plan mode, planTime_of_plan plan, afterLaneChange,
    if_neg (by rw [enterLane_mode]; exact mode)]

omit plan in
theorem exec_amber_off (mode : s.mode ≠ .manual) (toOff : (s.lane i).toOff = true) :
    exec (.amberTimerExpiry i) s = .next (judgeWish (advanceSequence (enterLane i (s.lane i).toOFF s))).judgeLines := by
  rw [exec_amber out amber, endAmber_off toOff, afterLaneChange, if_neg (by rw [enterLane_mode]; exact mode)]

/-- An amber whose lane awaits its red to rest: the lane passes through RED to REST_GREEN. -/
theorem exec_amber_rest (mode : s.mode ≠ .manual) (toOff : (s.lane i).toOff = false) (awaits : (s.lane i).restAwaits = true) :
    exec (.amberTimerExpiry i) s = .next (judgeWish (advanceSequence (enterLane i ((s.lane i).toRed (planRedMin p * 10)).toRestGreen
      (enterLane i ((s.lane i).toRed (planRedMin p * 10)) s)))).judgeLines := by
  have kept : ((enterLane i ((s.lane i).toRed (planRedMin p * 10)) s).lane i).restAwaits = true := by simp [Lane.toRed, awaits]
  have isRed : ((enterLane i ((s.lane i).toRed (planRedMin p * 10)) s).lane i).state = .red := by simp [Lane.toRed]
  have rests : orderRest i (enterLane i ((s.lane i).toRed (planRedMin p * 10)) s) =
      enterLane i ((s.lane i).toRed (planRedMin p * 10)).toRestGreen (enterLane i ((s.lane i).toRed (planRedMin p * 10)) s) := by
    rw [orderRest_atOnce (.inr (.inl isRed)), lane_enterLane, if_pos rfl]
  have ends : endAmber i s = enterLane i ((s.lane i).toRed (planRedMin p * 10)).toRestGreen
      (enterLane i ((s.lane i).toRed (planRedMin p * 10)) s) := by
    simp only [endAmber, toOff, Bool.false_eq_true, if_false, redTime_plan mode, planTime_of_plan plan, kept, if_true, rests]
  rw [exec_amber out amber, ends, afterLaneChange, if_neg (by rw [enterLane_mode, enterLane_mode]; exact mode)]

end Amber

theorem entered_off {s : State} {i : Fin 3} (dark : ∀ j, j ≠ i → (s.lane j).state = .off ∨ (s.lane j).state = .faulted) (j : Fin 3) :
    ((enterLane i (s.lane i).toOFF s).lane j).state = .off ∨ ((enterLane i (s.lane i).toOFF s).lane j).state = .faulted := by
  rw [lane_enterLane]
  by_cases same : j = i
  · rw [if_pos same]
    exact .inl rfl
  · rw [if_neg same]
    exact dark j same

/-- The lane that rests at its red in SHUTDOWN, and the rest time that its rest may begin (R97). -/
theorem rested_in_shutdown {s : State} {i : Fin 3} {p : List Byte} (plan : s.plans.plan = some p) (mode : s.mode = .shutdown)
    (works : working s i = true) (amber : (s.lane i).state = .amber) (wish : wanted s ≠ .start) :
    let x := (s.lane i).toRed (planRedMin p * 10)
    let last := s.meter.phase = .finishing ∧ ∀ j, j ≠ i → working s j = true → (s.lane j).state = .restGreen
    let t := (judgeWish (advanceSequence (enterLane i x.toRestGreen (enterLane i x s)))).judgeLines
    t.mode = .shutdown ∧ t.lane i = x.toRestGreen ∧ (∀ j, j ≠ i → t.lane j = s.lane j) ∧
      (∀ c, (t.drive (driveOf i c)).commanded = decide (c = .green)) ∧ t.meter.beacon = s.meter.beacon ∧
      (last → t.meter.phase = .resting ∧ t.meter.seqTimer = planShutdownGreen p * 100) ∧
      (¬ last → t.meter = s.meter) ∧ t.sched.ring = s.sched.ring ∧ t.rate = s.rate ∧ t.events = s.events ∧
      KeepsSite s t ∧ KeepsLinks s t := by
  intro x last
  have live : (s.lane i).state ≠ .faulted := by rw [amber]; decide
  have alone : LaneAlone i s (enterLane i x.toRestGreen (enterLane i x s)) := (LaneAlone.enter i x s).trans (.enter i x.toRestGreen _)
  have lane : (enterLane i x.toRestGreen (enterLane i x s)).lane i = x.toRestGreen := by simp
  have drive : ∀ c, ((enterLane i x.toRestGreen (enterLane i x s)).drive (driveOf i c)).commanded = decide (c = .green) := fun c => by
    rw [enterLane_commanded (by rw [enterLane_mode, mode]; decide)]
    cases c <;> rfl
  have quiet : (enterLane i x.toRestGreen (enterLane i x s)).meter = s.meter := by simp
  generalize enterLane i x.toRestGreen (enterLane i x s) = u at *
  have umode : u.mode = .shutdown := alone.mode.trans mode
  have plans : u.plans = s.plans := alone.plans
  have rests : (u.lane i).state = .restGreen := by rw [lane]; rfl
  have work : ∀ j, working u j = working s j := fun j => by
    refine working_of_lanes (by rw [plans]) ?_
    by_cases same : j = i
    · subst same
      simp [rests, live]
    · rw [alone.lane j same]
  have all : (u.meter.phase = .finishing ∧ ∀ j, working u j = true → (u.lane j).state = .restGreen) ↔ last := by
    rw [quiet]
    refine and_congr_right fun _ => ⟨fun h j other on => ?_, fun h j on => ?_⟩
    · rw [← alone.lane j other]
      exact h j ((work j).trans on)
    · by_cases same : j = i
      · rw [same, rests]
      · rw [alone.lane j same]
        exact h j same ((work j).symm.trans on)
  have wish' : wanted u = wanted s := wanted_congr (by rw [quiet]) (by rw [plans])
  have beacon : u.meter.beacon = s.meter.beacon := by rw [quiet]
  rw [advanceSequence_shutdown umode]
  by_cases h : last
  · obtain ⟨finishing, every⟩ := all.mpr h
    have met : WishMet (u.putPhase .resting (planShutdownGreen p * 100)) :=
      .inr ⟨umode, by rw [show wanted (u.putPhase .resting (planShutdownGreen p * 100)) = wanted u from rfl, wish']; exact wish⟩
    rw [checkResting_rests (by rw [plans, plan]) umode finishing every, judgeWish_met met]
    exact ⟨umode, lane, alone.lane, drive, beacon, fun _ => ⟨rfl, rfl⟩, fun no => absurd h no, alone.releases.1, alone.rate,
      alone.events, alone.site, keepsLinks_judgeLines alone.links⟩
  · rw [checkResting_waits (mt all.mp h), judgeWish_met (.inr ⟨umode, by rw [wish']; exact wish⟩)]
    exact ⟨umode, lane, alone.lane, drive, beacon, fun yes => absurd yes h, fun _ => quiet, alone.releases.1, alone.rate,
      alone.events, alone.site, keepsLinks_judgeLines alone.links⟩

/-- Settles O58: the sequences, rest by rest and amber by amber. -/
theorem sequencesAdvanceWithTheirTimers : Obligations.SequencesAdvanceWithTheirTimers := by
  unfold Obligations.SequencesAdvanceWithTheirTimers
  intro s p plan
  refine ⟨fun mode phase out old => ?_, fun mode phase out starts dark => ?_, fun mode phase out stays dark => ?_, fun running => ?_,
    fun i mode phase enabled_ amber out toOff awaits past wish => ?_, fun i mode phase amber out toOff => ⟨fun starts dark => ?_,
      fun stays dark => ?_, fun lit => ?_⟩, fun i mode phase enabled_ amber out toOff awaits wish waits => ?_,
    fun i mode works amber out toOff awaits wish => ?_⟩
  · have lit : s.mode ≠ .faultDark := by rw [mode]; decide
    have effect : eventEffect .startupRestExpiry s = (orderEach orderClear (restingLanes s) s).putPhase .clearing 0 :=
      if_pos (restDue_iff.mpr ⟨⟨mode, phase⟩, out⟩)
    have run := exec_event (c := .startupRestExpiry) rfl s
    rw [effect] at run
    have quiet := quiet_orderEach (fun j u => quiet_acts (actsOnLane_clear j u)) (restingLanes s) s
    have clears := fun i => clears_rest (i := i) lit
    rw [amberTime_plan (by rw [mode]; decide), planTime_of_plan plan] at clears
    have stays : ∀ i, (s.lane i).state ≠ .restGreen → (orderEach orderClear (restingLanes s) s).lane i = s.lane i := fun i moves => by
      rw [lane_orderClears (restingLanes_nodup s), if_neg (mt (mem_restingLanes s i).mp moves)]
    have umode := quiet.mode
    have beacon : (orderEach orderClear (restingLanes s) s).meter.beacon = s.meter.beacon := by rw [quiet.meter]
    obtain ⟨meter, rate, events, site, links⟩ := quiet
    generalize orderEach orderClear (restingLanes s) s = u at *
    refine ⟨_, run, umode.trans mode, rfl, fun i rest => ?_, stays, beacon, rate, events, site,
      keepsLinks_judgeLines links⟩
    obtain ⟨lane, drive⟩ := clears i rest (old i rest)
    exact ⟨lane, drive .amber, drive .green⟩
  · have quiet := quiet_orderEach (fun j u => quiet_acts (actsOnLane_cut j u)) (restingLanes s) s
    have effect : eventEffect .shutdownRestExpiry s = enterDarkJudged .sequence (orderEach orderCut (restingLanes s) s) :=
      if_pos (restDue_iff.mpr ⟨⟨mode, phase⟩, out⟩)
    have run := exec_event (c := .shutdownRestExpiry) rfl s
    rw [effect] at run
    exact ⟨_, run, exec_restarts quiet.leads (cuts_dark dark) .sequence plan starts⟩
  · have quiet := quiet_orderEach (fun j u => quiet_acts (actsOnLane_cut j u)) (restingLanes s) s
    have effect : eventEffect .shutdownRestExpiry s = enterDarkJudged .sequence (orderEach orderCut (restingLanes s) s) :=
      if_pos (restDue_iff.mpr ⟨⟨mode, phase⟩, out⟩)
    have run := exec_event (c := .shutdownRestExpiry) rfl s
    rw [effect] at run
    obtain ⟨tmode, tphase, lane, beacon, drive9, drive, rate, site, links, events⟩ := exec_stays quiet.leads (cuts_dark dark) .sequence stays
    exact ⟨_, run, tmode, tphase, lane, beacon, drive9, fun i rest c => drive i c ((cuts_rest s i).2 rest c), rate, site, links, events⟩
  · constructor
    · rw [exec_event (c := .startupRestExpiry) rfl, show eventEffect .startupRestExpiry s = s from
        if_neg fun due => running (restDue_iff.mp due).2]
    · rw [exec_event (c := .shutdownRestExpiry) rfl, show eventEffect .shutdownRestExpiry s = s from
        if_neg fun due => running (restDue_iff.mp due).2]
  · have live : (s.lane i).state ≠ .faulted := by rw [amber]; decide
    have works : working s i = true := (working_iff plan i).mpr ⟨enabled_, live⟩
    have run := exec_amber_red plan amber out (by rw [mode]; decide) toOff awaits
    have lanes := workingLanes_entered (x := (s.lane i).toRed (planRedMin p * 10)) live (by simp [Lane.toRed])
    have work := working_entered (x := (s.lane i).toRed (planRedMin p * 10)) live (by simp [Lane.toRed])
    have quiet := quiet_enterLane i ((s.lane i).toRed (planRedMin p * 10)) s
    have lane := lane_enterLane s i (x := (s.lane i).toRed (planRedMin p * 10))
    have umode := quiet.mode.trans mode
    have rate : startRate p (enterLane i ((s.lane i).toRed (planRedMin p * 10)) s) = startRate p s := by rw [startRate, quiet.rate, startRate]
    intro r o early
    have wish' := (wanted_enterLane i ((s.lane i).toRed (planRedMin p * 10)) s)
    generalize enterLane i ((s.lane i).toRed (planRedMin p * 10)) s = u at *
    have limits : u.limits = s.limits := quiet.site.2.2.2.2.2.1
    have entered := metering_entered (s := u) (p := p) (by rw [quiet.plan, plan]) (by rw [rate, limits, lanes]; exact early)
    have advances : advanceSequence u = enterMetering u := by
      refine advanceSequence_cleared umode (by rw [quiet.meter, phase]) ⟨i, (work i).trans works⟩ (fun j on => ?_) entered
      rw [lane]
      by_cases same : j = i
      · rw [if_pos same]
        exact .inl rfl
      · rw [if_neg same]
        exact past j same ((work j).symm.trans on)
    rw [advances, judgeWish_met (.inl ⟨.inl entered.mode, by rw [metering_wanted entered, wish']; exact wish⟩)] at run
    have site := KeepsSite.trans quiet.site entered.site
    have links := keepsLinks_judgeLines (entered.links.trans quiet.links)
    have events : (enterMetering u).events = _ := (quiet.posted entered.posted).1
    have tmode := entered.mode
    obtain ⟨meter, tlane, -, ring, elapsed, pending, headway, trate, -, -, -⟩ := entered
    rw [quiet.meter] at meter
    rw [rate, limits, lanes] at headway trate
    rw [lanes] at ring
    generalize enterMetering u = t at *
    refine ⟨_, run, tmode, by simp [meter], by simp [meter], ?_, fun j other => ?_, ring, elapsed, headway, pending, trate, events, site, links⟩
    · rw [lane_judgeLines, tlane, lane, if_pos rfl]
    · rw [lane_judgeLines, tlane, lane, if_neg other]
  · have run := exec_amber_off amber out (by rw [mode]; decide) toOff
    have quiet := quiet_enterLane i (s.lane i).toOFF s
    have off := entered_off dark
    have umode := quiet.mode.trans mode
    generalize enterLane i (s.lane i).toOFF s = u at *
    obtain ⟨after, same⟩ := judgeWish_darkJudged (cause := .stop) (s := u) (p := p) (by rw [quiet.plan, plan]) off
    rw [advanceSequence_stopped umode (by rw [quiet.meter, phase]) off after, same] at run
    exact ⟨_, run, exec_restarts quiet.leads off .stop plan starts⟩
  · have run := exec_amber_off amber out (by rw [mode]; decide) toOff
    have quiet := quiet_enterLane i (s.lane i).toOFF s
    have off := entered_off dark
    have umode := quiet.mode.trans mode
    generalize enterLane i (s.lane i).toOFF s = u at *
    obtain ⟨after, same⟩ := judgeWish_darkJudged (cause := .stop) (s := u) (p := p) (by rw [quiet.plan, plan]) off
    rw [advanceSequence_stopped umode (by rw [quiet.meter, phase]) off after, same] at run
    obtain ⟨tmode, tphase, lane, beacon, -, -, -, site, links, events⟩ := exec_stays quiet.leads off .stop stays
    exact ⟨_, run, tmode, tphase, beacon, lane, events, site, links⟩
  · obtain ⟨j, other, notOff, notFaulted⟩ := lit
    have quiet := quiet_enterLane i (s.lane i).toOFF s
    have umode := quiet.mode.trans mode
    have uphase : (enterLane i (s.lane i).toOFF s).meter.phase = .stopping := by rw [quiet.meter, phase]
    have lane : (enterLane i (s.lane i).toOFF s).lane j = s.lane j := by simp [other]
    rw [exec_amber_off amber out (by rw [mode]; decide) toOff,
      advanceSequence_stopping (i := j) umode uphase (by rw [lane]; exact ⟨notOff, notFaulted⟩), judgeWish_stopping umode uphase]
  · obtain ⟨j, other, works, notRed, notReady⟩ := waits
    have live : (s.lane i).state ≠ .faulted := by rw [amber]; decide
    have quiet := quiet_enterLane i ((s.lane i).toRed (planRedMin p * 10)) s
    have umode := quiet.mode.trans mode
    have lane : (enterLane i ((s.lane i).toRed (planRedMin p * 10)) s).lane j = s.lane j := by simp [other]
    have work := working_entered (x := (s.lane i).toRed (planRedMin p * 10)) live (by simp [Lane.toRed]) j
    rw [exec_amber_red plan amber out (by rw [mode]; decide) toOff awaits,
      advanceSequence_clearing (i := j) umode (by rw [quiet.meter, phase]; decide)
        fun _ => ⟨work.trans works, by rw [lane]; exact notRed, by rw [lane]; exact notReady⟩,
      judgeWish_met (.inl ⟨.inr (.inr umode), by rw [wanted_enterLane]; exact wish⟩)]
  · have run := exec_amber_rest plan amber out (by rw [mode]; decide) toOff awaits
    exact ⟨_, run, rested_in_shutdown plan mode works amber wish⟩

end Sys2Proof.Sequences
end

section
/-! Recombinations that may grant a release, lane faults, and the entry to FAULT_DARK. -/

namespace Sys2Proof.Faults
open Sys2Proof.Machine Sys2Proof.Steps Sys2Proof.Holders Sys2Proof.AbsentLinks Sys2Proof.LaneLaws Sys2Proof.Transitions
open Sys2Proof.ModeSteps Sys2Proof.PlanChanges Sys2Proof.Lamps Sys2Proof.HandWork Sys2Proof.DarkEntries Sys2Proof.Activations
open Sys2Proof.Cycle Sys2Proof.Sequences Sys2Proof.Releases

/-! ### Releases that a recombination may grant -/

/-- The lanes, the lamps and the ring are as they were, but that in METERING one READY lane may have been granted a
release. -/
def MayGrant (s t : State) : Prop :=
  (∀ j, t.lane j = s.lane j) ∧ t.drives = s.drives ∧ t.sched.ring = s.sched.ring ∨
    ∃ g, s.mode = .metering ∧ (s.lane g).state = .ready ∧ (t.lane g).state = .green ∧ (∀ j, j ≠ g → t.lane j = s.lane j) ∧
      (∀ j c, j ≠ g → t.drive (driveOf j c) = s.drive (driveOf j c)) ∧ t.sched.ring.Perm s.sched.ring

theorem mayGrant_grant {g : Fin 3} {s : State} (mode : s.mode = .metering) (next : nextLane s = some g) : MayGrant s (grant g s) := by
  obtain ⟨can, front, back, ring, -⟩ := (nextLane_eq_some s g).mp next
  simp only [eligible, Bool.and_eq_true, beq_iff_eq] at can
  refine .inr ⟨g, mode, can.1, ?_, fun j other => ?_, fun j c other => ?_, ?_⟩
  · rw [grant, lane_setRelease, lane_enterLane, if_pos rfl]
    rfl
  · rw [grant, lane_setRelease, lane_enterLane, if_neg other]
  · rw [grant, drive_setRelease, drive_enterLane, if_neg other]
  · have entered := (keepsReleases_enterLane g ((s.lane g).toGreen (some (greenTime s))) s).1
    have mem : g ∈ s.sched.ring := by rw [ring]; simp
    rw [grant]
    show ((enterLane g _ s).sched.ring.erase g ++ [g]).Perm _
    rw [entered]
    exact (List.perm_append_comm.trans (List.perm_cons_erase mem).symm)

theorem mayGrant_releaseDue {s : State} (mode : s.mode = .metering) : MayGrant s (releaseDue s) := by
  obtain ⟨g, next, e⟩ | ⟨-, e⟩ := releaseDue_cases s <;> rw [e]
  · exact mayGrant_grant mode next
  · exact .inl ⟨fun _ => rfl, rfl, rfl⟩

theorem mayGrant_handHeadway (h : Nat) (s : State) : MayGrant s (handHeadway h s) := by
  obtain ⟨-, e⟩ | ⟨mode, -, -, e⟩ := handHeadway_cases h s <;> rw [e]
  · exact .inl ⟨fun _ => rfl, rfl, rfl⟩
  · exact mayGrant_releaseDue (s := s.setHeadway h) mode

theorem mayGrant_recombine (s : State) : MayGrant s (recombine s) := by
  unfold recombine
  split
  · unfold runCombine
    split
    · exact .inl ⟨fun _ => rfl, rfl, rfl⟩
    · dsimp only
      split
      · exact mayGrant_handHeadway _ (s.putRate _)
      · exact .inl ⟨fun _ => rfl, rfl, rfl⟩
  · exact .inl ⟨fun _ => rfl, rfl, rfl⟩

section MayGrant
variable {s t : State} (h : MayGrant s t)
include h

theorem MayGrant.lane (j : Fin 3) : t.lane j = s.lane j ∨ (s.mode = .metering ∧ (s.lane j).state = .ready ∧ (t.lane j).state = .green) := by
  obtain ⟨same, -⟩ | ⟨g, mode, ready, green, others, -⟩ := h
  · exact .inl (same j)
  · by_cases here : j = g
    · exact .inr ⟨mode, by rw [here]; exact ready, by rw [here]; exact green⟩
    · exact .inl (others j here)

/-- A lane that is not READY is as it was, with its drives. -/
theorem MayGrant.unready {j : Fin 3} (other : (s.lane j).state ≠ .ready) :
    t.lane j = s.lane j ∧ ∀ c, t.drive (driveOf j c) = s.drive (driveOf j c) := by
  obtain ⟨same, drives, -⟩ | ⟨g, -, ready, -, others, drives, -⟩ := h
  · exact ⟨same j, fun c => by rw [State.drive, drives, ← State.drive]⟩
  · have ne : j ≠ g := fun e => other (by rw [e]; exact ready)
    exact ⟨others j ne, fun c => drives j c ne⟩

theorem MayGrant.ring : t.sched.ring.Perm s.sched.ring ∧ (s.mode = .hold → t.sched.ring = s.sched.ring) := by
  obtain ⟨-, -, ring⟩ | ⟨g, mode, -, -, -, -, ring⟩ := h
  · exact ⟨by rw [ring], fun _ => ring⟩
  · exact ⟨ring, fun hold => by rw [mode] at hold; cases hold⟩

theorem MayGrant.workingLanes (plan : t.plans = s.plans) : Machine.workingLanes t = Machine.workingLanes s := by
  refine workingLanes_of_lanes (by rw [plan]) fun j => ?_
  obtain same | ⟨-, ready, green⟩ := h.lane j
  · rw [same]
  · simp [ready, green]

end MayGrant

/-! ### A lane that becomes FAULTED -/

/-- A lane taken out of service, with its fault posted (R81, R116). -/
structure Faulted (i : Fin 3) (detail : Nat) (s t : State) : Prop where
  here : t.lane i = (s.lane i).toFaulted
  lane : ∀ j, j ≠ i → t.lane j = s.lane j
  aspectHere : t.aspect i = none
  meter : AspectsAlone s t
  dark : ∀ c, (t.drive (driveOf i c)).commanded = false
  drive : ∀ j c, j ≠ i → t.drive (driveOf j c) = s.drive (driveOf j c)
  ring : t.sched.ring = s.sched.ring.erase i
  rate : t.rate = s.rate
  events : t.events = (s.post .laneFault (i.val + 1) detail).events
  site : KeepsSite s t
  links : t.links = s.links

theorem faulted_faultLane {k : Fin 10} {x : Drive} {i : Fin 3} {c : Colour} (detail : Nat) (here : k = driveOf i c) (s : State) :
    Faulted i detail s (faultLane i ((s.setDrive k x).post .laneFault (i.val + 1) detail)) := by
  have alone := LaneAlone.enter i (s.lane i).toFaulted ((s.setDrive k x).post .laneFault (i.val + 1) detail)
  rw [Agreement.faultLane_eq]
  have lane : ((s.setDrive k x).post .laneFault (i.val + 1) detail).lane i = s.lane i := rfl
  have entered : (enterLane i (s.lane i).toFaulted ((s.setDrive k x).post .laneFault (i.val + 1) detail)).lane i = (s.lane i).toFaulted := by
    simp
  have dark : ∀ c, ((enterLane i (s.lane i).toFaulted ((s.setDrive k x).post .laneFault (i.val + 1) detail)).drive
      (driveOf i c)).commanded = false := fun c => by
    rw [drive_enterLane, if_pos rfl, Drive.command_commanded]
    rfl
  have other : ∀ j c', j ≠ i → ((s.setDrive k x).post .laneFault (i.val + 1) detail).drive (driveOf j c') = s.drive (driveOf j c') :=
    fun j c' ne => by simp [here, ne]
  rw [lane]
  refine ⟨?_, fun j ne => ?_, ?_, ?_, fun c => ?_, fun j c ne => ?_, ?_, ?_, ?_, ?_, ?_⟩
  · rw [Agreement.leaveRing_lane, entered]
  · rw [Agreement.leaveRing_lane, alone.lane j ne]
    rfl
  · simp [Agreement.leaveRing, State.aspect, State.setAspectOf]
  · exact alone.meter.trans (aspectsAlone_setAspectOf i none _)
  · simp only [Agreement.leaveRing, drive_setRelease, drive_setAspectOf, dark]
  · simp only [Agreement.leaveRing, drive_setRelease, drive_setAspectOf]
    rw [alone.otherDrive j c ne, other j c ne]
  · rw [Agreement.leaveRing_ring, alone.releases.1]
    rfl
  · simp [Agreement.leaveRing]
  · simp [Agreement.leaveRing]
    rfl
  · simp [Agreement.leaveRing, KeepsSite]
  · simp [Agreement.leaveRing]

section Faulted
variable {i : Fin 3} {detail : Nat} {s t : State} (h : Faulted i detail s t)
include h

theorem Faulted.mode : t.mode = s.mode := by rw [State.mode, h.meter, ← State.mode]

theorem Faulted.state : (t.lane i).state = .faulted := by rw [h.here]; rfl

theorem Faulted.plans : t.plans = s.plans := h.site.2.2.2.2.1

theorem Faulted.limits : t.limits = s.limits := h.site.2.2.2.2.2.1

theorem Faulted.wanted : Machine.wanted t = Machine.wanted s := wanted_congr (by rw [h.meter]) (by rw [h.plans])

theorem Faulted.working (j : Fin 3) : Machine.working t j = true ↔ j ≠ i ∧ Machine.working s j = true := by
  by_cases same : j = i
  · subst same
    simp [Machine.working, isFaulted, h.state]
  · have kept : Machine.working t j = Machine.working s j := working_of_lanes (by rw [h.plans]) (by rw [h.lane j same])
    simp [kept, same]

theorem Faulted.workingLanes : Machine.workingLanes t = (Machine.workingLanes s).erase i := by
  rw [(workingLanes_nodup s).erase_eq_filter, Machine.workingLanes, Machine.workingLanes, List.filter_filter]
  refine List.filter_congr fun j _ => ?_
  rw [Bool.eq_iff_iff, h.working]
  simp

theorem Faulted.beacon : t.meter.beacon = s.meter.beacon := by rw [h.meter]

theorem Faulted.phase : t.meter.phase = s.meter.phase ∧ t.meter.seqTimer = s.meter.seqTimer := by
  constructor <;> rw [h.meter]

end Faulted

/-! ### The entry to FAULT_DARK -/

/-- FAULT_DARK as its entry leaves it (R106). -/
structure FaultDark (s t : State) : Prop where
  meter : t.meter = { s.meter with mode := .faultDark, phase := .idle, seqTimer := 0, hold := none, beacon := false,
                                   aspects := Vector.replicate 3 none }
  lane : ∀ j, t.lane j = cutLane (s.lane j)
  drive : ∀ k, (t.drive k).commanded = false
  rate : t.rate = { s.rate with inForce := none }
  ring : t.sched.ring = []
  posted : Posted [modeEvent .faultDark .meterFault] s t
  site : KeepsSite s t
  links : t.links = s.links

theorem FaultDark.mode {s t : State} (h : FaultDark s t) : t.mode = .faultDark := by rw [State.mode, h.meter]

theorem lane_drivesOff (s : State) (i : Fin 3) : (drivesOff s).lane i = s.lane i := rfl

theorem ring_faultDarkEntered (s : State) : (Agreement.faultDarkEntered s).sched.ring = [] := rfl

theorem faultDark_entered (s : State) : FaultDark s (enterFaultDark s) := by
  have meter : (enterFaultDark s).meter = (Agreement.faultDarkEntered s).meter := by rw [Agreement.enterFaultDark_eq]; simp
  have unlit : ∀ u : State, (∀ i c, (u.drive (driveOf i c)).commanded = false) →
      ∀ i c, ((orderEach orderCut allLanes u).drive (driveOf i c)).commanded = false := fun u dark =>
    orderEach_keeps (P := Agreement.LanesUnlit) (fun i _ v => Agreement.lanesUnlit_cut i) dark
  have lane : ∀ j, (Agreement.faultDarkEntered s).lane j = s.lane j := fun j => by simp [Agreement.faultDarkEntered, lane_drivesOff]
  have ring := ring_faultDarkEntered s
  have dark : ∀ i c, ((Agreement.faultDarkEntered s).drive (driveOf i c)).commanded = false := fun i c => by
    simp [Agreement.faultDarkEntered, Agreement.drivesOff_commanded]
  have beacon : ((Agreement.faultDarkEntered s).drive beaconDrive).commanded = false := by
    simp [Agreement.faultDarkEntered, driverOutput]
  have rate : (Agreement.faultDarkEntered s).rate = { s.rate with inForce := none } := by
    simp [Agreement.faultDarkEntered, leaveReleases, disengage]
  refine ⟨meter.trans (Agreement.faultDarkEntered_meter s), fun j => ?_, fun k => ?_, ?_, ?_, posted_enterFaultDark s, by simp [KeepsSite],
    by simp⟩ <;> rw [Agreement.enterFaultDark_eq] <;> generalize Agreement.faultDarkEntered s = u at *
  · rw [lane_orderCuts allLanes_nodup, if_pos (mem_allLanes j), lane]
  · obtain rfl | ⟨i, c, rfl⟩ := drive_of_lane k
    · rw [show (orderEach orderCut allLanes u).drive beaconDrive = u.drive beaconDrive from
        orderEach_keeps (P := fun v => v.drive beaconDrive = u.drive beaconDrive)
          (fun i _ v h => (actsOnLane_cut i v).beaconDrive.trans h) rfl, beacon]
    · exact unlit u dark i c
  · rw [orderEach_rate orderCut (by simp), rate]
  · rw [(keepsReleases_orderEach (fun i v => keepsReleases_acts (actsOnLane_cut i v)) allLanes u).1, ring]

end Sys2Proof.Faults
end

section
/-! The consequences of a latched mismatch, mode by mode (O60). -/

namespace Sys2Proof.Consequences
open Sys2Proof.Machine Sys2Proof.Steps Sys2Proof.Holders Sys2Proof.LaneLaws Sys2Proof.Transitions Sys2Proof.ModeSteps
open Sys2Proof.PlanChanges Sys2Proof.Lamps Sys2Proof.HandWork Sys2Proof.DarkEntries Sys2Proof.Activations Sys2Proof.Cycle
open Sys2Proof.Sequences Sys2Proof.Releases Sys2Proof.Faults

/-! ### Which consequence -/

theorem driveLane_driveOf (i : Fin 3) (c : Colour) : driveLane (driveOf i c) = some (i, c) := by
  match i with
  | 0 | 1 | 2 => cases c <;> rfl

/-- The mismatches whose consequence is a lane fault (R115). -/
def IsLaneFault (c : Colour) (w : WatchKind) (lim : SiteLimits) : Prop :=
  c = .green ∧ w = .out ∨ c = .red ∧ w = .lit ∨ c = .amber ∧ w = .lit ∨ c = .red ∧ w = .out ∧ lim.redScope = .lane ∨
    c = .amber ∧ w = .out ∧ lim.amberMode = .fault

theorem consequence_lane {i : Fin 3} {c : Colour} {w : WatchKind} {s : State} (kind : IsLaneFault c w s.limits) :
    consequence (driveOf i c) w s = laneFault i c w s := by
  unfold consequence
  rw [driveLane_driveOf]
  obtain ⟨rfl, rfl⟩ | ⟨rfl, rfl⟩ | ⟨rfl, rfl⟩ | ⟨rfl, rfl, scope⟩ | ⟨rfl, rfl, mode⟩ := kind
  · rfl
  · rfl
  · rfl
  · simp only [scope]
  · simp only [mode]

/-- A watch latched, its drive else as it was. -/
def latched (k : Fin 10) (w : WatchKind) (s : State) : State := s.setDrive k ((s.drive k).setWatch w (.latched none))

theorem exec_deglitch {k : Fin 10} {w : WatchKind} {e m : Nat} {s : State} (suspect : (s.drive k).watch w = .suspect e m) :
    (m ≤ e → exec (.deglitchExpiry k w) s = .next (consequence k w (latched k w s)).judgeLines) ∧
      (e < m → exec (.deglitchExpiry k w) s = .next s.judgeLines) := by
  have due : deglitchDue (s.drive k) w = decide (m ≤ e) := by simp [deglitchDue, suspect]
  rw [exec_event (c := .deglitchExpiry k w) rfl]
  refine ⟨fun run => ?_, fun early => ?_⟩
  · rw [show eventEffect (.deglitchExpiry k w) s = consequence k w (latched k w s) from if_pos (by simp [due, run])]
  · rw [show eventEffect (.deglitchExpiry k w) s = s from if_neg (by simp [due, early])]

/-- What follows a lane fault once its lane is out of service (R116, R117). -/
def faultJudged (i : Fin 3) (s : State) : State :=
  if inService s && (workingLanes s).isEmpty then meterFault i .noLane s else judgeWish (advanceSequence s)

section LaneFault
variable {k : Fin 10} {i : Fin 3} {c : Colour} {w : WatchKind} {e m : Nat} {s : State} (here : k = driveOf i c)
  (kind : IsLaneFault c w s.limits) (suspect : (s.drive k).watch w = .suspect e m) (due : m ≤ e)
include here kind suspect due

theorem exec_laneFault_again (faulted : (s.lane i).state = .faulted) : exec (.deglitchExpiry k w) s =
    .next ((latched k w s).post .laneFault (i.val + 1) (c.code * 256 + watchCode w)).judgeLines := by
  have still : isFaulted ((latched k w s).post .laneFault (i.val + 1) (twoBytes c.code (watchCode w))) i = true := by
    simp [isFaulted, latched, faulted]
  have chosen : consequence k w (latched k w s) = laneFault i c w (latched k w s) := by rw [here]; exact consequence_lane kind
  rw [(exec_deglitch suspect).1 due, chosen, laneFault]
  dsimp only
  rw [if_pos still]
  rfl

/-- A lane fault on a lane in service takes it out, and then the rate and the sequence are judged. -/
theorem exec_laneFault (live : (s.lane i).state ≠ .faulted) :
    ∃ f, Faulted i (c.code * 256 + watchCode w) s f ∧
      exec (.deglitchExpiry k w) s = .next (faultJudged i (recombineFault f)).judgeLines := by
  have alive : isFaulted ((latched k w s).post .laneFault (i.val + 1) (twoBytes c.code (watchCode w))) i = false := by
    simp [isFaulted, latched, live]
  refine ⟨_, faulted_faultLane (x := (s.drive k).setWatch w (.latched none)) (c.code * 256 + watchCode w) here s, ?_⟩
  have run := (exec_deglitch suspect).1 due
  rw [show consequence k w (latched k w s) = laneFault i c w (latched k w s) by rw [here]; exact consequence_lane kind, laneFault] at run
  dsimp only at run
  rw [alive] at run
  exact run

end LaneFault

/-! ### The lane fault in each mode -/

section Judged
variable {i : Fin 3} {detail : Nat} {s f t : State} (h : Faulted i detail s f)
include h

/-- What a lane fault does to the lamps and the lanes, where what follows it touches no lane. -/
theorem faulted_faults (lane : ∀ j, t.lane j = f.lane j) (drives : t.drives = f.drives) (beacon : t.meter.beacon = f.meter.beacon)
    (site : KeepsSite f t) (links : t.links = f.links) :
    (t.judgeLines.lane i).state = .faulted ∧ (∀ j, j ≠ i → t.judgeLines.lane j = s.lane j) ∧
      (∀ c', (t.judgeLines.drive (driveOf i c')).commanded = false) ∧
      (∀ j c', j ≠ i → t.judgeLines.drive (driveOf j c') = s.drive (driveOf j c')) ∧
      t.judgeLines.meter.beacon = s.meter.beacon ∧ KeepsSite s t.judgeLines ∧ KeepsLinks s t.judgeLines := by
  have drive : ∀ k, t.drive k = f.drive k := fun k => by rw [State.drive, drives, ← State.drive]
  refine ⟨?_, fun j other => ?_, fun c' => ?_, fun j c' other => ?_, beacon.trans (Faulted.beacon h), KeepsSite.trans h.site site,
    keepsLinks_judgeLines (links.trans h.links)⟩
  · rw [lane_judgeLines, lane, h.state]
  · rw [lane_judgeLines, lane, h.lane j other]
  · rw [drive_judgeLines, drive, h.dark]
  · rw [drive_judgeLines, drive, h.drive j c' other]

theorem faulted_recombined (metering : s.mode ≠ .metering) (hold : s.mode ≠ .hold) : recombineFault f = f := by
  rw [recombineFault, recombine_of_not_engaged (by rw [h.mode]; exact metering) (by rw [h.mode]; exact hold), ite_self]

theorem faulted_recombined_empty (alone : ∀ j, j ≠ i → working s j = false) : recombineFault f = f := by
  rw [recombineFault, if_pos]
  rw [List.isEmpty_iff, List.eq_nil_iff_forall_not_mem]
  intro j mem
  obtain ⟨other, on⟩ := (h.working j).mp ((mem_workingLanes f j).mp mem)
  rw [alone j other] at on
  cases on

theorem faulted_left {j : Fin 3} (other : j ≠ i) (on : working s j = true) : (workingLanes f).isEmpty = false := by
  rw [List.isEmpty_eq_false_iff_exists_mem]
  exact ⟨j, (mem_workingLanes f j).mpr ((h.working j).mpr ⟨other, on⟩)⟩

omit h in
theorem faultJudged_left (left : (workingLanes f).isEmpty = false) : faultJudged i f = judgeWish (advanceSequence f) := by
  simp [faultJudged, left]

omit h in
theorem faultJudged_out (out : inService f = false) : faultJudged i f = judgeWish (advanceSequence f) := by
  simp [faultJudged, out]

omit h in
theorem inService_of_rest (rest : f.mode = .dark ∨ f.mode = .manual ∨ f.mode = .faultDark) : inService f = false := by
  obtain m | m | m := rest <;> simp [inService, m]

/-- In the modes at rest nothing follows a lane fault, unless DARK has a start that stands. -/
theorem faulted_rests (rest : s.mode = .dark ∨ s.mode = .manual ∨ s.mode = .faultDark)
    (idle : s.mode = .dark → ¬ (s.locked = true ∧ StartStands s fun j => j ≠ i ∧ working s j = true)) :
    faultJudged i (recombineFault f) = f := by
  have fmode := h.mode
  have same : recombineFault f = f := faulted_recombined h (by obtain m | m | m := rest <;> rw [m] <;> decide)
    (by obtain m | m | m := rest <;> rw [m] <;> decide)
  have still : advanceSequence f = f := advanceSequence_idle (by rw [fmode]; obtain m | m | m := rest <;> rw [m] <;> decide)
    (by rw [fmode]; obtain m | m | m := rest <;> rw [m] <;> decide)
  rw [same, faultJudged_out (inService_of_rest (by rw [fmode]; exact rest)), still]
  obtain m | m := rest
  · rw [judgeWish_dark (fmode.trans m), if_neg]
    rintro ⟨start, conditions⟩
    obtain ⟨locked, ⟨n, active, valid⟩, j, on⟩ := (startConditions_iff f).mp conditions
    have slot : f.slot n = s.slot n := by rw [State.slot, h.plans, ← State.slot]
    refine idle m ⟨h.site.2.2.2.2.2.2.1 ▸ locked, h.wanted ▸ start, ⟨n, h.plans ▸ active, slot ▸ valid⟩, j, (h.working j).mp on⟩
  · exact judgeWish_still (by rw [fmode]; exact m)

end Judged

/-! ### METERING and HOLD -/

theorem inService_of_mode {s : State} (mode : s.mode = .startup ∨ s.mode = .metering ∨ s.mode = .hold ∨ s.mode = .shutdown) :
    inService s = true := by
  obtain m | m | m | m := mode <;> simp [inService, m]

theorem recombine_mode (s : State) : (recombine s).mode = s.mode := by simp [State.mode]

/-- A lane fault in METERING or HOLD that leaves another lane working: the rate recombines with the lanes left (R117). -/
theorem faulted_engaged {i j : Fin 3} {detail : Nat} {s f : State} (h : Faulted i detail s f) (mode : s.mode = .metering ∨ s.mode = .hold)
    (other : j ≠ i) (on : working s j = true) (wish : wanted s ≠ .stop) : faultJudged i (recombineFault f) = recombine f := by
  have fmode : (recombine f).mode = s.mode := (recombine_mode f).trans h.mode
  have left : (workingLanes (recombine f)).isEmpty = false := by
    rw [(mayGrant_recombine f).workingLanes (by simp)]
    exact faulted_left h other on
  have wish' : wanted (recombine f) = wanted s := (wanted_congr (by simp) (by simp)).trans h.wanted
  have same : recombineFault f = recombine f := if_neg (by rw [faulted_left h other on]; decide)
  rw [same, faultJudged_left left, advanceSequence_idle (by rw [fmode]; obtain m | m := mode <;> rw [m] <;> decide)
    (by rw [fmode]; obtain m | m := mode <;> rw [m] <;> decide),
    judgeWish_met (.inl ⟨by rw [fmode]; exact mode.imp_right .inl, by rw [wish']; exact wish⟩)]

/-! ### Meter faults -/

theorem meterFault_enters {i : Fin 3} {s : State} (cause : MeterFaultCause) (mode : s.mode ≠ .faultDark) :
    meterFault i cause s = enterFaultDark (s.post .meterFault (i.val + 1) (cause.code * 256)) := by
  have detail : twoBytes cause.code 0 = cause.code * 256 := by cases cause <;> rfl
  rw [meterFault, detail]
  exact if_neg mode

theorem meterFault_still {i : Fin 3} {s : State} (cause : MeterFaultCause) (mode : s.mode = .faultDark) :
    meterFault i cause s = s.post .meterFault (i.val + 1) (cause.code * 256) := by
  have detail : twoBytes cause.code 0 = cause.code * 256 := by cases cause <;> rfl
  rw [meterFault, detail]
  exact if_pos mode

theorem consequence_conflict (i : Fin 3) (s : State) : consequence (driveOf i .green) .lit s = meterFault i .conflict s := by
  unfold consequence
  rw [driveLane_driveOf]

theorem consequence_redOut {i : Fin 3} {s : State} (scope : s.limits.redScope = .all) :
    consequence (driveOf i .red) .out s = meterFault i .redOut s := by
  unfold consequence
  rw [driveLane_driveOf]
  simp only [scope]

theorem consequence_amberWarn {i : Fin 3} {s : State} (mode : s.limits.amberMode = .warn) :
    consequence (driveOf i .amber) .out s = s.post .lampWarn (i.val + 1) (2 * 256 + 1) := by
  unfold consequence
  rw [driveLane_driveOf]
  simp only [mode]
  rfl

theorem cutLane_cases (x : Lane) : (x.state ≠ .faulted → (cutLane x).state = .off) ∧ (x.state = .faulted → cutLane x = x) := by
  refine ⟨fun live => ?_, fun faulted => by simp [cutLane, faulted]⟩
  rw [Manual.cutLane_state, if_neg live]

/-- The entry to FAULT_DARK as the attention lines leave it, from a state with events posted before it. -/
theorem faultDark_facts {s u t : State} {es : List (EventKind × Nat × Nat)} (h : FaultDark u t) (posted : Posted es s u)
    (site : KeepsSite s u) (links : u.links = s.links) :
    t.judgeLines.mode = .faultDark ∧ t.judgeLines.meter.phase = .idle ∧ t.judgeLines.meter.hold = none ∧
      t.judgeLines.meter.beacon = false ∧ (∀ j, (t.judgeLines.drive j).commanded = false) ∧
      (∀ j, t.judgeLines.lane j = cutLane (u.lane j)) ∧ t.judgeLines.rate = { u.rate with inForce := none } ∧
      t.judgeLines.sched.ring = [] ∧ t.judgeLines.meter.requests = u.meter.requests ∧
      t.judgeLines.events = (s.postEach (es ++ [modeEvent .faultDark .meterFault])).events ∧
      KeepsSite s t.judgeLines ∧ KeepsLinks s t.judgeLines := by
  have meter : t.judgeLines.meter = t.meter := rfl
  rw [meter, h.meter]
  exact ⟨h.mode, rfl, rfl, rfl, h.drive, h.lane, h.rate, h.ring, rfl, (posted.trans h.posted).1, KeepsSite.trans site h.site,
    keepsLinks_judgeLines (h.links.trans links)⟩

/-- A conflict, or a red out under red_scope ALL, outside FAULT_DARK (R115, R118). -/
theorem exec_meterFault {k : Fin 10} {i : Fin 3} {w : WatchKind} {e m : Nat} {s : State} {cause : MeterFaultCause} {n : Nat}
    (code : cause.code = n) (suspect : (s.drive k).watch w = .suspect e m) (due : m ≤ e) (mode : s.mode ≠ .faultDark)
    (chosen : consequence k w (latched k w s) = meterFault i cause (latched k w s)) :
    ∃ t, exec (.deglitchExpiry k w) s = .next t ∧ t.mode = .faultDark ∧ t.meter.phase = .idle ∧
      t.meter.hold = none ∧ t.meter.beacon = false ∧ (∀ j, (t.drive j).commanded = false) ∧
      (∀ j, (s.lane j).state ≠ .faulted → (t.lane j).state = .off) ∧
      (∀ j, (s.lane j).state = .faulted → t.lane j = s.lane j) ∧ t.rate.inForce = none ∧ t.sched.ring = [] ∧
      t.events = ((s.post .meterFault (i.val + 1) (n * 256)).post .modeChange 0 (6 * 256 + 12)).events ∧
      KeepsSite s t ∧ KeepsLinks s t ∧ t.meter.requests = s.meter.requests ∧ t.rate.orders = s.rate.orders := by
  have run := (exec_deglitch suspect).1 due
  have entered := meterFault_enters (i := i) (s := latched k w s) cause mode
  rw [chosen, entered, code] at run
  have posted : Posted [(.meterFault, i.val + 1, n * 256)] s ((latched k w s).post .meterFault (i.val + 1) (n * 256)) :=
    (posted_post _ _ _ _).before rfl rfl
  obtain ⟨tmode, phase, hold, beacon, drive, lane, rate, ring, requests, events, site, links⟩ :=
    faultDark_facts (faultDark_entered ((latched k w s).post .meterFault (i.val + 1) (n * 256))) posted (KeepsSite.refl s) rfl
  have lane' : ∀ j, ((latched k w s).post .meterFault (i.val + 1) (n * 256)).lane j = s.lane j := fun _ => rfl
  have urate : ((latched k w s).post .meterFault (i.val + 1) (n * 256)).rate = s.rate := rfl
  have wishes : ((latched k w s).post .meterFault (i.val + 1) (n * 256)).meter.requests = s.meter.requests := rfl
  simp only [lane', urate, wishes] at lane rate requests
  generalize (enterFaultDark ((latched k w s).post .meterFault (i.val + 1) (n * 256))).judgeLines = t at *
  exact ⟨t, run, tmode, phase, hold, beacon, drive, fun j live => by rw [lane]; exact (cutLane_cases _).1 live,
    fun j faulted => by rw [lane]; exact (cutLane_cases _).2 faulted, by rw [rate], ring, events, site, links, requests, by rw [rate]⟩

/-! ### STARTUP and SHUTDOWN -/

section Sequence
variable {i : Fin 3} {detail : Nat} {p : List Byte} {s f : State} (h : Faulted i detail s f) (plan : s.plans.plan = some p)
include h

/-- A startup goes on with the lanes left, unless the clearance waits for none of them. -/
theorem faulted_startup {j : Fin 3} (mode : s.mode = .startup) (phase : s.meter.phase ≠ .stopping) (wish : wanted s ≠ .stop)
    (other : j ≠ i) (on : working s j = true)
    (waits : s.meter.phase = .clearing → ∃ j, j ≠ i ∧ working s j = true ∧ ¬ ((s.lane j).state = .red ∨ (s.lane j).state = .ready)) :
    faultJudged i (recombineFault f) = f := by
  have fmode := h.mode.trans mode
  have still : advanceSequence f = f := by
    by_cases clearing : s.meter.phase = .clearing
    · obtain ⟨n, ne, works, past⟩ := waits clearing
      refine advanceSequence_clearing (i := n) fmode (by rw [h.phase.1]; exact phase) fun _ => ⟨(h.working n).mpr ⟨ne, works⟩, ?_⟩
      rw [h.lane n ne]
      exact not_or.mp past
    · exact advanceSequence_clearing (i := i) fmode (by rw [h.phase.1]; exact phase) fun c => absurd (h.phase.1.symm.trans c) clearing
  rw [faulted_recombined h (by rw [mode]; decide) (by rw [mode]; decide), faultJudged_left (faulted_left h other on), still,
    judgeWish_met (.inl ⟨.inr (.inr fmode), by rw [h.wanted]; exact wish⟩)]

/-- A clearance that only the faulted lane kept open ends in METERING. -/
theorem faulted_cleared {j : Fin 3} (mode : s.mode = .startup) (phase : s.meter.phase = .clearing) (wish : wanted s ≠ .stop)
    (other : j ≠ i) (on : working s j = true)
    (past : ∀ j, j ≠ i → working s j = true → (s.lane j).state = .red ∨ (s.lane j).state = .ready)
    (entered : Metering p f (enterMetering f)) : faultJudged i (recombineFault f) = enterMetering f := by
  have fmode := h.mode.trans mode
  have ends : advanceSequence f = enterMetering f := by
    refine advanceSequence_cleared fmode (h.phase.1.trans phase) ⟨j, (h.working j).mpr ⟨other, on⟩⟩ (fun n works => ?_) entered
    obtain ⟨ne, works⟩ := (h.working n).mp works
    rw [h.lane n ne]
    exact past n ne works
  rw [faulted_recombined h (by rw [mode]; decide) (by rw [mode]; decide), faultJudged_left (faulted_left h other on), ends,
    judgeWish_met (.inl ⟨.inl entered.mode, by rw [metering_wanted entered, h.wanted]; exact wish⟩)]

/-- An interrupted startup goes on while another lane is lit. -/
theorem faulted_stopping {j n : Fin 3} (mode : s.mode = .startup) (phase : s.meter.phase = .stopping) (other : j ≠ i)
    (on : working s j = true) (ne : n ≠ i) (lit : ¬ ((s.lane n).state = .off ∨ (s.lane n).state = .faulted)) :
    faultJudged i (recombineFault f) = f := by
  have fmode := h.mode.trans mode
  have fphase := h.phase.1.trans phase
  rw [faulted_recombined h (by rw [mode]; decide) (by rw [mode]; decide), faultJudged_left (faulted_left h other on),
    advanceSequence_stopping (i := n) fmode fphase (by rw [h.lane n ne]; exact not_or.mp lit), judgeWish_stopping fmode fphase]

theorem faulted_out (out : ∀ j, j ≠ i → (s.lane j).state = .off ∨ (s.lane j).state = .faulted) (j : Fin 3) :
    (f.lane j).state = .off ∨ (f.lane j).state = .faulted := by
  by_cases same : j = i
  · rw [same]
    exact .inr h.state
  · rw [h.lane j same]
    exact out j same

include plan in
/-- An interrupted startup that the faulted lane alone kept lit ends in DARK. -/
theorem faulted_stopped {j : Fin 3} (mode : s.mode = .startup) (phase : s.meter.phase = .stopping) (other : j ≠ i)
    (on : working s j = true) (out : ∀ j, j ≠ i → (s.lane j).state = .off ∨ (s.lane j).state = .faulted) :
    faultJudged i (recombineFault f) = enterDarkJudged .stop f := by
  have dark := faulted_out h out
  obtain ⟨after, same⟩ := judgeWish_darkJudged (cause := .stop) (p := p) (by rw [h.plans, plan]) dark
  rw [faulted_recombined h (by rw [mode]; decide) (by rw [mode]; decide), faultJudged_left (faulted_left h other on),
    advanceSequence_stopped (h.mode.trans mode) (h.phase.1.trans phase) dark after, same]

theorem faulted_leads : Leads (s.post .laneFault (i.val + 1) detail) f := ⟨by rw [h.meter]; rfl, h.events, h.site, h.links⟩

include plan in
/-- A shutdown with the lanes left, whose rest time may begin. -/
theorem faulted_shutdown {j : Fin 3} (mode : s.mode = .shutdown) (wish : wanted s ≠ .start) (other : j ≠ i) (on : working s j = true) :
    faultJudged i (recombineFault f) =
      if s.meter.phase = .finishing ∧ ∀ j, j ≠ i → working s j = true → (s.lane j).state = .restGreen then
        f.putPhase .resting (planShutdownGreen p * 100)
      else f := by
  have fmode := h.mode.trans mode
  have fwish : wanted f ≠ .start := by rw [h.wanted]; exact wish
  have all : (f.meter.phase = .finishing ∧ ∀ j, working f j = true → (f.lane j).state = .restGreen) ↔
      s.meter.phase = .finishing ∧ ∀ j, j ≠ i → working s j = true → (s.lane j).state = .restGreen := by
    rw [h.phase.1]
    refine and_congr_right fun _ => ⟨fun rest n ne works => ?_, fun rest n works => ?_⟩
    · rw [← h.lane n ne]
      exact rest n ((h.working n).mpr ⟨ne, works⟩)
    · obtain ⟨ne, works⟩ := (h.working n).mp works
      rw [h.lane n ne]
      exact rest n ne works
  rw [faulted_recombined h (by rw [mode]; decide) (by rw [mode]; decide), faultJudged_left (faulted_left h other on),
    advanceSequence_shutdown fmode]
  split
  · next rests =>
    obtain ⟨finishing, every⟩ := all.mpr rests
    have met : WishMet (f.putPhase .resting (planShutdownGreen p * 100)) := .inr ⟨fmode, fwish⟩
    rw [checkResting_rests (by rw [h.plans, plan]) fmode finishing every, judgeWish_met met]
  · next waits => rw [checkResting_waits (mt all.mp waits), judgeWish_met (.inr ⟨fmode, fwish⟩)]

end Sequence

/-- Settles O60: the consequence of each mismatch, and a lane fault in each mode. -/
theorem latchedMismatchesTakeTheirConsequence : Obligations.LatchedMismatchesTakeTheirConsequence := by
  unfold Obligations.LatchedMismatchesTakeTheirConsequence
  refine ⟨fun k w e m s suspect => ⟨fun due beacon => ?_, fun i due here out mode => ?_, fun i cause due mode kind => ?_,
    fun i c due mode live here kind => ?_, fun i due mode here lit => ?_, (exec_deglitch suspect).2⟩,
    fun k i c w e m p s here kind suspect due mode plan live wish => ?_, fun k i c w e m s here kind suspect due => ?_⟩
  · rw [(exec_deglitch suspect).1 due, beacon]
    rfl
  · have chosen : consequence k w (latched k w s) = (latched k w s).post .lampWarn (i.val + 1) (2 * 256 + 1) := by
      rw [here, out]
      exact consequence_amberWarn mode
    rw [(exec_deglitch suspect).1 due, chosen]
    rfl
  · obtain ⟨here, lit, one⟩ | ⟨here, out, scope, two⟩ := kind
    · have chosen : consequence k w (latched k w s) = meterFault i .conflict (latched k w s) := by
        rw [here, lit]
        exact consequence_conflict i _
      rw [one]
      exact exec_meterFault rfl suspect due mode chosen
    · have chosen : consequence k w (latched k w s) = meterFault i .redOut (latched k w s) := by
        rw [here, out]
        exact consequence_redOut scope
      rw [two]
      exact exec_meterFault rfl suspect due mode chosen
  · obtain ⟨f, faulted, run⟩ := exec_laneFault here kind suspect due live
    rw [faulted_rests faulted (.inr (.inl mode)) (fun dark => by rw [mode] at dark; cases dark)] at run
    obtain ⟨state, lane, dark, -, -, site, links⟩ := faulted_faults faulted (fun _ => rfl) rfl rfl (KeepsSite.refl f) rfl
    exact ⟨_, run, faulted.mode.trans mode, state, faulted.aspectHere, lane, dark, faulted.events, faulted.rate, site, links⟩
  · have chosen : consequence k w (latched k w s) = meterFault i .conflict (latched k w s) := by
      rw [here, lit]
      exact consequence_conflict i _
    rw [(exec_deglitch suspect).1 due, chosen, meterFault_still (s := latched k w s) .conflict mode]
    rfl
  · rintro ⟨j, other, on⟩
    obtain ⟨f, faulted, run⟩ := exec_laneFault here kind suspect due live
    rw [faulted_engaged faulted mode other on wish] at run
    have grants := mayGrant_recombine f
    have fmode := faulted.mode
    have plan' : f.plans.plan = some p := by rw [faulted.plans, plan]
    have rate := recombine_rate (by rw [fmode]; exact mode) plan'
    obtain ⟨kept, drives⟩ := grants.unready (j := i) (by rw [faulted.state]; decide)
    obtain ⟨perm, ring⟩ := grants.ring
    have tmode := (recombine_mode f).trans fmode
    have meter : (recombine f).meter = f.meter := by simp
    have events : (recombine f).events = f.events := by simp
    have site : KeepsSite f (recombine f) := by simp [KeepsSite]
    have links : (recombine f).links = f.links := by simp
    have lane := grants.lane
    generalize recombine f = t at *
    refine ⟨_, run, tmode, ?_, fun n ne => ?_, ?_, fun hold => ?_, fun c' => ?_, ?_, events.trans faulted.events, ?_, ?_,
      KeepsSite.trans faulted.site site, keepsLinks_judgeLines (links.trans faulted.links)⟩
    · rw [lane_judgeLines, kept, faulted.state]
    · rw [lane_judgeLines, ← faulted.lane n ne, ← fmode]
      exact lane n
    · rw [← faulted.ring]
      exact perm
    · rw [← faulted.ring]
      exact ring (fmode.trans hold)
    · rw [drive_judgeLines, drives, faulted.dark]
    · show t.rate.inForce = _
      rw [rate, faulted.rate, faulted.limits, faulted.workingLanes]
      rfl
    · show t.meter.hold = _
      rw [meter, faulted.meter]
    · show t.meter.beacon = _
      rw [meter, faulted.beacon]
  · dsimp only
    refine ⟨exec_laneFault_again here kind suspect due, fun live rest => ?_, fun live mode alone => ?_, fun p live plan left => ?_⟩
    · obtain ⟨f, faulted, run⟩ := exec_laneFault here kind suspect due live
      rw [faulted_rests faulted (rest.imp And.left fun m => .inr m)
        (fun dark => rest.elim And.right fun m => by rw [m] at dark; cases dark)] at run
      exact ⟨_, run, faulted_faults faulted (fun _ => rfl) rfl rfl (KeepsSite.refl f) rfl, faulted.mode, faulted.rate, faulted.events⟩
    · obtain ⟨f, faulted, run⟩ := exec_laneFault here kind suspect due live
      have fmode := faulted.mode
      have empty : (workingLanes f).isEmpty = true := by
        rw [faulted.workingLanes, List.isEmpty_iff, List.eq_nil_iff_forall_not_mem]
        intro j mem
        obtain ⟨other, on⟩ := (workingLanes_nodup s).mem_erase_iff.mp mem
        rw [mem_workingLanes, alone j other] at on
        cases on
      have enters : faultJudged i f = enterFaultDark (f.post .meterFault (i.val + 1) (3 * 256)) := by
        rw [faultJudged, if_pos (by rw [inService_of_mode (by rw [fmode]; exact mode), empty]; rfl),
          meterFault_enters .noLane (by rw [fmode]; obtain m | m | m | m := mode <;> rw [m] <;> decide)]
        rfl
      rw [faulted_recombined_empty faulted alone, enters] at run
      have posted : Posted [(.laneFault, i.val + 1, c.code * 256 + watchCode w), (.meterFault, i.val + 1, 3 * 256)] s
          (f.post .meterFault (i.val + 1) (3 * 256)) := by
        have first : Posted [(.laneFault, i.val + 1, c.code * 256 + watchCode w)] s f := ⟨faulted.events, faulted.site.2.2.1⟩
        exact first.trans (posted_post f .meterFault (i.val + 1) (3 * 256))
      obtain ⟨tmode, phase, hold, -, drive, lane, rate, ring, -, events, site, links⟩ :=
        faultDark_facts (faultDark_entered (f.post .meterFault (i.val + 1) (3 * 256))) posted faulted.site faulted.links
      have here' : (f.post .meterFault (i.val + 1) (3 * 256)).lane i = f.lane i := rfl
      have lane := lane i
      rw [here', (cutLane_cases _).2 faulted.state] at lane
      generalize (enterFaultDark (f.post .meterFault (i.val + 1) (3 * 256))).judgeLines = t at *
      exact ⟨t, run, tmode, phase, hold, by rw [lane, faulted.state], drive, by rw [rate], ring, events, site, links⟩
    · obtain ⟨j, other, on⟩ := left
      obtain ⟨f, faulted, run⟩ := exec_laneFault here kind suspect due live
      have quiet := faulted_faults faulted (fun _ => rfl) rfl rfl (KeepsSite.refl f) rfl
      refine ⟨fun mode phase wish waits => ?_, fun mode phase wish past => ?_, fun mode phase lit => ?_, fun mode phase starts out => ?_,
        fun mode phase stays out => ?_, fun mode wish => ?_⟩
      · rw [faulted_startup faulted mode phase wish other on waits] at run
        exact ⟨_, run, quiet, faulted.mode.trans mode, faulted.phase.1, faulted.phase.2, faulted.rate, faulted.events⟩
      · intro early
        have rate : startRate p f = startRate p s := by rw [startRate, faulted.rate, startRate]
        have entered := metering_entered (s := f) (p := p) (by rw [faulted.plans, plan])
          (by rw [rate, faulted.limits, faulted.workingLanes]; exact early)
        rw [faulted_cleared faulted mode phase wish other on past entered] at run
        have faults := faulted_faults faulted entered.lane entered.drives (by rw [entered.meter]) entered.site entered.links
        have events : (enterMetering f).events = _ := ((faulted_leads faulted).posted entered.posted).1
        have tmode := entered.mode
        obtain ⟨meter, -, -, ring, elapsed, -, headway, trate, -, -, -⟩ := entered
        rw [rate, faulted.limits, faulted.workingLanes] at headway trate
        rw [faulted.workingLanes] at ring
        generalize enterMetering f = t at *
        exact ⟨_, run, faults, tmode, congrArg ModeController.phase meter, ring, elapsed, headway, trate, events⟩
      · obtain ⟨n, ne, lit⟩ := lit
        rw [faulted_stopping faulted mode phase other on ne lit] at run
        exact ⟨_, run, quiet, faulted.mode.trans mode, faulted.phase.1.trans phase, faulted.rate, faulted.events⟩
      · rw [faulted_stopped faulted plan mode phase other on out] at run
        obtain ⟨started, others, -, site, links, events⟩ :=
          exec_restarts (faulted_leads faulted) (faulted_out faulted out) .stop (p := p) plan starts
        exact ⟨_, run, started, others, events, site, links⟩
      · rw [faulted_stopped faulted plan mode phase other on out] at run
        obtain ⟨tmode, tphase, lane, beacon, -, -, -, site, links, events⟩ :=
          exec_stays (faulted_leads faulted) (faulted_out faulted out) .stop stays
        exact ⟨_, run, tmode, tphase, beacon, lane, events, site, links⟩
      · rw [faulted_shutdown faulted plan mode wish other on] at run
        by_cases rests : s.meter.phase = .finishing ∧ ∀ j, j ≠ i → working s j = true → (s.lane j).state = .restGreen
        · rw [if_pos rests] at run
          refine ⟨_, run, faulted_faults faulted (t := f.putPhase .resting (planShutdownGreen p * 100)) (fun _ => rfl) rfl rfl
            (KeepsSite.refl f) rfl, faulted.mode.trans mode, faulted.rate, faulted.events, ?_⟩
          rw [if_pos rests]
          exact ⟨rfl, rfl⟩
        · rw [if_neg rests] at run
          refine ⟨_, run, quiet, faulted.mode.trans mode, faulted.rate, faulted.events, ?_⟩
          rw [if_neg rests]
          exact faulted.phase

end Sys2Proof.Consequences
end

section
/-! CLEAR FAULT (lane): the watches judged afresh, the lane restored and the rate recombined (O41). -/

namespace Sys2Proof.Restore
open Sys2Proof.Machine Sys2Proof.Steps Sys2Proof.Steady Sys2Proof.Holders Sys2Proof.LaneLaws Sys2Proof.Transitions
open Sys2Proof.ModeSteps Sys2Proof.PlanChanges Sys2Proof.Lamps Sys2Proof.HandWork Sys2Proof.Activations Sys2Proof.Requests
open Sys2Proof.Manual Sys2Proof.Releases Sys2Proof.Faults

/-! ### The watches judged afresh -/

/-- A drive that was commanded off, with its watches judged afresh under a command (R119). -/
def afresh (lim : SiteLimits) (on : Bool) (d : Drive) : Drive :=
  if on then
    ⟨true, d.sensed, startBlank lim.lampBlank, if lim.lampBlank = 0 ∧ d.sensed = false then .suspect 0 lim.lampDeglitch else .clear, .clear⟩
  else ⟨false, d.sensed, d.blank, .clear, if d.blank = none ∧ d.sensed = true then .suspect 0 lim.lampDeglitch else .clear⟩

theorem command_clearWatches {d : Drive} (lim : SiteLimits) (off : d.commanded = false) (on : Bool) :
    (d.clearWatches lim).command lim on = afresh lim on d := by
  cases on
  · rw [Drive.command, if_pos ((Drive.clearWatches_commanded lim d).trans off)]
    cases blank : d.blank <;> cases sensed : d.sensed <;>
      simp [Drive.clearWatches, Drive.judge, WatchState.judge, afresh, off, blank, sensed]
  · rw [command_of_ne (by rw [Drive.clearWatches_commanded, off]; decide)]
    by_cases none : lim.lampBlank = 0 <;> cases blank : d.blank <;> cases sensed : d.sensed <;>
      simp [commanded, Drive.clearWatches, Drive.judge, WatchState.judge, afresh, startBlank, off, none, blank, sensed]

theorem drive_clearLaneWatches (i : Fin 3) (c : Colour) (s : State) :
    (clearLaneWatches i s).drive (driveOf i c) = (s.drive (driveOf i c)).clearWatches s.limits := by
  cases c <;> simp [clearLaneWatches]

/-! ### The lane restored -/

/-- A state with a lane's watches cleared and the end of its fault posted. -/
def cleared (i : Fin 3) (s : State) : State := (clearLaneWatches i s).post .faultCleared (i.val + 1) 1

/-- A lane restored to a state, before the recombination. -/
structure Restored (i : Fin 3) (x : Lane) (ring : List (Fin 3)) (s t : State) : Prop where
  here : t.lane i = x
  lane : ∀ j, j ≠ i → t.lane j = s.lane j
  drive : s.mode ≠ .faultDark → ∀ c, (t.drive (driveOf i c)).commanded = commands x.state c ∧
    ((s.drive (driveOf i c)).commanded = false → t.drive (driveOf i c) = afresh s.limits (commands x.state c) (s.drive (driveOf i c)))
  ring : t.sched.ring = ring
  meter : t.meter = s.meter
  rate : t.rate = s.rate
  events : t.events = (s.post .faultCleared (i.val + 1) 1).events
  site : KeepsSite s t
  links : t.links = s.links

theorem restored_enter (i : Fin 3) (x : Lane) (s : State) : Restored i x s.sched.ring s (enterLane i x (cleared i s)) := by
  have clean : ∀ c, (cleared i s).drive (driveOf i c) = (s.drive (driveOf i c)).clearWatches s.limits := fun c =>
    drive_clearLaneWatches i c s
  have limits : (cleared i s).limits = s.limits := by simp [cleared]
  have mode : (cleared i s).mode = s.mode := by simp [cleared, State.mode]
  have alone := LaneAlone.enter i x (cleared i s)
  refine ⟨by simp, fun j other => (alone.lane j other).trans rfl, fun lit c => ⟨enterLane_commanded (by rw [mode]; exact lit) i x c, fun off => ?_⟩,
    alone.releases.1.trans rfl, by simp [cleared], by simp [cleared], ?_, by simp [cleared, KeepsSite], by simp [cleared]⟩
  · rw [enterLane_drive (by rw [mode]; exact lit), clean, limits, command_clearWatches _ off]
  · rw [alone.events]
    rfl

theorem restored_join {i : Fin 3} {x : Lane} {ring : List (Fin 3)} {s t : State} (h : Restored i x ring s t) :
    Restored i x (ring ++ [i]) s (Agreement.joinRing i t) :=
  ⟨h.here, h.lane, h.drive, (Agreement.joinRing_ring i t).trans (by rw [h.ring]), h.meter, h.rate, h.events, h.site, h.links⟩

theorem restoreLane_manual {i : Fin 3} {s : State} (mode : s.mode = .manual) :
    restoreLane i s = enterLane i ((s.lane i).toRed (s.limits.redMin * 10)) s := by
  rw [restoreLane, if_pos mode, show redTime s = s.limits.redMin * 10 from if_pos mode]

theorem restoreLane_plan {i : Fin 3} {s : State} {p : List Byte} (mode : s.mode ≠ .manual) (plan : s.plans.plan = some p) :
    restoreLane i s = if planEnables p i then Agreement.joinRing i (enterLane i ((s.lane i).toRed (planRedMin p * 10)) s)
      else enterLane i (s.lane i).toOFF s := by
  have on : enabled s i = planEnables p i := by simp [enabled, plan]
  rw [restoreLane, if_neg mode, on, redTime_plan mode, planTime_of_plan plan]
  rfl

theorem restored_plan {i : Fin 3} {s : State} {p : List Byte} (mode : s.mode ≠ .manual) (plan : s.plans.plan = some p) :
    Restored i (if planEnables p i then (s.lane i).toRed (planRedMin p * 10) else (s.lane i).toOFF)
      (if planEnables p i then s.sched.ring ++ [i] else s.sched.ring) s (restoreLane i (cleared i s)) := by
  have lane : (cleared i s).lane i = s.lane i := rfl
  rw [restoreLane_plan (s := cleared i s) mode plan, lane]
  cases planEnables p i
  · exact restored_enter i _ s
  · exact restored_join (restored_enter i _ s)

/-! ### The request -/

theorem clearLaneChecked_cases {i : Fin 3} {s : State} :
    ((s.mode = .metering ∨ s.mode = .hold ∨ s.mode = .manual) → (s.lane i).state = .faulted →
        clearLaneChecked i s = accept (clearLaneFault i s) []) ∧
      ((s.mode = .metering ∨ s.mode = .hold ∨ s.mode = .manual) → (s.lane i).state ≠ .faulted →
        clearLaneChecked i s = refuse s .wrongState) ∧
      (s.mode ≠ .metering → s.mode ≠ .hold → s.mode ≠ .manual → clearLaneChecked i s = refuse s .wrongMode) := by
  refine ⟨fun mode faulted => ?_, fun mode live => ?_, fun metering hold manual => ?_⟩
  · rw [clearLaneChecked, if_neg (not_not_intro mode), if_pos (by simp [isFaulted, faulted])]
  · rw [clearLaneChecked, if_neg (not_not_intro mode), if_neg (by simp [isFaulted, live])]
  · exact if_pos (by simp [metering, hold, manual])

/-- CLEAR FAULT (lane) from a PRESENT link is answered with what its checks make of the received state. -/
theorem exec_clearLane {l : LinkId} {i : Fin 3} {s : State} {a : Answer} (tag : Byte) (steady : SteadyFrame l false s)
    (on : (s.link l).state = .present) (answer : clearLaneChecked i (received l false s) = a) :
    exec (.clearFaultLane l tag [byte (i.val + 1)]) s = .next (answered l 0x25 tag a.status a.payload a.state) :=
  exec_steady (c := .clearFaultLane l tag [byte (i.val + 1)]) rfl (by simp) steady (by
    simp only [requestAnswer, Permitted.allows, if_true]
    rw [withLength_of_eq (show [byte (i.val + 1)].length = 1 from rfl), withLane_of_some (laneOf_byte i []),
      whenPresent_of_present _ (by simp [on])]
    exact answer)

theorem exec_clearsLane {l : LinkId} {i : Fin 3} {s t : State} {q : List Byte} (tag : Byte) (steady : SteadyFrame l false s)
    (on : (s.link l).state = .present) (answer : clearLaneChecked i (received l false s) = accept t q) :
    exec (.clearFaultLane l tag [byte (i.val + 1)]) s = .next (answered l 0x25 tag .accepted q t) := exec_clearLane tag steady on answer

/-- What a request leaves of the site and of the other link. -/
theorem keeps_answered_other {l : LinkId} {s t : State} {kind tag : Byte} {p : List Byte} (site : KeepsSite (received l false s) t)
    (links : t.links = (received l false s).links) : KeepsSite s (answered l kind tag .accepted p t) ∧
      ∀ m, m ≠ l → KeepsLink m s (answered l kind tag .accepted p t) := by
  refine ⟨KeepsSite.trans (KeepsSite.trans (keepsSite_received l false s) site) (by simp [KeepsSite]), fun m other =>
    answered_keepsLink other ?_⟩
  rw [State.link, links, ← State.link]
  exact received_other other false s

/-- Settles O41: the restore of a lane in METERING, HOLD and MANUAL, and the refusals. -/
theorem clearLaneFaultRestoresTheLane : Obligations.ClearLaneFaultRestoresTheLane := by
  unfold Obligations.ClearLaneFaultRestoresTheLane
  refine ⟨fun l tag i s steady on => ?_, fun l tag s steady => ⟨fun n out => ?_, fun off i => ?_⟩⟩
  · have rmode : (received l false s).mode = s.mode := received_mode l false s
    have rlane := received_lane l false s
    have rdrive := received_drive l false s
    have cases_ := clearLaneChecked_cases (i := i) (s := received l false s)
    rw [rmode, rlane] at cases_
    obtain ⟨accepts, wrongState, wrongMode⟩ := cases_
    refine ⟨fun faulted => ⟨fun mode => ?_, fun p mode plan => ?_⟩, fun mode live => ?_, fun metering hold manual => ?_⟩
    · have run := exec_clearsLane tag steady on (accepts (.inr (.inr mode)) faulted)
      have restored := restored_enter i ((s.lane i).toRed (s.limits.redMin * 10)) (received l false s)
      have becomes : clearLaneFault i (received l false s) =
          enterLane i ((s.lane i).toRed (s.limits.redMin * 10)) (cleared i (received l false s)) := by
        have lane : (cleared i (received l false s)).lane i = s.lane i := rlane i
        have limits : (cleared i (received l false s)).limits = s.limits := by simp [cleared]
        have manual : (cleared i (received l false s)).mode = .manual := rmode.trans mode
        have entered := (enterLane_mode (cleared i (received l false s)) i ((s.lane i).toRed (s.limits.redMin * 10))).trans manual
        rw [clearLaneFault_eq]
        change recombine (restoreLane i (cleared i (received l false s))) = _
        rw [restoreLane_manual manual, lane, limits, recombine_of_not_engaged (by rw [entered]; decide) (by rw [entered]; decide)]
      rw [becomes] at run
      have tmode : (enterLane i ((s.lane i).toRed (s.limits.redMin * 10)) (cleared i (received l false s))).mode = .manual :=
        (enterLane_mode _ i _).trans (rmode.trans mode)
      generalize enterLane i ((s.lane i).toRed (s.limits.redMin * 10)) (cleared i (received l false s)) = t at *
      obtain ⟨here, lane, drive, ring, -, rate, events, site, links⟩ := restored
      obtain ⟨site, other⟩ := keeps_answered_other (kind := 0x25) (tag := tag) (p := []) site links
      simp only [rmode, rlane, rdrive, received_frame] at lane drive ring rate
      have drive := drive (by rw [mode]; decide)
      refine ⟨_, run, ?_⟩
      simp only [answered_mode, answered_lane, answered_drive, answered_frame, Capabilities.answered_lastReply]
      exact ⟨here, lane, (drive .red).1, tmode, fun off c => by rw [(drive c).2 (off c)]; cases c <;> rfl, ring, rate, site, other,
        events.trans rfl, trivial⟩
    · have run := exec_clearsLane tag steady on (accepts (by tauto) faulted)
      have manual : s.mode ≠ .manual := by obtain m | m := mode <;> rw [m] <;> decide
      have rplan : (received l false s).plans.plan = some p := by rw [(received_frame l false s).2.2.2.2.2.2.2.2.1]; exact plan
      have restored := restored_plan (i := i) (s := received l false s) (by rw [rmode]; exact manual) rplan
      have becomes : clearLaneFault i (received l false s) = recombine (restoreLane i (cleared i (received l false s))) := by
        rw [clearLaneFault_eq]
        rfl
      rw [becomes] at run
      generalize restoreLane i (cleared i (received l false s)) = u at *
      obtain ⟨here, lane, drive, ring, meter, rate, events, site, links⟩ := restored
      have umode : u.mode = s.mode := by rw [State.mode, meter]; exact rmode
      obtain ⟨-, -, -, -, uplans, ulimits, -⟩ := KeepsSite.trans (keepsSite_received l false s) site
      have unready : (u.lane i).state ≠ .ready := by rw [here]; cases planEnables p i <;> simp [Lane.toRed, Lane.toOFF]
      have grants := mayGrant_recombine u
      obtain ⟨kept, drives⟩ := grants.unready unready
      obtain ⟨perm, sameRing⟩ := grants.ring
      have lanes := grants.lane
      have left := grants.workingLanes (by simp)
      have out := recombine_rate (by rw [umode]; exact mode) (by rw [uplans]; exact plan)
      have tmeter : (recombine u).meter = u.meter := by simp
      have tevents : (recombine u).events = u.events := by simp
      have tsite : KeepsSite u (recombine u) := by simp [KeepsSite]
      have tlinks : (recombine u).links = u.links := by simp
      generalize recombine u = t at *
      obtain ⟨site, other⟩ := keeps_answered_other (kind := 0x25) (tag := tag) (p := []) (KeepsSite.trans site tsite) (tlinks.trans links)
      simp only [rmode, rlane, rdrive, received_frame] at here lane drive ring rate
      have drive := drive (by obtain m | m := mode <;> rw [m] <;> decide)
      have colour : ∀ c, commands (u.lane i).state c = (c == .red && planEnables p i) := by
        intro c
        rw [here]
        cases planEnables p i <;> cases c <;> rfl
      rw [here] at colour
      have tm : t.meter = s.meter := tmeter.trans (meter.trans (by simp))
      refine ⟨_, run, ?_⟩
      simp only [answered_mode, answered_lane, answered_drive, answered_frame, Capabilities.answered_lastReply]
      refine ⟨by rw [State.mode, tm]; rfl, kept.trans here, by rw [← ring]; exact perm, fun hold => by rw [← ring]; exact sameRing (umode.trans hold),
        fun j ne => ?_, ?_, fun off c => ?_, ?_, site, other, tm, tevents.trans (events.trans rfl), trivial⟩
      · rw [← lane j ne, ← umode]
        exact lanes j
      · rw [drives, (drive .red).1, colour]
        rfl
      · rw [drives, (drive c).2 (off c), colour]
        rfl
      · have lanes' : workingLanes (answered l 0x25 tag .accepted [] t) = workingLanes u := left
        rw [out, lanes', ulimits, rate]
        rfl
    · exact exec_clearLane (a := refuse (received l false s) _) tag steady on (wrongState mode live)
    · exact exec_clearLane (a := refuse (received l false s) _) tag steady on (wrongMode metering hold manual)
  · refine exec_refusesRange (c := .clearFaultLane l tag [n]) rfl (by simp) steady ?_
    simp only [requestAnswer, Permitted.allows, if_true]
    rw [withLength_of_eq (show [n].length = 1 from rfl), withLane_of_none (laneOf_none (out.imp (fun zero => by rw [zero]; exact Nat.zero_lt_one) id))]
    rfl
  · refine exec_refuses (c := .clearFaultLane l tag [byte (i.val + 1)]) rfl (by simp) steady ?_
    simp only [requestAnswer, Permitted.allows, if_true]
    rw [withLength_of_eq (show [byte (i.val + 1)].length = 1 from rfl), withLane_of_some (laneOf_byte i []), whenPresent_of_not _ (by simp [off])]
    rfl

end Sys2Proof.Restore
end

section
/-! Supervision violations, and the end of a link's standing state as it becomes ABSENT (O20). -/

namespace Sys2Proof.Violations
open Sys2Proof.Machine Sys2Proof.Steps Sys2Proof.Steady Sys2Proof.Holders Sys2Proof.AbsentLinks Sys2Proof.Transitions
open Sys2Proof.Links Sys2Proof.Requests Sys2Proof.Postings Sys2Proof.Activations Sys2Proof.Releases Sys2Proof.PlanChanges

/-! ### The events of R150, in order -/

/-- The event of a rate order that its link loses. -/
def orderEvents (l : LinkId) (s : State) : List (EventKind × Nat × Nat) :=
  if s.rate.orders.get l = none then [] else [(.orderWithdrawn, linkNumber l, 0)]

/-- The events of a hold that its link loses. -/
def holdEvents (l : LinkId) (s : State) : List (EventKind × Nat × Nat) :=
  if s.meter.hold.map HoldRecord.owner = some l then [(.holdWithdrawn, linkNumber l, 0), (.modeChange, 0, 2 * 256 + 8)] else []

/-- The event of a MANUAL that ends with Link L. -/
def manualEvents (l : LinkId) (s : State) : List (EventKind × Nat × Nat) :=
  if l = .L ∧ s.mode = .manual then [(.modeChange, 0, 0 * 256 + 11)] else []

theorem orderEvents_congr {s t : State} (l : LinkId) (rate : t.rate = s.rate) : orderEvents l t = orderEvents l s := by
  rw [orderEvents, orderEvents, rate]

theorem holdEvents_congr {s t : State} (l : LinkId) (meter : t.meter = s.meter) : holdEvents l t = holdEvents l s := by
  rw [holdEvents, holdEvents, meter]

theorem manualEvents_congr {s t : State} (l : LinkId) (mode : t.mode = .manual ↔ s.mode = .manual) :
    manualEvents l t = manualEvents l s := by simp only [manualEvents, mode]

theorem posted_removeOrder (l : LinkId) (s : State) : Posted (orderEvents l s) s (removeOrder l .orderWithdrawn s) := by
  unfold removeOrder orderEvents
  cases held : s.rate.orders.get l
  · exact .quiet rfl rfl
  · exact ((posted_post (putOrder l none s) .orderWithdrawn (linkNumber l) 0).before rfl rfl).after (by simp) (by simp)

theorem withdrawHold_held {l : LinkId} {s : State} (hh : HoldsInHold s) (owned : s.meter.hold.map HoldRecord.owner = some l) :
    withdrawHold l s = leaveHold .holdEnded (s.post .holdWithdrawn (linkNumber l) 0) ∧ s.mode = .hold := by
  cases held : s.meter.hold with
  | none => simp [held] at owned
  | some h =>
    have mode : s.mode = .hold := hh.mp (by simp [held])
    have owner : h.owner = l := by simpa [held] using owned
    exact ⟨by simp [withdrawHold, endHold, held, owner, mode], mode⟩

theorem withdrawHold_free {l : LinkId} {s : State} (free : s.meter.hold.map HoldRecord.owner ≠ some l) : withdrawHold l s = s := by
  unfold withdrawHold
  cases held : s.meter.hold with
  | none => rfl
  | some h => exact if_neg fun owner => free (by simp [held, owner])

theorem posted_withdrawHold {l : LinkId} {s : State} (hh : HoldsInHold s) : Posted (holdEvents l s) s (withdrawHold l s) := by
  unfold holdEvents
  split
  · next owned =>
    rw [(withdrawHold_held hh owned).1]
    exact (posted_post s .holdWithdrawn (linkNumber l) 0).trans (posted_leaveHold .holdEnded _)
  · next free =>
    rw [withdrawHold_free free]
    exact .quiet rfl rfl

theorem withdrawHold_mode {l : LinkId} {s : State} (hh : HoldsInHold s) :
    (withdrawHold l s).mode = s.mode ∨ s.mode = .hold ∧ (withdrawHold l s).mode = .metering := by
  by_cases owned : s.meter.hold.map HoldRecord.owner = some l
  · obtain ⟨leaves, mode⟩ := withdrawHold_held hh owned
    exact .inr ⟨mode, by rw [leaves, State.mode, leaveHold_meter]⟩
  · exact .inl (by rw [withdrawHold_free owned])

theorem withdrawManual_posts (l : LinkId) (s : State) :
    ∃ u, Posted (manualEvents l s) s u ∧ Posts u (withdrawManual l s) ∧ (manualEvents l s = [] → withdrawManual l s = s) := by
  unfold manualEvents withdrawManual
  split
  · have dark := posted_enterDark .manualWithdrawn (commandBeacon false (orderEach orderCut allLanes (clearAspects s)))
    exact ⟨_, dark.before (by simp) (by simp), posts_judgeStart _, fun h => by cases h⟩
  · exact ⟨s, .quiet rfl rfl, .refl s, fun _ => rfl⟩

/-- The withdrawal of a link's standing state posts its events; a start that DARK brings about may follow. -/
theorem standingWithdrawn_posts {l : LinkId} {s : State} (hh : HoldsInHold s) :
    ∃ u, Posted (orderEvents l s ++ holdEvents l s ++ manualEvents l s) s u ∧ Posts u (standingWithdrawn l s) ∧
      (s.mode ≠ .manual → u.events = (standingWithdrawn l s).events) := by
  have meter : (removeOrder l .orderWithdrawn s).meter = s.meter := by simp
  have holds := (removeOrder_gives l .orderWithdrawn s).hold hh
  have order := posted_removeOrder l s
  have hold := posted_withdrawHold (l := l) holds
  have mode := withdrawHold_mode (l := l) holds
  have events : (standingWithdrawn l s).events =
      (withdrawManual l (withdrawHold l (removeOrder l .orderWithdrawn s))).events := by simp [standingWithdrawn]
  have was : (removeOrder l .orderWithdrawn s).mode = s.mode := by rw [State.mode, meter]; rfl
  rw [holdEvents_congr l meter] at hold
  rw [was] at mode
  obtain ⟨u, manual, posts, still⟩ := withdrawManual_posts l (withdrawHold l (removeOrder l .orderWithdrawn s))
  have same : manualEvents l (withdrawHold l (removeOrder l .orderWithdrawn s)) = manualEvents l s := by
    refine manualEvents_congr l ?_
    obtain mode | ⟨held, returned⟩ := mode
    · rw [mode]
    · rw [held, returned]
      decide
  rw [same] at manual still
  refine ⟨u, (order.trans hold).trans manual, posts.trans (.of_events events), fun live => ?_⟩
  have nothing : manualEvents l s = [] := if_neg fun h => live h.2
  rw [events, still nothing]
  rw [nothing] at manual
  exact manual.1

/-! ### A link that a violation makes ABSENT -/

/-- The events of a violation that makes its link ABSENT. -/
def absentEvents (l : LinkId) (code : Nat) (s : State) : List (EventKind × Nat × Nat) :=
  [(.supervisionViolation, linkNumber l, code * 256 + ((s.link l).violations + 1)), (.linkAbsent, linkNumber l, 0)] ++
    orderEvents l s ++ holdEvents l s ++ manualEvents l s

/-- A link gone ABSENT with its standing state, the other link's kept. -/
structure GoneAbsent (l : LinkId) (code : Nat) (s t : State) : Prop where
  state : (t.link l).state = .absent
  violations : (t.link l).violations = (s.link l).violations + 1
  window : (t.link l).window = 0
  others : ∀ m, m ≠ l → (t.link m).state = (s.link m).state ∧ (t.link m).lastReply = (s.link m).lastReply
  empty : EmptyHanded l t
  order : ∀ m, m ≠ l → t.rate.orders.get m = s.rate.orders.get m
  request : ∀ m, m ≠ l → t.meter.requests.get m = s.meter.requests.get m
  claim : ∀ c, s.plans.claim = some c → c.holder ≠ l → t.plans.claim = some c
  events : EventsContinue (s.postEach (absentEvents l code s)) t
  alone : s.mode = .metering ∨ s.mode = .hold ∨ s.mode = .faultDark → t.events =
    (if t.mode = .shutdown then (s.postEach (absentEvents l code s)).post .modeChange 0 (4 * 256 + 3)
      else s.postEach (absentEvents l code s)).events
  slots : t.plans.slots = s.plans.slots
  plan : t.plans.plan = s.plans.plan
  limits : t.limits = s.limits
  locked : t.locked = s.locked
  inputs : t.inputs = s.inputs
  counter : t.counter = s.counter
  records : t.records = s.records

theorem becomeAbsent_order {l m : LinkId} (other : m ≠ l) (s : State) : (becomeAbsent l s).rate.orders.get m = s.rate.orders.get m := by
  rw [becomeAbsent_eq, (keeps_resolve _).orders]
  show (releaseClaim l _).rate.orders.get m = _
  rw [(releaseClaim_frame l _).2.2.2.2.1, (keeps_withdrawManual l _).orders, (keeps_withdrawHold l _).orders,
    removeOrder_orders, if_neg other]
  simp [markedAbsent]

theorem becomeAbsent_request {l m : LinkId} (other : m ≠ l) (s : State) :
    (becomeAbsent l s).meter.requests.get m = s.meter.requests.get m := by
  rw [becomeAbsent_eq, resolve_requests, standingWithdrawn, putRequest, PerLink.get_set, if_neg other,
    (keepsWish_released l _).requests]
  simp [markedAbsent]

theorem becomeAbsent_claim {l : LinkId} {s : State} (c : Claim) (held : s.plans.claim = some c) (other : c.holder ≠ l) :
    (becomeAbsent l s).plans.claim = some c := by
  have before : (withdrawManual l (withdrawHold l (removeOrder l .orderWithdrawn (markedAbsent l s)))).plans.claim = some c := by
    simpa [markedAbsent] using held
  have after : (becomeAbsent l s).plans =
      (releaseClaim l (withdrawManual l (withdrawHold l (removeOrder l .orderWithdrawn (markedAbsent l s))))).plans := by
    simp [becomeAbsent_eq, standingWithdrawn]
  obtain ⟨-, c', held', holder⟩ | ⟨same, -⟩ := releaseClaim_claim l
    (withdrawManual l (withdrawHold l (removeOrder l .orderWithdrawn (markedAbsent l s))))
  · rw [before, Option.some.injEq] at held'
    exact absurd (held' ▸ holder) other
  · rw [after, same, before]

theorem releaseClaim_slots (l : LinkId) (s : State) : (releaseClaim l s).plans.slots = s.plans.slots := by
  unfold releaseClaim
  cases s.plans.claim with
  | none => rfl
  | some c => dsimp only; split <;> rfl

theorem releaseClaim_plan (l : LinkId) (s : State) : (releaseClaim l s).plans.plan = s.plans.plan := by
  unfold releaseClaim
  cases s.plans.claim with
  | none => rfl
  | some c => dsimp only; split <;> rfl

/-- In METERING, HOLD and FAULT_DARK the wish stops the meter or changes nothing. -/
theorem resolve_events {s : State} (mode : s.mode = .metering ∨ s.mode = .hold ∨ s.mode = .faultDark) :
    (resolve s).events = (if (resolve s).mode = .shutdown then s.post .modeChange 0 (4 * 256 + 3) else s).events := by
  have fmode : (formResolved s).mode = s.mode := by unfold formResolved; split <;> rfl
  have fevents : (formResolved s).events = s.events := by simp
  have fcounter : (formResolved s).counter = s.counter := by simp
  have running : (resolve s).mode = s.mode ∧ resolve s = formResolved s ∨
      (resolve s).mode = .shutdown ∧ resolve s = shutdown .stop (formResolved s) := by
    unfold resolve judgeWish
    have shut := (ModeSteps.shutdown_meter .stop (formResolved s)).1
    cases wanted (formResolved s) <;> obtain m | m | m := mode <;>
      simp [actOnStart, actOnStop, fmode, m, shut]
  obtain ⟨same, is⟩ | ⟨shut, is⟩ := running
  · rw [same, if_neg (by obtain m | m | m := mode <;> rw [m] <;> decide), is, fevents]
  · rw [shut, if_pos rfl, is]
    exact ((posted_shutdown .stop (formResolved s)).before fevents fcounter).1

theorem standingWithdrawn_mode {l : LinkId} {s : State} (hh : HoldsInHold s)
    (mode : s.mode = .metering ∨ s.mode = .hold ∨ s.mode = .faultDark) :
    (standingWithdrawn l s).mode = .metering ∨ (standingWithdrawn l s).mode = .hold ∨ (standingWithdrawn l s).mode = .faultDark := by
  have meter : (removeOrder l .orderWithdrawn s).meter = s.meter := by simp
  have left := withdrawHold_mode (l := l) ((removeOrder_gives l .orderWithdrawn s).hold hh)
  have is : (standingWithdrawn l s).mode = (withdrawManual l (withdrawHold l (removeOrder l .orderWithdrawn s))).mode := by
    simp [standingWithdrawn, putRequest, State.mode]
  simp only [State.mode, meter] at left mode is ⊢
  have live : (withdrawHold l (removeOrder l .orderWithdrawn s)).mode ≠ .manual := fun manual => by
    rw [State.mode] at manual
    rw [manual] at left
    obtain e | ⟨-, e⟩ := left
    · rw [← e] at mode
      simp at mode
    · cases e
  rw [is, withdrawManual, if_neg fun h => live h.2]
  obtain e | ⟨-, e⟩ := left
  · rw [e]
    exact mode
  · exact .inl e

theorem goneAbsent_violate {l : LinkId} {s : State} (code : Nat) (last : (s.link l).count ≤ (s.link l).violations + 1)
    (hh : HoldsInHold s) : GoneAbsent l code s (violate l code s) := by
  rw [violate_absent last]
  have counted : Posted [(.supervisionViolation, linkNumber l, code * 256 + ((s.link l).violations + 1)), (.linkAbsent, linkNumber l, 0)] s
      (markedAbsent l ((s.setLink l { s.link l with violations := (s.link l).violations + 1, window := 0 }).post
        .supervisionViolation (linkNumber l) (twoBytes code ((s.link l).violations + 1)))) :=
    ((posted_post _ _ _ _).before (s := s) rfl rfl).trans ((posted_post _ .linkAbsent (linkNumber l) 0).before rfl rfl)
  have link : ∀ m, ((s.setLink l { s.link l with violations := (s.link l).violations + 1, window := 0 }).post
      .supervisionViolation (linkNumber l) (twoBytes code ((s.link l).violations + 1))).link m =
      if m = l then { s.link l with violations := (s.link l).violations + 1, window := 0 } else s.link m := fun m => link_setLink s l m _
  have blocks : ∀ {u : State}, u = ((s.setLink l { s.link l with violations := (s.link l).violations + 1, window := 0 }).post
      .supervisionViolation (linkNumber l) (twoBytes code ((s.link l).violations + 1))) → u.meter = s.meter ∧ u.rate = s.rate ∧
      u.plans = s.plans ∧ u.limits = s.limits ∧ u.locked = s.locked ∧ u.inputs = s.inputs ∧ u.counter = s.counter ∧
      u.records = s.records := by rintro u rfl; simp
  replace blocks := blocks rfl
  generalize (s.setLink l { s.link l with violations := (s.link l).violations + 1, window := 0 }).post
      .supervisionViolation (linkNumber l) (twoBytes code ((s.link l).violations + 1)) = u at *
  obtain ⟨meter, rate, plans, limits, locked, inputs, counter, records⟩ := blocks
  have uh : HoldsInHold u := by rwa [HoldsInHold, State.mode, meter]
  have marked : (markedAbsent l u).meter = s.meter := (show (markedAbsent l u).meter = u.meter by simp [markedAbsent]).trans meter
  have mrate : (markedAbsent l u).rate = s.rate := (show (markedAbsent l u).rate = u.rate by simp [markedAbsent]).trans rate
  have mh : HoldsInHold (markedAbsent l u) := by rwa [HoldsInHold, State.mode, marked]
  obtain ⟨v, posted, posts, alone⟩ := standingWithdrawn_posts (l := l) mh
  have umode : (markedAbsent l u).mode = s.mode := by rw [State.mode, marked]; rfl
  rw [orderEvents_congr l mrate, holdEvents_congr l marked, manualEvents_congr (s := s) l (by rw [umode])] at posted
  have all : Posted (absentEvents l code s) s v := by
    have := counted.trans posted
    simpa only [absentEvents, List.append_assoc] using this
  have gone : ∀ m, (becomeAbsent l u).link m =
      if m = l then { s.link l with state := .absent, violations := (s.link l).violations + 1, window := 0 } else s.link m := fun m => by
    rw [becomeAbsent_link, link, link, if_pos rfl]
    split <;> rfl
  have here := gone l
  rw [if_pos rfl] at here
  refine ⟨by rw [here], by rw [here], by rw [here], fun m other => by rw [gone, if_neg other]; exact ⟨rfl, rfl⟩, becomeAbsent_empty l uh, fun m other => by rw [becomeAbsent_order other, rate],
    fun m other => by rw [becomeAbsent_request other, meter], fun c held other => becomeAbsent_claim c (by rw [plans]; exact held) other,
    all.continue.trans (posts.trans (posts_resolve _)).continue, fun mode => ?_, ?_, ?_, ?_, ?_, ?_, ?_, ?_⟩
  · have stays := standingWithdrawn_mode (l := l) mh (by rwa [umode])
    have same := alone (by rw [umode]; obtain m | m | m := mode <;> rw [m] <;> decide)
    have scounter : (standingWithdrawn l (markedAbsent l u)).counter = s.counter := by simp [standingWithdrawn, markedAbsent, counter]
    have events := resolve_events stays
    rw [becomeAbsent_eq, events]
    have here : (standingWithdrawn l (markedAbsent l u)).events = (s.postEach (absentEvents l code s)).events := same.symm.trans all.1
    split
    · exact postEach_events here (by rw [scounter, postEach_counter]) [(.modeChange, 0, 4 * 256 + 3)]
    · exact here
  all_goals simp [becomeAbsent_eq, standingWithdrawn, releaseClaim_slots, releaseClaim_plan, markedAbsent, plans, limits, locked, inputs,
    counter, records]

/-! ### The commands -/

theorem violate_counted {l : LinkId} {s : State} (code : Nat) (below : (s.link l).violations + 1 < (s.link l).count) :
    violate l code s = (s.setLink l { s.link l with violations := (s.link l).violations + 1, window := 0 }).post
      .supervisionViolation (linkNumber l) (twoBytes code ((s.link l).violations + 1)) := by
  have count : (((s.setLink l { s.link l with violations := (s.link l).violations + 1, window := 0 }).post
      .supervisionViolation (linkNumber l) (twoBytes code ((s.link l).violations + 1))).link l).count = (s.link l).count := by
    cases l <;> rfl
  unfold violate
  dsimp only
  rw [count, if_neg (by omega)]

theorem exec_late {l : LinkId} {s : State} (on : (s.link l).state = .present) (hi : (s.link l).tHi ≠ 0)
    (late : (s.link l).tHi * 10 ≤ (s.link l).window) : exec (.lateViolation l) s = .next (violate l 2 s).judgeLines := by
  rw [exec_event (c := .lateViolation l) rfl, lateEffect_due on hi late]

theorem exec_earlyKeepalive {l : LinkId} {s : State} (tag : Byte) (on : (s.link l).state = .present) (hi : (s.link l).tHi ≠ 0)
    (uncut : (s.link l).transaction ≠ .cutShort) (early : (s.link l).window < (s.link l).tLo * 10) :
    exec (.keepalive l tag []) s = .next (answered l 0x02 tag .accepted [] (violate l 1 (endTransaction l s))) :=
  exec_early (c := .keepalive l tag []) rfl uncut (by simp) ⟨on, by simp [supervised, supervises, hi], early⟩

theorem endTransaction_frame (l : LinkId) (s : State) : (endTransaction l s).meter = s.meter ∧ (endTransaction l s).rate = s.rate ∧
    (endTransaction l s).plans = s.plans ∧ (endTransaction l s).limits = s.limits ∧ (endTransaction l s).locked = s.locked ∧
    (endTransaction l s).inputs = s.inputs ∧ (endTransaction l s).counter = s.counter ∧ (endTransaction l s).records = s.records ∧
    (endTransaction l s).events = s.events := by simp [endTransaction]

/-- The end of the transaction changes nothing of what a link loses with its presence, nor of the events of that. -/
theorem absentEvents_endTransaction (l : LinkId) (code : Nat) (s : State) :
    absentEvents l code (endTransaction l s) = absentEvents l code s := by
  obtain ⟨meter, rate, -⟩ := endTransaction_frame l s
  rw [absentEvents, absentEvents, orderEvents_congr l rate, holdEvents_congr l meter,
    manualEvents_congr (s := s) l (by rw [State.mode, meter]; rfl), link_endTransaction, if_pos rfl]

/-- The end of the command changes replies and attention lines alone. -/
theorem GoneAbsent.answered {l : LinkId} {code : Nat} {s t : State} (h : GoneAbsent l code s t) (kind tag : Byte) (status : Status)
    (p : List Byte) : GoneAbsent l code s (answered l kind tag status p t) := by
  have link := fun m => answered_link (l := l) (kind := kind) (tag := tag) (status := status) (p := p) (s := t) m
  refine ⟨by rw [link]; exact h.state, by rw [link]; exact h.violations, by rw [link]; exact h.window, fun m other => ?_,
    ⟨h.empty.order, h.empty.request, h.empty.claim, h.empty.owner, h.empty.manual⟩, h.order, h.request, h.claim, h.events, h.alone,
    h.slots, h.plan, h.limits, h.locked, h.inputs, h.counter, h.records⟩
  rw [link, if_neg other]
  exact h.others m other

theorem GoneAbsent.judgeLines {l : LinkId} {code : Nat} {s t : State} (h : GoneAbsent l code s t) : GoneAbsent l code s t.judgeLines := by
  have link : ∀ m, t.judgeLines.link m = { t.link m with attention := attentionWanted t m } := fun m => by cases m <;> rfl
  refine ⟨by rw [link]; exact h.state, by rw [link]; exact h.violations, by rw [link]; exact h.window, fun m other => ?_,
    ⟨h.empty.order, h.empty.request, h.empty.claim, h.empty.owner, h.empty.manual⟩, h.order, h.request, h.claim, h.events, h.alone,
    h.slots, h.plan, h.limits, h.locked, h.inputs, h.counter, h.records⟩
  rw [link]
  exact h.others m other

theorem goneAbsent_keepalive {l : LinkId} {s : State} (last : (s.link l).count ≤ (s.link l).violations + 1) (hh : HoldsInHold s) :
    GoneAbsent l 1 s (violate l 1 (endTransaction l s)) := by
  have link : ∀ m, (endTransaction l s).link m = if m = l then { s.link l with transaction := .idle } else s.link m := fun m =>
    link_endTransaction l m s
  obtain ⟨meter, rate, plans, limits, locked, inputs, counter, records, events⟩ := endTransaction_frame l s
  have h := goneAbsent_violate (l := l) (s := endTransaction l s) 1 (by rw [link, if_pos rfl]; exact last)
    (by rwa [HoldsInHold, State.mode, meter])
  have posts := absentEvents_endTransaction l 1 s
  have posted : ∀ es, ((endTransaction l s).postEach es).events = (s.postEach es).events := postEach_events events counter
  have modes : (endTransaction l s).mode = s.mode := by rw [State.mode, meter]; rfl
  have more : ∀ es, ((endTransaction l s).postEach es).counter = (s.postEach es).counter := fun es => by
    rw [postEach_counter, postEach_counter, counter]
  generalize endTransaction l s = e at *
  generalize violate l 1 e = t at *
  refine ⟨h.state, by rw [h.violations, link, if_pos rfl], h.window, fun m other => by have := h.others m other; rwa [link, if_neg other] at this,
    h.empty,
    fun m other => by rw [h.order m other, rate], fun m other => by rw [h.request m other, meter],
    fun c held => h.claim c (by rw [plans]; exact held), fun m => by rw [← posted, ← posts]; exact h.events m,
    fun mode => ?_, by rw [h.slots, plans], by rw [h.plan, plans], h.limits.trans limits, h.locked.trans locked, h.inputs.trans inputs,
    h.counter.trans counter, h.records.trans records⟩
  rw [h.alone (by rw [modes]; exact mode), posts]
  split
  · exact postEach_events (posted _) (more _) [(.modeChange, 0, 4 * 256 + 3)]
  · exact posted _

/-- Settles O20: a violation counts, and the last one withdraws the link's standing state step by step. -/
theorem violationsCountAndMakeALinkAbsent : Obligations.ViolationsCountAndMakeALinkAbsent := by
  unfold Obligations.ViolationsCountAndMakeALinkAbsent
  refine ⟨fun l tag s on hi below => ⟨fun late => ?_, fun uncut early => ?_⟩, fun l c code s on hi comes last hh => ?_⟩
  · rw [exec_late on hi late, violate_counted 2 below]
    rfl
  · have counted : violate l 1 (endTransaction l s) = _ := violate_counted 1 (by rw [link_endTransaction, if_pos rfl]; exact below)
    rw [exec_earlyKeepalive tag on hi uncut early, counted, link_endTransaction, if_pos rfl, endTransaction, setLink_setLink]
    rfl
  · have ends : ∃ t, exec c s = .next t ∧ GoneAbsent l code s t ∧
        ∀ tag, c = .keepalive l tag [] → (t.link l).lastReply = ⟨0x02, tag, .accepted, []⟩ := by
      obtain ⟨rfl, rfl, late⟩ | ⟨⟨tag, rfl⟩, rfl, uncut, early⟩ := comes
      · exact ⟨_, exec_late on hi late, (goneAbsent_violate 2 last hh).judgeLines, by simp⟩
      · refine ⟨_, exec_earlyKeepalive tag on hi uncut early, (goneAbsent_keepalive last hh).answered .., fun tag' same => ?_⟩
        cases same
        exact Capabilities.answered_lastReply ..
    obtain ⟨t, run, h, reply⟩ := ends
    exact ⟨t, run, h.state, reply, h.violations, h.window, h.empty.order, h.empty.request, h.empty.claim, h.empty.owner, h.empty.manual,
      fun m other => ⟨(h.others m other).1, h.order m other, h.request m other, (h.others m other).2⟩, h.claim, ⟨h.events, h.alone⟩,
      h.slots, h.plan, h.limits, h.locked, h.inputs, h.counter, h.records⟩

end Sys2Proof.Violations
end

section
/-! The counter at a close, and INTERVAL MARK (O45). -/

namespace Sys2Proof.Marks
open Sys2Proof.Machine Sys2Proof.Steps Sys2Proof.Steady Sys2Proof.Payloads

theorem placeWaiting_counter (s : State) : (placeWaiting s).counter = { s.counter with waiting := none } := by
  unfold placeWaiting
  cases waits : s.counter.waiting with
  | none => exact congrArg (fun w => ({ s.counter with waiting := w } : Counter)) waits
  | some w => simp [placeRecord]

theorem blocksAtClose_counter (cause : Cause) (next : Nat) (s : State) :
    (blocksAtClose cause next s).counter = { s.counter with number := next, elapsed := 0 } := by
  simp [blocksAtClose, beginInterval]

/-- A close begins the next interval at elapsed 0, with the record of the closing one waiting (R23, R32). -/
theorem closeInterval_counter (cause : Cause) (next : Nat) (s : State) :
    (closeInterval cause next s).counter = ⟨next, 0, some (closeWaiting cause next (placeWaiting s)
      (blocksAtClose cause next (placeWaiting s)))⟩ := by
  rw [closeInterval_eq, putWaiting, blocksAtClose_counter]

/-- What waits after a close is the record of the interval that closed. -/
theorem closeInterval_record (cause : Cause) (next : Nat) (s : State) :
    ∃ w, (closeInterval cause next s).counter = ⟨next, 0, some w⟩ ∧ w.record.number = s.counter.number ∧ w.record.cause = cause ∧
      w.record.duration = s.counter.elapsed ∧ w.record.next = next :=
  ⟨_, closeInterval_counter cause next s, by rw [closeWaiting, placeWaiting_counter], rfl, by rw [closeWaiting, placeWaiting_counter], rfl⟩

theorem word16At_be16 {n : Nat} (h : n < 65536) : word16At (be16 n) 0 = n := by
  show (byte (n / 256)).toNat * 256 + (byte n).toNat = n
  exact be16_word h

/-! ### INTERVAL MARK -/

section Mark
variable {n : Nat} {s : State} (tag : Byte) (steady : SteadyFrame .C false s)
include steady

/-- A mark of two bytes is judged by the counter while mark_sync is ON (R26). -/
theorem exec_mark {a : Answer} (fits : n < 65536) (on : s.limits.markSync = true) (answer : intervalMark n (received .C false s) = a) :
    exec (.intervalMark .C tag (be16 n)) s = .next (answered .C 0x30 tag a.status a.payload a.state) :=
  exec_steady (c := .intervalMark .C tag (be16 n)) rfl (by simp) steady (by
    have sync : (received .C false s).limits.markSync = true := by simp [on]
    have asked : requestAnswer (.intervalMark .C tag (be16 n)) (received .C false s) =
        if (received .C false s).limits.markSync then withLength 2 (be16 n) (intervalMark (word16At (be16 n) 0)) (received .C false s)
        else refuse (received .C false s) .wrongState := rfl
    have answered : requestAnswer (.intervalMark .C tag (be16 n)) (received .C false s) = a := by
      rw [asked, if_pos sync, withLength_of_eq (show (be16 n).length = 2 from rfl), word16At_be16 fits]
      exact answer
    exact answered)

theorem exec_mark_accepts {t : State} {q : List Byte} (fits : n < 65536) (on : s.limits.markSync = true)
    (answer : intervalMark n (received .C false s) = accept t q) :
    exec (.intervalMark .C tag (be16 n)) s = .next (answered .C 0x30 tag .accepted q t) := exec_mark tag steady fits on answer

theorem exec_mark_early (fits : n < 65536) (on : s.limits.markSync = true) (early : s.counter.elapsed < windowOpens s.limits) :
    exec (.intervalMark .C tag (be16 n)) s =
      .next (answered .C 0x30 tag .accepted (1 :: be16 s.counter.number) ((received .C false s).post .markEarly 0 n)) := by
  have number : ((received .C false s).post .markEarly 0 n).counter.number = s.counter.number := by simp
  have answer : intervalMark n (received .C false s) = accept ((received .C false s).post .markEarly 0 n) (1 :: be16 s.counter.number) := by
    unfold intervalMark
    rw [if_pos (by simpa using early)]
    exact congrArg (fun k => accept ((received .C false s).post .markEarly 0 n) (1 :: be16 k)) number
  exact exec_mark_accepts tag steady fits on answer

theorem exec_mark_closes (fits : n < 65536) (on : s.limits.markSync = true) (open_ : windowOpens s.limits ≤ s.counter.elapsed) :
    exec (.intervalMark .C tag (be16 n)) s =
      .next (answered .C 0x30 tag .accepted (0 :: be16 n) (closeInterval .mark n (received .C false s))) := by
  have answer : intervalMark n (received .C false s) = accept (closeInterval .mark n (received .C false s)) (0 :: be16 n) := by
    unfold intervalMark
    rw [if_neg (by simpa using open_)]
    have number : (closeInterval .mark n (received .C false s)).counter.number = n := by rw [closeInterval_counter]
    exact congrArg (fun k => accept (closeInterval .mark n (received .C false s)) (0 :: be16 k)) number
  exact exec_mark_accepts tag steady fits on answer

end Mark

/-- Settles O45: the mark is judged by mark_sync, by its length and by the acceptance window. -/
theorem intervalMarkClosesOrIsEarly : Obligations.IntervalMarkClosesOrIsEarly := by
  unfold Obligations.IntervalMarkClosesOrIsEarly
  intro tag n s steady fits
  refine ⟨fun off => ?_, fun on early => exec_mark_early tag steady fits on early, fun on reached => ?_, fun payload on wrong => ?_⟩
  · refine exec_refuses (c := .intervalMark .C tag (be16 n)) rfl (by simp) steady ?_
    exact if_neg (by simp [off])
  · have run := exec_mark_closes tag steady fits on reached
    obtain ⟨w, counter, number, cause, duration, next⟩ := closeInterval_record .mark n (received .C false s)
    have frame := closeInterval_frame .mark n (received .C false s)
    generalize closeInterval .mark n (received .C false s) = t at *
    refine ⟨run, _, run, ?_⟩
    simp only [answered_frame, Capabilities.answered_lastReply, counter, frame, received_frame]
    exact ⟨trivial, trivial, trivial, ⟨w, rfl, number.trans (by simp), cause, duration.trans (by simp), next⟩, trivial, trivial⟩
  · refine exec_refusesRange (c := .intervalMark .C tag payload) rfl (by simp) steady ?_
    exact (if_pos (by simp [on])).trans (withLength_of_ne wrong _)

end Sys2Proof.Marks
end

section
/-! The detectors one by one: what an operation on one input leaves at the others, and what the same operation on each input
makes of all of them. -/

namespace Sys2Proof.Inputs
open Sys2Proof.Machine Sys2Proof.Steps Sys2Proof.Transitions Sys2Proof.LaneLaws

theorem mem_allInputs (d : Fin 16) : d ∈ allInputs := by revert d; decide

theorem allInputs_nodup : allInputs.Nodup := by decide

/-! ### An operation on each input -/

/-- An operation that makes `g d` of an input `d` and leaves the others. -/
def OnInput (f : State → Fin 16 → State) (g : Fin 16 → Input → Input) : Prop :=
  ∀ s d e, (f s d).input e = if e = d then g d (s.input d) else s.input e

theorem input_foldl {f : State → Fin 16 → State} {g : Fin 16 → Input → Input} (h : OnInput f g) {l : List (Fin 16)} (nodup : l.Nodup)
    (s : State) (e : Fin 16) : (l.foldl f s).input e = if e ∈ l then g e (s.input e) else s.input e := by
  induction l generalizing s with
  | nil => rfl
  | cons d l ih =>
    obtain ⟨notIn, nodup⟩ := List.nodup_cons.mp nodup
    rw [List.foldl_cons, ih nodup, h]
    by_cases here : e = d
    · subst here
      rw [if_neg notIn, if_pos rfl, if_pos (List.mem_cons_self ..)]
    · simp [here]

theorem input_all {f : State → Fin 16 → State} {g : Fin 16 → Input → Input} (h : OnInput f g) (s : State) (e : Fin 16) :
    (allInputs.foldl f s).input e = g e (s.input e) := by
  rw [input_foldl h allInputs_nodup, if_pos (mem_allInputs e)]

/-- The events of an operation on each input are those of the inputs, in their order. -/
theorem posted_foldl {f : State → Fin 16 → State} {g : Fin 16 → Input → Input} {p : Fin 16 → Input → List (EventKind × Nat × Nat)}
    (h : OnInput f g) (posts : ∀ s d, Posted (p d (s.input d)) s (f s d)) {l : List (Fin 16)} (nodup : l.Nodup) (s : State) :
    Posted (l.flatMap fun d => p d (s.input d)) s (l.foldl f s) := by
  induction l generalizing s with
  | nil => exact .quiet rfl rfl
  | cons d l ih =>
    obtain ⟨notIn, nodup⟩ := List.nodup_cons.mp nodup
    have same : (l.flatMap fun e => p e ((f s d).input e)) = l.flatMap fun e => p e (s.input e) := by
      refine List.flatMap_congr fun e mem => ?_
      have other : e ≠ d := fun eq => notIn (eq ▸ mem)
      rw [h, if_neg other]
    rw [List.flatMap_cons, List.foldl_cons, ← same]
    exact (posts s d).trans (ih nodup (f s d))

theorem flatMap_ite_singleton {α β : Type} (c : α → Bool) (f : α → β) (l : List α) :
    (l.flatMap fun d => if c d then [f d] else []) = (l.filter c).map f := by
  induction l with
  | nil => rfl
  | cons d l ih => cases h : c d <;> simp [h, ih]

/-! ### Faults -/

theorem input_post (s : State) (kind : EventKind) (subject detail : Nat) (d : Fin 16) :
    (s.post kind subject detail).input d = s.input d := by simp [State.input]

/-- An input whose fault of a kind has ended. -/
def endedFault (k : FaultKind) (x : Input) : Input := if x.hasFault k then (x.setFault k false).alignRun else x

theorem endFault_onInput (k : FaultKind) (cause : Nat) : OnInput (fun s d => endFault d k cause s) fun _ => endedFault k := by
  intro s d e
  dsimp only
  unfold endFault endedFault
  cases h : (s.input d).hasFault k
  · by_cases here : e = d <;> simp [here]
  · rw [if_pos rfl, input_post, input_setInput, if_pos rfl]

theorem posted_endFault (d : Fin 16) (k : FaultKind) (cause : Nat) (s : State) :
    Posted (if (s.input d).hasFault k then [(.detRecovered, d.val + 1, k.code * 256 + cause)] else []) s (endFault d k cause s) := by
  unfold endFault
  cases h : (s.input d).hasFault k
  · exact .quiet rfl rfl
  · exact (posted_post _ _ _ _).before (by simp) (by simp)

theorem demandInput_congr {s t : State} (h : ∀ d, (t.input d).entry = (s.input d).entry) (i : Fin 3) : demandInput t i = demandInput s i := by
  unfold demandInput Input.isDemandOf
  simp only [h]

theorem substitutionInForce_congr {s t : State} (h : t.inputs = s.inputs) (i : Fin 3) : substitutionInForce t i = substitutionInForce s i := by
  have input : ∀ d, t.input d = s.input d := fun d => by rw [State.input, h]; rfl
  rw [substitutionInForce, substitutionInForce, demandInput_congr (s := s) fun d => by rw [input]]
  simp only [input]

end Sys2Proof.Inputs
end

section
/-! What the blocks make of a close, one after the other: the counter and the DFE, the scheduler, the plan store, the rate
computer and the mode controller (R64). -/

namespace Sys2Proof.Closes
open Sys2Proof.Machine Sys2Proof.Steps Sys2Proof.Steady Sys2Proof.Transitions Sys2Proof.LaneLaws Sys2Proof.Inputs Sys2Proof.PlanChanges
open Sys2Proof.Postings Sys2Proof.Holders Sys2Proof.Releases Sys2Proof.ModeSteps Sys2Proof.LockLimits Sys2Proof.Faults

/-! ### The detectors at a close -/

/-- Whether a chatter fault of an input ends at a close (R12). -/
def chatterEnds (x : Input) : Bool := x.faultChatter && decide (x.chatter ≤ x.entry.chatterLimit)

/-- An input after a close. -/
def closedInput (x : Input) : Input := (if chatterEnds x then endedFault .chatter x else x).newInterval

theorem closeInput_onInput : OnInput (fun s d => closeInput d s) fun _ => closedInput := by
  intro s d e
  have ended := endFault_onInput .chatter 1 s d
  dsimp only at ended ⊢
  unfold closeInput closedInput
  dsimp only
  rw [show ((s.input d).faultChatter && decide ((s.input d).chatter ≤ (s.input d).entry.chatterLimit)) = chatterEnds (s.input d) from rfl]
  cases chatterEnds (s.input d)
  · simp
  · rw [if_pos rfl, if_pos rfl, input_setInput, ended d, if_pos rfl]
    split
    · rfl
    · next other => rw [ended, if_neg other]

theorem posted_closeInput (s : State) (d : Fin 16) :
    Posted (if chatterEnds (s.input d) then [(.detRecovered, d.val + 1, 2 * 256 + 1)] else []) s (closeInput d s) := by
  have post := posted_endFault d .chatter 1 s
  unfold closeInput
  dsimp only
  rw [show ((s.input d).faultChatter && decide ((s.input d).chatter ≤ (s.input d).entry.chatterLimit)) = chatterEnds (s.input d) from rfl]
  cases ends : chatterEnds (s.input d)
  · exact .quiet (by simp) (by simp)
  · have present : (s.input d).hasFault .chatter = true := by
      simp only [chatterEnds, Bool.and_eq_true] at ends
      exact ends.1
    rw [if_pos present] at post
    exact post.after (by simp) (by simp)

theorem dfeAtClose_input (s : State) (d : Fin 16) : (dfeAtClose s).input d = closedInput (s.input d) := by
  have lanes : (dfeAtClose s).inputs = (allInputs.foldl (fun s d => closeInput d s) s).inputs := by simp [dfeAtClose]
  rw [State.input, lanes, ← State.input]
  exact input_all closeInput_onInput s d

theorem posted_dfeAtClose (s : State) :
    Posted ((allInputs.filter fun d => chatterEnds (s.input d)).map fun d => (.detRecovered, d.val + 1, 2 * 256 + 1)) s (dfeAtClose s) := by
  have posted := posted_foldl (p := fun d x => if chatterEnds x then [(.detRecovered, d.val + 1, 2 * 256 + 1)] else [])
    closeInput_onInput posted_closeInput allInputs_nodup s
  rw [flatMap_ite_singleton] at posted
  exact posted.after (by simp [dfeAtClose]) (by simp [dfeAtClose])

theorem closedInput_fields (x : Input) : (closedInput x).volume = 0 ∧ (closedInput x).onTime = 0 ∧ (closedInput x).chatter = 0 ∧
    (closedInput x).cond = x.cond ∧ (closedInput x).seen = (closedInput x).anyFault ∧ (closedInput x).faultStuck = x.faultStuck ∧
    (closedInput x).faultOff = x.faultOff ∧
    ((closedInput x).faultChatter = true ↔ x.faultChatter = true ∧ x.entry.chatterLimit < x.chatter) := by
  unfold closedInput endedFault chatterEnds
  cases present : x.faultChatter <;> by_cases within : x.chatter ≤ x.entry.chatterLimit <;>
    simp [Input.newInterval, Input.hasFault, Input.setFault, Input.alignRun, Input.anyFault, present, within]
  exact Nat.not_le.mp within

theorem closeDfeLane_dfeLane (i j : Fin 3) (s : State) :
    (closeDfeLane i s).dfeLane j = if j = i then { s.dfeLane i with substituted := substitutionInForce s i } else s.dfeLane j := by
  simp [closeDfeLane]

/-- The demand-substituted marks stand as the substitutions do (R19). -/
theorem dfeAtClose_substituted (s : State) (i : Fin 3) : ((dfeAtClose s).dfeLane i).substituted = substitutionInForce (dfeAtClose s) i := by
  rw [dfeAtClose]
  generalize allInputs.foldl (fun s d => closeInput d s) s = u
  have inputs : ∀ l, (orderEach closeDfeLane l u).inputs = u.inputs := fun l => by simp
  rw [substitutionInForce_congr (inputs _)]
  have one : ∀ j v, v.inputs = u.inputs → ((closeDfeLane j v).dfeLane i).substituted =
      if i = j then substitutionInForce u j else (v.dfeLane i).substituted := fun j v same => by
    rw [closeDfeLane_dfeLane, substitutionInForce_congr same]
    split <;> rfl
  have first : (closeDfeLane 0 u).inputs = u.inputs := by simp
  have second : (closeDfeLane 1 (closeDfeLane 0 u)).inputs = u.inputs := by simp
  show ((closeDfeLane 2 (closeDfeLane 1 (closeDfeLane 0 u))).dfeLane i).substituted = _
  rw [one 2 _ second, one 1 _ first, one 0 u rfl]
  clear one
  obtain rfl | rfl | rfl : i = 0 ∨ i = 1 ∨ i = 2 := by revert i; decide
  all_goals rfl

/-! ### The counts of the lanes -/

/-- Each lane has the counts it had. -/
def KeepsCounts (s t : State) : Prop := ∀ i, (t.lane i).releases = (s.lane i).releases ∧ (t.lane i).extras = (s.lane i).extras ∧
  (t.lane i).violations = (s.lane i).violations

theorem KeepsCounts.of_sched {s t : State} (h : t.sched = s.sched) : KeepsCounts s t := fun i => by
  rw [State.lane, h]
  exact ⟨rfl, rfl, rfl⟩

theorem KeepsCounts.trans {s t u : State} (h : KeepsCounts s t) (g : KeepsCounts t u) : KeepsCounts s u := fun i =>
  ⟨(g i).1.trans (h i).1, (g i).2.1.trans (h i).2.1, (g i).2.2.trans (h i).2.2⟩

theorem keepsCounts_grant (i : Fin 3) (s : State) : KeepsCounts s (grant i s) := fun j => by
  rw [grant, lane_setRelease, lane_enterLane]
  split
  · next here => exact here ▸ ⟨rfl, rfl, rfl⟩
  · exact ⟨rfl, rfl, rfl⟩

theorem keepsCounts_releaseDue (s : State) : KeepsCounts s (releaseDue s) := by
  obtain ⟨i, -, e⟩ | ⟨-, e⟩ := releaseDue_cases s <;> rw [e]
  · exact keepsCounts_grant i s
  · exact fun _ => ⟨rfl, rfl, rfl⟩

theorem keepsCounts_takePending (s : State) : KeepsCounts s (takePending s) := by
  obtain e | ⟨i, -, -, -, e⟩ := takePending_cases s <;> rw [e]
  · exact fun _ => ⟨rfl, rfl, rfl⟩
  · exact keepsCounts_grant i s

theorem keepsCounts_handHeadway (h : Nat) (s : State) : KeepsCounts s (handHeadway h s) := by
  obtain ⟨-, e⟩ | ⟨-, -, -, e⟩ := handHeadway_cases h s <;> rw [e]
  · exact fun _ => ⟨rfl, rfl, rfl⟩
  · exact .trans (t := s.setHeadway h) (fun _ => ⟨rfl, rfl, rfl⟩) (keepsCounts_releaseDue (s.setHeadway h))

theorem keepsCounts_resumeReleases (s : State) : KeepsCounts s (resumeReleases s) := by
  unfold resumeReleases
  split
  · exact keepsCounts_takePending s
  · split
    · exact keepsCounts_releaseDue s
    · exact .of_sched rfl

theorem keepsCounts_runCombine (s : State) : KeepsCounts s (runCombine false s) := by
  unfold runCombine
  split
  · exact .of_sched rfl
  · dsimp only
    split
    · exact keepsCounts_handHeadway _ (s.putRate _)
    · exact .of_sched rfl

/-! ### The plan store at a close -/

/-- What the plan store leaves alone as it judges spill within a close. -/
structure KeepsClose (s t : State) : Prop where
  counts : KeepsCounts s t
  engaged : engaged t = engaged s
  wish : KeepsWish s t
  rate : ∃ v, t.rate = { s.rate with spillActive := v }
  posts : Posts s t

theorem KeepsClose.refl (s : State) : KeepsClose s s := ⟨.of_sched rfl, rfl, .of_meter rfl, ⟨s.rate.spillActive, rfl⟩, .refl s⟩

theorem endHold_engaged (kind : EventKind) (detail : Nat) (s : State) : engaged (endHold kind detail s) = engaged s := by
  unfold endHold
  cases s.meter.hold with
  | none => rfl
  | some h =>
    dsimp only
    split
    · next mode => simp [engaged, State.mode, leaveHold_meter, show s.meter.mode = .hold from mode]
    · rfl

theorem keepsCounts_endHold (kind : EventKind) (detail : Nat) (s : State) : KeepsCounts s (endHold kind detail s) := by
  unfold endHold
  cases s.meter.hold with
  | none => exact .of_sched rfl
  | some h =>
    dsimp only
    split
    · exact .trans (.of_sched (t := (changeMode .metering .holdEnded (s.post kind (linkNumber h.owner) detail)).putHold none)
        (by simp)) (keepsCounts_resumeReleases _)
    · exact .of_sched rfl

theorem keepsClose_judgeSpill (s : State) : KeepsClose s (judgeSpill false s) := by
  refine ⟨?_, ?_, keepsWish_judgeSpill false s, ?_, posts_judgeSpill false s⟩ <;>
    obtain ⟨-, -, e⟩ | ⟨n, -, -, e⟩ | ⟨-, -, e⟩ | ⟨d, -, -, e⟩ := judgeSpill_cases false s <;> rw [e]
  case refine_1.inl | refine_1.inr.inr.inl => exact .of_sched rfl
  case refine_1.inr.inl => exact .of_sched rfl
  case refine_1.inr.inr.inr => exact .trans (.of_sched (t := (s.putSpill true).post .spillOn (d.val + 1) 0) rfl) (keepsCounts_endHold _ _ _)
  case refine_2.inr.inl => rfl
  case refine_2.inr.inr.inr => exact endHold_engaged _ _ ((s.putSpill true).post .spillOn (d.val + 1) 0)
  case refine_3.inl | refine_3.inr.inr.inl => exact ⟨s.rate.spillActive, rfl⟩
  case refine_3.inr.inl => exact ⟨false, rfl⟩
  case refine_3.inr.inr.inr => exact ⟨true, by simp [spillRises, State.putSpill]⟩

/-- Whether a pending slot is applied at a close: in DARK, or with the lane set of the plan in force (R139). -/
def Applies (s : State) (k : Fin 8) : Prop := s.mode = .dark ∨ ∃ p, s.plans.plan = some p ∧ byteAt p 1 = byteAt (s.slot k).image 1

theorem planAtClose_none {s : State} (none : s.plans.pendingSlot = none) : planAtClose s = s := by simp [planAtClose, none]

theorem planAtClose_applies {s : State} {k : Fin 8} (pending : s.plans.pendingSlot = some k) (applies : Applies s k) :
    planAtClose s = judgeSpill false (applySlot k s) := by
  unfold planAtClose
  rw [pending]
  refine if_pos ?_
  obtain dark | ⟨p, plan, same⟩ := applies
  · simp [dark]
  · simp [plan, planLaneSet, same]

theorem planAtClose_waits {s : State} {k : Fin 8} (pending : s.plans.pendingSlot = some k) (waits : ¬ Applies s k) : planAtClose s = s := by
  unfold planAtClose
  rw [pending]
  refine if_neg fun h => waits ?_
  obtain dark | same := (Bool.or_eq_true _ _).mp h
  · exact .inl (by simpa using dark)
  · cases plan : s.plans.plan with
    | none => simp [plan] at same
    | some p => exact .inr ⟨p, plan, by simpa [plan, planLaneSet] using same⟩

theorem applySlot_plans (k : Fin 8) (s : State) :
    (applySlot k s).plans = { s.plans with plan := some (s.slot k).image, active := some k, pendingSlot := none } := rfl

theorem planAtClose_keeps (s : State) : KeepsClose s (planAtClose s) := by
  cases pending : s.plans.pendingSlot with
  | none => rw [planAtClose_none pending]; exact .refl s
  | some k =>
    by_cases applies : Applies s k
    · rw [planAtClose_applies pending applies]
      have after := keepsClose_judgeSpill (applySlot k s)
      obtain ⟨v, rate⟩ := after.rate
      exact ⟨.trans (.of_sched (by simp)) after.counts, after.engaged.trans (by simp [engaged, State.mode]),
        .trans (.of_meter (by simp)) after.wish, ⟨v, rate.trans (by simp)⟩, .trans (posts_post _ _ _ _) after.posts⟩
    · rw [planAtClose_waits pending applies]
      exact .refl s

/-- The plans after a close, and the event of a slot that it applies. -/
theorem planAtClose_plans (s : State) :
    (∀ k, s.plans.pendingSlot = some k → Applies s k →
      (planAtClose s).plans = { s.plans with plan := some (s.slot k).image, active := some k, pendingSlot := none } ∧
        Posts (s.post .planApplied (k.val + 1) (word16At (s.slot k).image 2)) (planAtClose s)) ∧
      ((∀ k, s.plans.pendingSlot = some k → ¬ Applies s k) → planAtClose s = s) := by
  refine ⟨fun k pending applies => ?_, fun none => ?_⟩
  · rw [planAtClose_applies pending applies]
    exact ⟨(judgeSpill_frame false (applySlot k s)).2.2.2.2.1.trans (applySlot_plans k s),
      .trans (.of_events (posted_applySlot k s).1) (posts_judgeSpill _ _)⟩
  · cases pending : s.plans.pendingSlot with
    | none => exact planAtClose_none pending
    | some k => exact planAtClose_waits pending (none k pending)

end Sys2Proof.Closes
end

section
/-! The rate computer and the mode controller at a close, and the statements about closes (O46, O47). -/

namespace Sys2Proof.Computation
open Sys2Proof.Machine Sys2Proof.Steps Sys2Proof.Steady Sys2Proof.Transitions Sys2Proof.LaneLaws Sys2Proof.Inputs Sys2Proof.PlanChanges
open Sys2Proof.Postings Sys2Proof.Holders Sys2Proof.Releases Sys2Proof.ModeSteps Sys2Proof.Faults Sys2Proof.Closes Sys2Proof.Marks

/-! ### The queue floor -/

/-- The event of a change of the queue floor at a close (R47). -/
def floorPosts (dets : List DetEntry) (s : State) : List (EventKind × Nat × Nat) :=
  let j := judgedFloor s.plans.plan dets s.rate.floorActive
  if j.1 = s.rate.floorActive then [] else [(if j.1 then .queueFloorOn else .queueFloorOff, 0, j.2)]

theorem posted_floorAtClose (dets : List DetEntry) (s : State) : Posted (floorPosts dets s) s (floorAtClose dets s) := by
  unfold floorAtClose setFloor floorPosts
  dsimp only
  generalize judgedFloor s.plans.plan dets s.rate.floorActive = j
  by_cases same : s.rate.floorActive = j.1
  · rw [if_pos same, if_pos same.symm]
    exact .quiet rfl rfl
  · rw [if_neg same, if_neg (Ne.symm same)]
    exact (posted_post _ _ _ _).before (by simp) (by simp)

theorem floorAtClose_rate (dets : List DetEntry) (s : State) :
    (floorAtClose dets s).rate = { s.rate with floorActive := (judgedFloor s.plans.plan dets s.rate.floorActive).1 } := by
  unfold floorAtClose setFloor
  dsimp only
  generalize judgedFloor s.plans.plan dets s.rate.floorActive = j
  split
  · next same => rw [← same]
  · rfl

/-! ### Feedback -/

/-- The one RATE_FALLBACK of a run of closes without a station occupancy (R46). -/
def fallbackPosts (om : Option Nat) (s : State) : List (EventKind × Nat × Nat) :=
  if om = none ∧ s.rate.fallbackMark = false then (s.plans.plan.map fun p => (.rateFallback, 0, planRFixed p)).toList else []

theorem posted_feedbackAtClose (om : Option Nat) (s : State) : Posted (fallbackPosts om s) s (feedbackAtClose om s) := by
  unfold feedbackAtClose fallbackPosts
  cases plan : s.plans.plan with
  | none =>
    dsimp only [Option.map_none, Option.toList_none]
    rw [ite_self]
    exact .quiet rfl rfl
  | some p =>
    cases om with
    | some m => exact .quiet rfl rfl
    | none =>
      cases mark : s.rate.fallbackMark with
      | true => exact .quiet rfl rfl
      | false => exact (posted_post _ _ _ _).before rfl rfl

/-- What the feedback of a close makes of the rate computer's values. -/
theorem feedbackAtClose_rate (om : Option Nat) {s : State} {p : List Byte} (plan : s.plans.plan = some p) :
    (feedbackAtClose om s).rate = { s.rate with
      rFb := match om with | some m => feedbackValue p s.rate.rPrev m | none => planRFixed p
      basis := if om.isSome then .feedback else .fixed
      fallbackMark := om.isNone } := by
  unfold feedbackAtClose
  rw [plan]
  cases om with
  | some m => rfl
  | none =>
    dsimp only
    split <;> rfl

theorem feedbackAtClose_sched (om : Option Nat) (s : State) : (feedbackAtClose om s).sched = s.sched ∧ (feedbackAtClose om s).meter = s.meter ∧
    (feedbackAtClose om s).plans = s.plans ∧ (feedbackAtClose om s).limits = s.limits := by simp

/-! ### The rate computer at a close -/

theorem combineOut_putRate (o : RateOut) (s : State) (p : List Byte) (n : Nat) :
    combineOut (s.putRate o).rate s.limits p n = combineOut s.rate s.limits p n := rfl

theorem rateAtClose_engaged {dets : List DetEntry} {s : State} (on : engaged s = true) :
    rateAtClose dets s = recombine (feedbackAtClose (stationOf dets) (floorAtClose dets s)) := by
  have floor : engaged (floorAtClose dets s) = true := by simpa [engaged, State.mode] using on
  have feedback : engaged (feedbackAtClose (stationOf dets) (floorAtClose dets s)) = true := by simpa [engaged, State.mode] using on
  unfold rateAtClose
  dsimp only
  rw [if_pos floor, recombine, if_pos feedback]

theorem rateAtClose_disengaged {dets : List DetEntry} {s : State} (off : engaged s = false) : rateAtClose dets s = floorAtClose dets s := by
  have floor : engaged (floorAtClose dets s) = false := by simpa [engaged, State.mode] using off
  unfold rateAtClose
  dsimp only
  rw [floor]
  rfl

/-- The events of the rate computer at a close: the queue floor's, then RATE_FALLBACK while engaged. -/
theorem posted_rateAtClose (dets : List DetEntry) (s : State) :
    Posted (floorPosts dets s ++ if engaged s = true then fallbackPosts (stationOf dets) s else []) s (rateAtClose dets s) := by
  have floor := posted_floorAtClose dets s
  cases on : engaged s with
  | false =>
    rw [if_neg (by decide), List.append_nil, rateAtClose_disengaged on]
    exact floor
  | true =>
    have same : fallbackPosts (stationOf dets) (floorAtClose dets s) = fallbackPosts (stationOf dets) s := by
      unfold fallbackPosts
      rw [floorAtClose_rate]
      simp
    rw [if_pos rfl, rateAtClose_engaged on, ← same]
    exact (floor.trans (posted_feedbackAtClose _ _)).after (by simp) (by simp)

theorem keepsCounts_rateAtClose (dets : List DetEntry) (s : State) : KeepsCounts s (rateAtClose dets s) := by
  cases on : engaged s with
  | false =>
    rw [rateAtClose_disengaged on]
    exact .of_sched (by simp)
  | true =>
    rw [rateAtClose_engaged on, recombine]
    refine .trans (.of_sched (t := feedbackAtClose (stationOf dets) (floorAtClose dets s)) (by simp)) ?_
    split
    · exact keepsCounts_runCombine _
    · exact .of_sched rfl

/-- The rate values that a close computes while engaged: the feedback, then the combine in force. -/
theorem rateAtClose_rate {dets : List DetEntry} {s : State} {p : List Byte} (on : engaged s = true) (plan : s.plans.plan = some p) :
    ((rateAtClose dets s).rate.rFb = (feedbackAtClose (stationOf dets) s).rate.rFb ∧
      (rateAtClose dets s).rate.basis = (feedbackAtClose (stationOf dets) s).rate.basis ∧
      (rateAtClose dets s).rate.fallbackMark = (feedbackAtClose (stationOf dets) s).rate.fallbackMark) ∧
    (rateAtClose dets s).rate.floorActive = (judgedFloor (some p) dets s.rate.floorActive).1 ∧
    (let o := combineOut (rateAtClose dets s).rate s.limits p (workingLanes (rateAtClose dets s)).length
     (rateAtClose dets s).rate.inForce = some o ∧ (rateAtClose dets s).rate.rPrev = o.rate ∧
      (s.rate.inForce.map RateOut.headway ≠ some o.headway → (rateAtClose dets s).sched.headway = o.headway)) := by
  have floorPlan : (floorAtClose dets s).plans.plan = some p := by simpa using plan
  have floor := floorAtClose_rate dets s
  have fed := feedbackAtClose_rate (stationOf dets) floorPlan
  have alone := feedbackAtClose_rate (stationOf dets) plan
  obtain ⟨-, -, plans, limits⟩ := feedbackAtClose_sched (stationOf dets) (floorAtClose dets s)
  have slimits : (feedbackAtClose (stationOf dets) (floorAtClose dets s)).limits = s.limits := by simp
  have splan : (feedbackAtClose (stationOf dets) (floorAtClose dets s)).plans.plan = some p := by rw [plans]; exact floorPlan
  have smode : (feedbackAtClose (stationOf dets) (floorAtClose dets s)).mode = .metering ∨
      (feedbackAtClose (stationOf dets) (floorAtClose dets s)).mode = .hold := by
    simpa [engaged, State.mode] using on
  rw [rateAtClose_engaged on]
  rw [floor] at fed
  generalize feedbackAtClose (stationOf dets) (floorAtClose dets s) = u at *
  have rate := recombine_rate smode splan
  have lanes := (mayGrant_recombine u).workingLanes (by simp)
  have headway := fun h out => recombine_headway (h := h) smode splan out
  generalize recombine u = t at *
  have out : combineOut t.rate s.limits p (workingLanes t).length = combineOut u.rate u.limits p (workingLanes u).length := by
    rw [rate, lanes, ← slimits, combineOut_putRate]
  have inForce : u.rate.inForce = s.rate.inForce := by rw [fed]
  have put : t.rate = { u.rate with inForce := some (combineOut u.rate u.limits p (workingLanes u).length)
                                    rPrev := (combineOut u.rate u.limits p (workingLanes u).length).rate } := rate
  refine ⟨?_, ?_, ?_⟩
  · rw [put, fed, alone]
    exact ⟨rfl, rfl, rfl⟩
  · rw [put, fed, plan]
  · dsimp only
    rw [out]
    refine ⟨by rw [put], by rw [put], fun new => headway _ rfl (.inl (by rw [inForce]; exact new))⟩

/-! ### The mode controller at a close -/

/-- What R93 makes of the run counts. -/
theorem runsAtClose_runs (om : Option Nat) (s : State) :
    (∀ p m, s.meter.resolved = .auto → s.plans.plan = some p → planActivationGroup p = true → om = some m →
      (runsAtClose om s).meter.onRun = (if planOnThr p ≤ m then min (s.meter.onRun + 1) 10 else 0) ∧
        (runsAtClose om s).meter.offRun = (if m ≤ planOffThr p then min (s.meter.offRun + 1) 10 else 0)) ∧
    (s.meter.resolved ≠ .auto ∨ hasActivation s = false ∨ om = none →
      (runsAtClose om s).meter.onRun = 0 ∧ (runsAtClose om s).meter.offRun = 0) := by
  refine ⟨fun p m auto plan group occupied => ?_, fun idle => ?_⟩
  · subst occupied
    have counted : runsAtClose (some m) s =
        s.putRuns (runCount s.meter.onRun (decide (planOnThr p ≤ m))) (runCount s.meter.offRun (decide (m ≤ planOffThr p))) := by
      simp [runsAtClose, auto, plan, group]
    rw [counted]
    simp [State.putRuns, runCount]
  · have zero : runsAtClose om s = s.putRuns 0 0 := by
      cases resolved : s.meter.resolved <;> cases plan : s.plans.plan <;> cases om <;> simp_all [runsAtClose, hasActivation]
    rw [zero]
    exact ⟨rfl, rfl⟩

theorem runsAtClose_resolved (om : Option Nat) (s : State) : (runsAtClose om s).meter.resolved = s.meter.resolved := by
  unfold runsAtClose
  (repeat' split) <;> rfl

theorem runsAtClose_lane (om : Option Nat) (s : State) : (runsAtClose om s).sched = s.sched ∧ (runsAtClose om s).rate = s.rate ∧
    (runsAtClose om s).events = s.events := by simp

theorem autoStartTest_iff (m : Mode) (s : State) : autoStartTest m s = true ↔ s.meter.resolved = .auto ∧ m = .dark ∧
    ∃ p, s.plans.plan = some p ∧ planActivationGroup p = true ∧ planOnCount p ≤ s.meter.onRun := by
  unfold autoStartTest
  cases s.meter.resolved <;> cases s.plans.plan <;> simp [and_assoc]

theorem autoStopTest_iff (m : Mode) (s : State) : autoStopTest m s = true ↔ s.meter.resolved = .auto ∧ m = .metering ∧
    ∃ p, s.plans.plan = some p ∧ planActivationGroup p = true ∧ planOffCount p ≤ s.meter.offRun := by
  unfold autoStopTest
  cases s.meter.resolved <;> cases s.plans.plan <;> simp [and_assoc]

/-! ### The blocks together -/

/-- The state in which the plan store finds the close: the new interval begun, the DFE and the scheduler done. -/
def opened (cause : Cause) (next : Nat) (s : State) : State :=
  schedAtClose (dfeAtClose (beginInterval next (postClosed cause next s)))

theorem blocksAtClose_eq (cause : Cause) (next : Nat) (s : State) :
    blocksAtClose cause next s = runsAtClose (stationOf (detEntries s s.counter.elapsed))
      (rateAtClose (detEntries s s.counter.elapsed) (planAtClose (opened cause next s))) := rfl

section Opened
variable (cause : Cause) (next : Nat) (s : State)

theorem begun_input (d : Fin 16) : (beginInterval next (postClosed cause next s)).input d = s.input d := by simp [State.input]

theorem opened_input (d : Fin 16) : (opened cause next s).input d = closedInput (s.input d) := by
  have inputs : (opened cause next s).inputs = (dfeAtClose (beginInterval next (postClosed cause next s))).inputs := by simp [opened]
  rw [State.input, inputs, ← State.input, dfeAtClose_input, begun_input]

theorem opened_lane (i : Fin 3) : (opened cause next s).lane i = (s.lane i).newInterval := by
  have sched : (dfeAtClose (beginInterval next (postClosed cause next s))).sched = s.sched := by simp
  have all : ∀ u : State, (schedAtClose u).lane i = (u.lane i).newInterval := fun u => by simp [schedAtClose, State.lane]
  rw [opened, all, State.lane, sched]
  rfl

theorem opened_substituted (i : Fin 3) : ((opened cause next s).dfeLane i).substituted = substitutionInForce (opened cause next s) i := by
  have inputs : (opened cause next s).inputs = (dfeAtClose (beginInterval next (postClosed cause next s))).inputs := by simp [opened]
  have lanes : (opened cause next s).dfeLanes = (dfeAtClose (beginInterval next (postClosed cause next s))).dfeLanes := by simp [opened]
  rw [substitutionInForce_congr inputs, State.dfeLane, lanes, ← State.dfeLane, dfeAtClose_substituted]

theorem opened_frame : (opened cause next s).plans = s.plans ∧ (opened cause next s).rate = s.rate ∧ (opened cause next s).meter = s.meter ∧
    (opened cause next s).records = s.records ∧ (opened cause next s).limits = s.limits ∧ (opened cause next s).locked = s.locked := by
  simp [opened]

theorem postClosed_eq : postClosed cause next s = s.postEach ((if cause = .freeRun then [(.markMissed, 0, next)] else []) ++
    [(.intervalClosed, 0, cause.code * 256 + s.mode.code)]) := by cases cause <;> rfl

theorem closePosts_eq : closePosts cause next s = (beginInterval next (postClosed cause next s)).postEach
    ((allInputs.filter fun d => chatterEnds (s.input d)).map fun d => (.detRecovered, d.val + 1, 2 * 256 + 1)) := by
  rw [postClosed_eq]
  rfl

theorem opened_events : (opened cause next s).events = (closePosts cause next s).events ∧
    (opened cause next s).counter = (closePosts cause next s).counter := by
  have posted := posted_dfeAtClose (beginInterval next (postClosed cause next s))
  simp only [begun_input] at posted
  rw [closePosts_eq]
  exact ⟨(show (opened cause next s).events = _ by simp [opened]).trans posted.1, by simp [opened, postEach_counter]⟩

end Opened

end Sys2Proof.Computation
end

section
/-! The statements about closes: the record and what the close leaves (O46), feedback, queue floor and automatic activation
(O47). -/

namespace Sys2Proof.Intervals
open Sys2Proof.Machine Sys2Proof.Steps Sys2Proof.Steady Sys2Proof.Transitions Sys2Proof.LaneLaws Sys2Proof.Inputs Sys2Proof.PlanChanges
open Sys2Proof.Postings Sys2Proof.Holders Sys2Proof.Releases Sys2Proof.Closes Sys2Proof.Marks Sys2Proof.Computation

/-! ### What the blocks leave -/

section Blocks
variable (cause : Cause) (next : Nat) (s : State)

theorem blocks_input (d : Fin 16) : (blocksAtClose cause next s).input d = closedInput (s.input d) := by
  have inputs : (blocksAtClose cause next s).inputs = (opened cause next s).inputs := by simp [blocksAtClose_eq]
  rw [State.input, inputs, ← State.input, opened_input]

theorem blocks_counts (i : Fin 3) : ((blocksAtClose cause next s).lane i).releases = 0 ∧
    ((blocksAtClose cause next s).lane i).extras = 0 ∧ ((blocksAtClose cause next s).lane i).violations = 0 := by
  have kept := ((planAtClose_keeps (opened cause next s)).counts.trans
    (keepsCounts_rateAtClose (detEntries s s.counter.elapsed) _)).trans
    (.of_sched (runsAtClose_lane (stationOf (detEntries s s.counter.elapsed)) _).1)
  obtain ⟨releases, extras, violations⟩ := kept i
  rw [blocksAtClose_eq, releases, extras, violations, opened_lane]
  exact ⟨rfl, rfl, rfl⟩

theorem blocks_substituted (i : Fin 3) : ((blocksAtClose cause next s).dfeLane i).substituted =
    substitutionInForce (blocksAtClose cause next s) i := by
  have inputs : (blocksAtClose cause next s).inputs = (opened cause next s).inputs := by simp [blocksAtClose_eq]
  have lanes : (blocksAtClose cause next s).dfeLanes = (opened cause next s).dfeLanes := by simp [blocksAtClose_eq]
  rw [substitutionInForce_congr inputs, State.dfeLane, lanes, ← State.dfeLane, opened_substituted]

theorem blocks_plans : (blocksAtClose cause next s).plans = (planAtClose (opened cause next s)).plans := by simp [blocksAtClose_eq]

theorem blocks_posts : Posts (planAtClose (opened cause next s)) (blocksAtClose cause next s) := by
  rw [blocksAtClose_eq]
  generalize planAtClose (opened cause next s) = u
  have runs : ∀ v, Posts v (runsAtClose (stationOf (detEntries s s.counter.elapsed)) v) := fun v => .of_events (by simp)
  exact (posts_rateAtClose _ u).trans (runs _)

/-- A pending slot is applied with its event, or the plans stay (R139). -/
theorem blocks_applied :
    EventsContinue (closePosts cause next s) (blocksAtClose cause next s) ∧
    (∀ k, s.plans.pendingSlot = some k → Applies s k →
      (blocksAtClose cause next s).plans =
        { s.plans with plan := some (s.slot k).image, active := some k, pendingSlot := none } ∧
      EventsContinue ((closePosts cause next s).post .planApplied (k.val + 1) (word16At (s.slot k).image 2))
        (blocksAtClose cause next s)) ∧
    ((∀ k, s.plans.pendingSlot = some k → ¬ Applies s k) → (blocksAtClose cause next s).plans = s.plans) := by
  obtain ⟨events, counter⟩ := opened_events cause next s
  obtain ⟨plans, -, meter, -⟩ := opened_frame cause next s
  have slot : ∀ k, (opened cause next s).slot k = s.slot k := fun k => by rw [State.slot, plans]; rfl
  have applies : ∀ k, Applies (opened cause next s) k ↔ Applies s k := fun k => by
    rw [Applies, Applies, plans, slot, State.mode, meter, ← State.mode]
  obtain ⟨applied, stays⟩ := planAtClose_plans (opened cause next s)
  have rest := blocks_posts cause next s
  rw [blocks_plans]
  rw [plans] at applied stays
  refine ⟨?_, fun k pending here => ?_, fun none => ?_⟩
  · have all := ((planAtClose_keeps (opened cause next s)).posts.trans rest).continue
    exact fun l => by rw [← events]; exact all l
  · obtain ⟨is, posts⟩ := applied k pending ((applies k).mpr here)
    rw [slot] at is posts
    refine ⟨is, fun l => ?_⟩
    have same := postEach_events events counter [(.planApplied, k.val + 1, word16At (s.slot k).image 2)]
    have all := (posts.trans rest).continue l
    rw [show ((opened cause next s).post .planApplied (k.val + 1) (word16At (s.slot k).image 2)).events =
      ((closePosts cause next s).post .planApplied (k.val + 1) (word16At (s.slot k).image 2)).events from same] at all
    exact all
  · rw [stays fun k pending here => none k pending ((applies k).mp here), plans]

theorem blocks_frame : (blocksAtClose cause next s).records = s.records ∧ (blocksAtClose cause next s).limits = s.limits ∧
    (blocksAtClose cause next s).locked = s.locked ∧ (blocksAtClose cause next s).meter.requests = s.meter.requests ∧
    (blocksAtClose cause next s).rate.orders = s.rate.orders := by
  obtain ⟨-, -, -, records, limits, locked⟩ := opened_frame cause next s
  have kept := keeps_blocksAtClose cause next s
  exact ⟨by simp [blocksAtClose_eq, records], by simp [blocksAtClose_eq, limits], by simp [blocksAtClose_eq, locked], kept.requests,
    kept.orders⟩

end Blocks

/-! ### The record -/

theorem detEntries_eq (s : State) (duration : Nat) :
    detEntries s duration = (allInputs.filter fun d => (s.input d).entry.role != .unused).map (fun d =>
      (⟨d, (s.input d).entry.role, (s.input d).volume, occupancy (s.input d).onTime duration,
        if (s.input d).seen then
          match (s.input d).entry.faultMode with
          | .ignore => .ok
          | .warn => .warn
          | .exclude => .excluded
        else .ok⟩ : DetEntry)) := by
  refine List.map_congr_left fun d mem => ?_
  have mapped : (!((s.input d).entry.role == .unused)) = true := (List.mem_filter.mp mem).2
  have health : (s.input d).health = if (s.input d).seen then
      match (s.input d).entry.faultMode with
      | .ignore => .ok
      | .warn => .warn
      | .exclude => .excluded
    else .ok := by
    unfold Input.health
    rw [mapped, Bool.and_true] <;> rfl
  rw [detEntry, health]

theorem stationOf_eq (dets : List DetEntry) :
    stationOf dets = (let usable := (dets.filter fun e => e.role == .downstream && e.health != .excluded).map DetEntry.occupancy
      if usable = [] then none else some ((2 * usable.sum + usable.length) / (2 * usable.length))) := by
  have usable : (dets.filter fun e => e.role == .downstream && e.health != .excluded) =
      dets.filter fun e => e.role == .downstream && !(e.health == .excluded) := rfl
  unfold stationOf stationOccupancy
  rw [usable]
  dsimp only
  generalize (dets.filter fun e => e.role == .downstream && !(e.health == .excluded)).map DetEntry.occupancy = l
  cases l <;> simp [roundHalfUp]

/-! ### The commands that close an interval -/

/-- The state after a close from one in which no record waits. -/
def closed (cause : Cause) (next : Nat) (s : State) : State :=
  putWaiting (closeWaiting cause next s (blocksAtClose cause next s)) (blocksAtClose cause next s)

theorem closeInterval_closed {s : State} (cause : Cause) (next : Nat) (none : s.counter.waiting = none) :
    closeInterval cause next s = closed cause next s := by
  have placed : placeWaiting s = s := by simp [placeWaiting, none]
  rw [closeInterval_eq, placed, closed]

theorem judgeLines_links (s : State) : ∃ y, s.judgeLines = { s with links := y } := ⟨_, rfl⟩

theorem received_links (l : LinkId) (ka : Bool) (s : State) : ∃ x, received l ka s = { s with links := x } := ⟨_, rfl⟩

theorem answered_links (l : LinkId) (kind tag : Byte) (status : Status) (p : List Byte) (s : State) :
    ∃ y, answered l kind tag status p s = { s with links := y } := ⟨_, rfl⟩

/-- A command that closes the interval closes it in a state whose links alone may differ, and changes links alone after. -/
theorem closes_run {c : Instr} {cause : Cause} {next : Nat} {s : State} (closes : ClosesInterval c cause next s)
    (none : s.counter.waiting = none) :
    ∃ x y, exec c s = .next { closed cause next { s with links := x } with links := y } := by
  obtain ⟨rfl, rfl, rfl, off, due⟩ | ⟨rfl, rfl, rfl, on, due⟩ | ⟨⟨tag, rfl⟩, fits, rfl, steady, on, reached⟩ := closes
  · have run := (exec_expiry_closes s).1 off due
    rw [closeInterval_closed .timed _ none] at run
    obtain ⟨y, lines⟩ := judgeLines_links (closed .timed (nextNumber s) s)
    rw [lines] at run
    exact ⟨s.links, y, run⟩
  · have run := (exec_expiry_closes s).2 on due
    rw [closeInterval_closed .freeRun _ none] at run
    obtain ⟨y, lines⟩ := judgeLines_links (closed .freeRun (nextNumber s) s)
    rw [lines] at run
    exact ⟨s.links, y, run⟩
  · have run := exec_mark_closes tag steady fits on reached
    obtain ⟨x, heard⟩ := received_links .C false s
    rw [heard, closeInterval_closed (s := { s with links := x }) .mark next none] at run
    obtain ⟨y, reply⟩ := answered_links .C 0x30 tag .accepted (0 :: be16 next) (closed .mark next { s with links := x })
    rw [reply] at run
    exact ⟨x, y, run⟩

theorem closePosts_links (cause : Cause) (next : Nat) (s : State) (x : PerLink LinkInterface) :
    (closePosts cause next { s with links := x }).events = (closePosts cause next s).events ∧
      (closePosts cause next { s with links := x }).counter = (closePosts cause next s).counter := by
  have first := fun es => postEach_events (s := s) (t := { s with links := x }) rfl rfl es
  unfold closePosts
  dsimp only
  refine ⟨postEach_events ?_ ?_ _, ?_⟩
  · exact first _
  · rw [postEach_counter, postEach_counter]
  · simp only [postEach_counter]

/-- Settles O46: the record, the inputs, the lanes and the plans after a close, and the expiries before their time. -/
theorem expiriesCloseTheInterval : Obligations.ExpiriesCloseTheInterval := by
  unfold Obligations.ExpiriesCloseTheInterval
  refine ⟨fun c cause next s closes none => ?_, fun s => ⟨fun early => ?_, fun early => ?_⟩⟩
  · obtain ⟨x, y, run⟩ := closes_run closes none
    have counter := blocksAtClose_counter cause next { s with links := x }
    have input := blocks_input cause next { s with links := x }
    have lane := blocks_counts cause next { s with links := x }
    have marks := blocks_substituted cause next { s with links := x }
    obtain ⟨events, applied, stays⟩ := blocks_applied cause next { s with links := x }
    obtain ⟨records, limits, locked, requests, orders⟩ := blocks_frame cause next { s with links := x }
    obtain ⟨posts, reading⟩ := closePosts_links cause next s x
    rw [closed] at run
    generalize blocksAtClose cause next { s with links := x } = t at *
    have tinput : ∀ d, t.input d = closedInput (s.input d) := input
    refine ⟨_, _, run, congrArg Counter.number counter, congrArg Counter.elapsed counter, rfl, rfl, rfl, rfl, rfl, rfl, rfl, rfl, rfl, rfl,
      rfl, detEntries_eq s s.counter.elapsed, stationOf_eq _, fun d => ?_, fun i => ?_, ⟨?_, fun k pending applies => ?_, stays⟩, records,
      limits, locked, requests, orders⟩
    · show (t.input d).volume = 0 ∧ _
      have fields := closedInput_fields (s.input d)
      rw [← tinput] at fields
      exact fields
    · exact ⟨(lane i).1, (lane i).2.1, (lane i).2.2, marks i⟩
    · exact fun l => by rw [← posts]; exact events l
    · obtain ⟨plans, more⟩ := applied k pending applies
      refine ⟨plans, fun l => ?_⟩
      have same := postEach_events posts reading [(.planApplied, k.val + 1, word16At (s.slot k).image 2)]
      rw [← show ((closePosts cause next { s with links := x }).post .planApplied (k.val + 1) (word16At (s.slot k).image 2)).events =
        ((closePosts cause next s).post .planApplied (k.val + 1) (word16At (s.slot k).image 2)).events from same]
      exact more l
  · rw [exec_event (c := .intervalTimedExpiry) rfl]
    have still : eventEffect .intervalTimedExpiry s = s := if_neg fun ⟨off, due⟩ => by
      obtain on | short := early
      · rw [off] at on
        cases on
      · exact absurd due (Nat.not_le.mpr short)
    rw [still]
  · rw [exec_event (c := .freeRunExpiry) rfl]
    have still : eventEffect .freeRunExpiry s = s := if_neg fun ⟨on, due⟩ => by
      obtain off | short := early
      · rw [off] at on
        cases on
      · exact absurd due (Nat.not_le.mpr short)
    rw [still]

end Sys2Proof.Intervals
end

section
/-! Feedback, queue floor and automatic activation at a close (O47). -/

namespace Sys2Proof.Feedback
open Sys2Proof.Machine Sys2Proof.Steps Sys2Proof.Steady Sys2Proof.Transitions Sys2Proof.LaneLaws Sys2Proof.Inputs Sys2Proof.PlanChanges
open Sys2Proof.Postings Sys2Proof.Holders Sys2Proof.Releases Sys2Proof.Closes Sys2Proof.Marks Sys2Proof.Computation Sys2Proof.Intervals
open Sys2Proof.LockLimits Sys2Proof.ModeSteps

/-! ### The rate computer as the plan store leaves it -/

section Planned
variable (cause : Cause) (next : Nat) (s : State)

/-- What the rate computer finds of the state that closed: its values, and the mode controller's runs. -/
theorem planned_facts : (planAtClose (opened cause next s)).rate.floorActive = s.rate.floorActive ∧
    (planAtClose (opened cause next s)).rate.rPrev = s.rate.rPrev ∧
    (planAtClose (opened cause next s)).rate.rFb = s.rate.rFb ∧ (planAtClose (opened cause next s)).rate.basis = s.rate.basis ∧
    (planAtClose (opened cause next s)).rate.inForce = s.rate.inForce ∧
    (planAtClose (opened cause next s)).rate.fallbackMark = s.rate.fallbackMark ∧
    engaged (planAtClose (opened cause next s)) = engaged s ∧
    (planAtClose (opened cause next s)).meter.resolved = s.meter.resolved ∧
    (planAtClose (opened cause next s)).meter.onRun = s.meter.onRun ∧
    (planAtClose (opened cause next s)).meter.offRun = s.meter.offRun ∧ (planAtClose (opened cause next s)).limits = s.limits := by
  obtain ⟨-, rate, meter, -, limits, -⟩ := opened_frame cause next s
  obtain ⟨-, on, ⟨-, resolved, onRun, offRun⟩, ⟨v, kept⟩, -⟩ := planAtClose_keeps (opened cause next s)
  rw [rate] at kept
  rw [kept, on, resolved, onRun, offRun, meter]
  exact ⟨rfl, rfl, rfl, rfl, rfl, rfl, by rw [engaged, engaged, State.mode, meter]; rfl, rfl, rfl, rfl, by simp [limits]⟩

end Planned

theorem rateAtClose_floor (dets : List DetEntry) (s : State) :
    (rateAtClose dets s).rate.floorActive = (judgedFloor s.plans.plan dets s.rate.floorActive).1 := by
  have floor : (floorAtClose dets s).rate.floorActive = (judgedFloor s.plans.plan dets s.rate.floorActive).1 := by rw [floorAtClose_rate]
  have fed : ∀ u : State, (feedbackAtClose (stationOf dets) u).rate.floorActive = u.rate.floorActive := fun u => by
    cases plan : u.plans.plan with
    | none => simp [feedbackAtClose, plan]
    | some p => rw [feedbackAtClose_rate _ plan]
  unfold rateAtClose
  dsimp only
  split
  · rw [(keepsFloor_runCombine false _).1, fed, floor]
  · exact floor

/-! ### Feedback -/

/-- The error step below and above the target, truncated toward zero (R45). -/
theorem errorStep_below {p : List Byte} {m q : Nat} (below : m ≤ planTarget p) (lo : 8 * q ≤ planGain p * (planTarget p - m))
    (hi : planGain p * (planTarget p - m) < 8 * (q + 1)) : errorStep p m = q := by
  have step : (planGain p : Int) * ((planTarget p : Int) - (m : Int)) = ((planGain p * (planTarget p - m) : Nat) : Int) := by
    rw [← Nat.cast_sub below, ← Nat.cast_mul]
  rw [errorStep, step]
  generalize planGain p * (planTarget p - m) = n at *
  rw [Int.tdiv_eq_ediv_of_nonneg (by omega)]
  omega

theorem errorStep_above {p : List Byte} {m q : Nat} (above : planTarget p ≤ m) (lo : 8 * q ≤ planGain p * (m - planTarget p))
    (hi : planGain p * (m - planTarget p) < 8 * (q + 1)) : errorStep p m = -(q : Int) := by
  have step : (planGain p : Int) * ((planTarget p : Int) - (m : Int)) = -((planGain p * (m - planTarget p) : Nat) : Int) := by
    rw [Nat.cast_mul, Nat.cast_sub above]
    ring
  rw [errorStep, step, Int.neg_tdiv]
  generalize planGain p * (m - planTarget p) = n at *
  rw [Int.tdiv_eq_ediv_of_nonneg (by omega)]
  omega

theorem feedbackValue_of_step {p : List Byte} {r m : Nat} {q : Int} (step : errorStep p m = q) :
    feedbackValue p r m = (max (planRMin p : Int) (min ((r : Int) + q) (planRMax p : Int))).toNat := by rw [feedbackValue, step]

theorem feedbackValue_bounds {p : List Byte} (r m : Nat) (range : planRMin p ≤ planRMax p) :
    planRMin p ≤ feedbackValue p r m ∧ feedbackValue p r m ≤ planRMax p := by
  unfold feedbackValue
  generalize errorStep p m = q
  omega

theorem feedback_laws {s : State} {p : List Byte} (plan : s.plans.plan = some p) :
    (∀ m : Nat, (feedbackAtClose (some m) s).rate.basis = .feedback ∧
      (feedbackAtClose (some m) s).rate.fallbackMark = false ∧ (feedbackAtClose (some m) s).events = s.events ∧
      (feedbackAtClose (some m) s).rate.rFb = feedbackValue p s.rate.rPrev m) ∧
    (feedbackAtClose none s).rate.rFb = planRFixed p ∧ (feedbackAtClose none s).rate.basis = .fixed ∧
    (feedbackAtClose none s).rate.fallbackMark = true ∧
    (s.rate.fallbackMark = true → (feedbackAtClose none s).events = s.events) ∧
    (s.rate.fallbackMark = false → (feedbackAtClose none s).events = (s.post .rateFallback 0 (planRFixed p)).events) := by
  have rate := feedbackAtClose_rate none plan
  refine ⟨fun m => ?_, congrArg RateComputer.rFb rate, congrArg RateComputer.basis rate, congrArg RateComputer.fallbackMark rate,
    fun mark => ?_, fun mark => ?_⟩
  · have posted := (posted_feedbackAtClose (some m) s).1
    rw [feedbackAtClose_rate (some m) plan]
    exact ⟨rfl, rfl, posted.trans (by simp [fallbackPosts, State.postEach]), rfl⟩
  · have posted := (posted_feedbackAtClose none s).1
    simpa [fallbackPosts, mark, State.postEach] using posted
  · have posted := (posted_feedbackAtClose none s).1
    simpa [fallbackPosts, mark, plan, State.postEach] using posted

/-! ### The queue floor -/

theorem foldl_max_le {l : List Nat} {a n : Nat} (start : a ≤ n) (all : ∀ x ∈ l, x ≤ n) : l.foldl max a ≤ n := by
  induction l generalizing a with
  | nil => exact start
  | cons x l ih => exact ih (max_le start (all x (List.mem_cons_self ..))) fun y mem => all y (List.mem_cons_of_mem _ mem)

theorem le_foldl_max {l : List Nat} {a n : Nat} (there : n ≤ a ∨ n ∈ l) : n ≤ l.foldl max a := by
  induction l generalizing a with
  | nil => exact there.resolve_right (by simp)
  | cons x l ih =>
    obtain start | mem := there
    · exact ih (.inl (le_max_of_le_left start))
    · obtain rfl | mem := List.mem_cons.mp mem
      · exact ih (.inl (le_max_right _ _))
      · exact ih (.inr mem)

theorem judgedFloor_laws (p : List Byte) (dets : List DetEntry) (old : Bool) :
    judgedFloor none dets old = (false, 65535) ∧
    (planQueueGroup p = false → judgedFloor (some p) dets old = (false, 65535)) ∧
    ((∀ e ∈ dets, e.role ≠ .queue) → judgedFloor (some p) dets old = (false, 65535)) ∧
    (planQueueGroup p = true → (∃ e ∈ dets, e.role = .queue) → (∀ e ∈ dets, e.role = .queue → e.health = .excluded) →
      judgedFloor (some p) dets old = (true, 65535)) ∧
    (∀ e ∈ dets, planQueueGroup p = true → e.role = .queue → e.health ≠ .excluded →
      (∀ f ∈ dets, f.role = .queue → f.health ≠ .excluded → f.occupancy ≤ e.occupancy) →
        judgedFloor (some p) dets old =
          (if planQOn p ≤ e.occupancy then true else if e.occupancy ≤ planQOff p then false else old, e.occupancy)) := by
  refine ⟨rfl, fun absent => ?_, fun none => ?_, fun group some excluded => ?_, fun e mem group queue usable greatest => ?_⟩
  · simp [judgedFloor, absent]
  · have empty : (dets.filter fun e => e.role == .queue) = [] := by simpa using none
    unfold judgedFloor
    simp only [empty]
    split <;> rfl
  · obtain ⟨e, mem, queue⟩ := some
    have here : (dets.filter fun e => e.role == .queue).isEmpty = false := by
      rw [List.isEmpty_eq_false_iff_exists_mem]
      exact ⟨e, List.mem_filter.mpr ⟨mem, by simp [queue]⟩⟩
    have left : ((dets.filter fun e => e.role == .queue).filter fun e => !(e.health == .excluded)) = [] := by
      rw [List.filter_filter]
      simpa using fun a mem live queue => live (excluded a mem queue)
    unfold judgedFloor
    simp [group, here, left]
  · have here : (dets.filter fun e => e.role == .queue).isEmpty = false := by
      rw [List.isEmpty_eq_false_iff_exists_mem]
      exact ⟨e, List.mem_filter.mpr ⟨mem, by simp [queue]⟩⟩
    have mine : e ∈ (dets.filter fun e => e.role == .queue).filter fun e => !(e.health == .excluded) := by
      simp [mem, queue, usable]
    have left : ((dets.filter fun e => e.role == .queue).filter fun e => !(e.health == .excluded)).isEmpty = false := by
      rw [List.isEmpty_eq_false_iff_exists_mem]
      exact ⟨e, mine⟩
    have top : ((((dets.filter fun e => e.role == .queue).filter fun e => !(e.health == .excluded)).map DetEntry.occupancy).foldl max 0) =
        e.occupancy := by
      refine le_antisymm (foldl_max_le (Nat.zero_le _) ?_) (le_foldl_max (.inr (List.mem_map_of_mem mine)))
      simp only [List.mem_map, List.mem_filter, forall_exists_index, and_imp]
      rintro x f memf role live rfl
      exact greatest f memf (by simpa using role) (by simpa using live)
    unfold judgedFloor
    simp only [group, here, left, top]
    by_cases on : planQOn p ≤ e.occupancy
    · simp [on]
    · by_cases off : e.occupancy ≤ planQOff p <;> simp [on, off]

/-! ### The obligation -/

theorem hasActivation_congr {s t : State} (plan : t.plans.plan = s.plans.plan) : hasActivation t = hasActivation s := by
  simp only [hasActivation, plan]

/-- What the rate computer and the mode controller have made of a close. -/
structure Computed (cause : Cause) (next : Nat) (s t : State) (dets : List DetEntry) : Prop where
  floor : t.rate.floorActive = (judgedFloor t.plans.plan dets s.rate.floorActive).1
  events : s.plans.pendingSlot = none → t.events = (((closePosts cause next s).postEach
    (if (judgedFloor t.plans.plan dets s.rate.floorActive).1 = s.rate.floorActive then []
      else [(if (judgedFloor t.plans.plan dets s.rate.floorActive).1 then .queueFloorOn else .queueFloorOff, 0,
        (judgedFloor t.plans.plan dets s.rate.floorActive).2)])).postEach
    (if engaged s = true ∧ stationOf dets = none ∧ s.rate.fallbackMark = false then
      (s.plans.plan.map fun p => (.rateFallback, 0, planRFixed p)).toList else [])).events
  fed : ∀ p, engaged s = true → t.plans.plan = some p →
    t.rate.rFb = (feedbackAtClose (stationOf dets) { s with plans := t.plans }).rate.rFb ∧
      t.rate.basis = (feedbackAtClose (stationOf dets) { s with plans := t.plans }).rate.basis ∧
      t.rate.fallbackMark = (feedbackAtClose (stationOf dets) { s with plans := t.plans }).rate.fallbackMark
  combined : ∀ p, engaged s = true → t.plans.plan = some p →
    t.rate.inForce = some (combineOut t.rate s.limits p (workingLanes t).length) ∧
      t.rate.rPrev = (combineOut t.rate s.limits p (workingLanes t).length).rate ∧
      (s.rate.inForce.map RateOut.headway ≠ some (combineOut t.rate s.limits p (workingLanes t).length).headway →
        t.sched.headway = (combineOut t.rate s.limits p (workingLanes t).length).headway)
  idle : engaged s = false → t.rate.rFb = s.rate.rFb ∧ t.rate.basis = s.rate.basis ∧ t.rate.inForce = s.rate.inForce ∧
    t.rate.rPrev = s.rate.rPrev ∧ t.rate.fallbackMark = s.rate.fallbackMark
  runs : ∀ p m, s.meter.resolved = .auto → t.plans.plan = some p → planActivationGroup p = true → stationOf dets = some m →
    t.meter.onRun = (if planOnThr p ≤ m then min (s.meter.onRun + 1) 10 else 0) ∧
      t.meter.offRun = (if m ≤ planOffThr p then min (s.meter.offRun + 1) 10 else 0)
  zero : s.meter.resolved ≠ .auto ∨ hasActivation t = false ∨ stationOf dets = none → t.meter.onRun = 0 ∧ t.meter.offRun = 0
  resolved : t.meter.resolved = s.meter.resolved

theorem posted_blocks {s : State} (cause : Cause) (next : Nat) (waits : s.plans.pendingSlot = none) :
    (blocksAtClose cause next s).events = (((closePosts cause next s).postEach
      (floorPosts (detEntries s s.counter.elapsed) (opened cause next s))).postEach
      (if engaged s = true then fallbackPosts (stationOf (detEntries s s.counter.elapsed)) (opened cause next s) else [])).events := by
  obtain ⟨plans, -, meter, -⟩ := opened_frame cause next s
  obtain ⟨events, counter⟩ := opened_events cause next s
  have same : planAtClose (opened cause next s) = opened cause next s := planAtClose_none (by rw [plans]; exact waits)
  have on : engaged (opened cause next s) = engaged s := by rw [engaged, engaged, State.mode, meter]; rfl
  have posted := (posted_rateAtClose (detEntries s s.counter.elapsed) (opened cause next s)).1
  rw [on, postEach_append] at posted
  rw [blocksAtClose_eq, same, (runsAtClose_lane _ _).2.2, posted]
  exact postEach_events (postEach_events events counter _) (by rw [postEach_counter, postEach_counter, counter]) _

theorem computed_blocks (cause : Cause) (next : Nat) (s : State) :
    Computed cause next s (blocksAtClose cause next s) (detEntries s s.counter.elapsed) := by
  obtain ⟨floorActive, rPrev, rFb, basis, inForce, mark, on, resolved, onRun, offRun, limits⟩ := planned_facts cause next s
  have posted := posted_blocks (s := s) cause next
  obtain ⟨openedPlans, openedRate, -⟩ := opened_frame cause next s
  have plans := blocks_plans cause next s
  rw [blocksAtClose_eq] at posted plans ⊢
  generalize detEntries s s.counter.elapsed = dets at *
  have quiet : s.plans.pendingSlot = none → planAtClose (opened cause next s) = opened cause next s := fun waits =>
    planAtClose_none (by rw [openedPlans]; exact waits)
  have floorEvents : floorPosts dets (opened cause next s) = (let j := judgedFloor s.plans.plan dets s.rate.floorActive
      if j.1 = s.rate.floorActive then [] else [(if j.1 then .queueFloorOn else .queueFloorOff, 0, j.2)]) := by
    rw [floorPosts, openedPlans, openedRate]
  have fallEvents : fallbackPosts (stationOf dets) (opened cause next s) = if stationOf dets = none ∧ s.rate.fallbackMark = false then
      (s.plans.plan.map fun p => (.rateFallback, 0, planRFixed p)).toList else [] := by
    rw [fallbackPosts, openedPlans, openedRate]
  have still : s.plans.pendingSlot = none → (planAtClose (opened cause next s)).plans = s.plans := fun waits => by
    rw [quiet waits, openedPlans]
  rw [floorEvents, fallEvents] at posted
  clear floorEvents fallEvents quiet openedPlans openedRate
  generalize planAtClose (opened cause next s) = u at *
  obtain ⟨sched, rate, -⟩ := runsAtClose_lane (stationOf dets) (rateAtClose dets u)
  obtain ⟨counted, zero⟩ := runsAtClose_runs (stationOf dets) (rateAtClose dets u)
  have resolved' := runsAtClose_resolved (stationOf dets) (rateAtClose dets u)
  have vmeter : (rateAtClose dets u).meter = u.meter := by simp
  have vplans : (rateAtClose dets u).plans = u.plans := by simp
  have lanes : workingLanes (runsAtClose (stationOf dets) (rateAtClose dets u)) = workingLanes (rateAtClose dets u) :=
    workingLanes_of_lanes (by rw [plans, vplans]) fun j => by rw [State.lane, sched]; rfl
  have floor := rateAtClose_floor dets u
  have disengaged := rateAtClose_disengaged (dets := dets) (s := u)
  have engages := fun p => rateAtClose_rate (dets := dets) (s := u) (p := p)
  generalize rateAtClose dets u = v at *
  generalize runsAtClose (stationOf dets) v = t at *
  rw [vmeter] at counted zero resolved'
  rw [onRun, offRun, resolved, vplans, ← plans] at counted
  rw [resolved, hasActivation_congr (s := t) (by rw [vplans, plans])] at zero
  refine ⟨?_, fun waits => ?_, fun p eng plan => ?_, fun p eng plan => ?_, fun off => ?_, counted, zero, resolved'.trans resolved⟩
  · rw [rate, floor, plans, floorActive]
  · rw [posted waits, plans, still waits]
    by_cases eng : engaged s = true <;> simp [eng]
  · obtain ⟨⟨r, b, m⟩, -⟩ := engages p (by rw [on]; exact eng) (by rw [← plans]; exact plan)
    have mine := feedbackAtClose_rate (stationOf dets) (s := { s with plans := t.plans }) plan
    have planned := feedbackAtClose_rate (stationOf dets) (s := u) (by rw [← plans]; exact plan)
    rw [rate, r, b, m, mine, planned, rPrev]
    exact ⟨rfl, rfl, rfl⟩
  · obtain ⟨-, -, force, prev, headway⟩ := engages p (by rw [on]; exact eng) (by rw [← plans]; exact plan)
    rw [lanes, rate, ← limits, sched, ← inForce]
    exact ⟨force, prev, headway⟩
  · have only := disengaged (by rw [on]; exact off)
    rw [rate, only, floorAtClose_rate]
    exact ⟨rFb, basis, inForce, rPrev, mark⟩

/-- Settles O47: the rate computer and the mode controller at a close, the feedback step and the judged floor. -/
theorem feedbackAndQueueFloorAtAClose : Obligations.FeedbackAndQueueFloorAtAClose := by
  unfold Obligations.FeedbackAndQueueFloorAtAClose
  refine ⟨fun c cause next s closes none => ?_, fun s p plan => ?_, judgedFloor_laws⟩
  · obtain ⟨x, y, run⟩ := closes_run closes none
    have computed := computed_blocks cause next { s with links := x }
    obtain ⟨posts, reading⟩ := closePosts_links cause next s x
    rw [closed] at run
    generalize blocksAtClose cause next { s with links := x } = t at *
    obtain ⟨floor, events, fed, combined, idle, runs, zero, resolved⟩ := computed
    refine ⟨_, _, run, rfl, ⟨floor, fun waits => ?_⟩, fun p on plan => ⟨?_, combined p on plan⟩, idle, runs, zero, ?_, ?_⟩
    · refine (events waits).trans ?_
      exact postEach_events (postEach_events posts reading _) (by rw [postEach_counter, postEach_counter, reading]) _
    · have planned := feedbackAtClose_rate (stationOf (detEntries s s.counter.elapsed)) (s := { s with plans := t.plans }) plan
      have linked := feedbackAtClose_rate (stationOf (detEntries s s.counter.elapsed)) (s := { s with plans := t.plans, links := x }) plan
      have same : (feedbackAtClose (stationOf (detEntries s s.counter.elapsed)) { s with plans := t.plans, links := x }).rate =
          (feedbackAtClose (stationOf (detEntries s s.counter.elapsed)) { s with plans := t.plans }).rate := linked.trans planned.symm
      obtain ⟨r, b, m⟩ := fed p on plan
      exact ⟨r.trans (congrArg RateComputer.rFb same), b.trans (congrArg RateComputer.basis same),
        m.trans (congrArg RateComputer.fallbackMark same)⟩
    · refine (autoStartTest_iff s.mode t).trans ?_
      rw [resolved]
      rfl
    · refine (autoStopTest_iff s.mode t).trans ?_
      rw [resolved]
      rfl
  · obtain ⟨some, none⟩ := feedback_laws plan
    refine ⟨fun m => ?_, none⟩
    obtain ⟨basis, mark, events, value⟩ := some m
    refine ⟨basis, mark, events, fun range => ?_, fun q below lo hi => ?_, fun q above lo hi => ?_⟩ <;> rw [value]
    · exact feedbackValue_bounds _ m range
    · rw [feedbackValue_of_step (errorStep_below below lo hi)]
      omega
    · rw [feedbackValue_of_step (errorStep_above above lo hi)]
      omega

end Sys2Proof.Feedback
end

section
/-! RECORD_PLACED: the record queues, and the start or stop that a close decided (O48). -/

namespace Sys2Proof.Placing
open Sys2Proof.Machine Sys2Proof.Steps Sys2Proof.Steady Sys2Proof.Transitions Sys2Proof.LaneLaws Sys2Proof.Holders
open Sys2Proof.ModeSteps Sys2Proof.Activations

theorem judgeWish_neither {s : State} (neither : wanted s = .neither) : judgeWish s = s := by simp [judgeWish, neither]

theorem wanted_auto {s : State} (auto : s.meter.resolved = .auto) (group : hasActivation s = true) : wanted s = .neither := by
  simp [wanted, auto, group]

theorem exec_recordPlaced {s : State} {w : Waiting} (waits : s.counter.waiting = some w) :
    exec .recordPlaced s = .next (judgeWish (actOnAuto w (placeRecord w.record s))).judgeLines := by
  rw [exec_event (c := .recordPlaced) rfl]
  have effect : eventEffect .recordPlaced s = judgeWish (actOnAuto w (placeRecord w.record s)) := by simp [eventEffect, placeWaiting, waits]
  rw [effect]

/-- A queue below its depth grows by the record; a full one loses its oldest (R37). -/
theorem enqueueRecord_cases {depth : Nat} {q : List IntervalRecord} (r : IntervalRecord) :
    (q.length < depth → enqueueRecord depth q r = q ++ [r]) ∧ (q.length = depth → enqueueRecord depth q r = q.tail ++ [r]) := by
  refine ⟨fun room => ?_, fun full => ?_⟩
  · rw [enqueueRecord, Nat.sub_eq_zero_of_le (by omega), List.drop_zero]
  · rw [enqueueRecord, show q.length + 1 - depth = 1 by omega, List.drop_one]

theorem placeRecord_records (r : IntervalRecord) (s : State) (l : LinkId) :
    (placeRecord r s).records.get l = enqueueRecord (s.link l).depth (s.records.get l) r := by cases l <;> rfl

theorem actOnAuto_undecided {w : Waiting} {s : State} (start : w.autoStart = false) (stop : w.autoStop = false) : actOnAuto w s = s := by
  simp [actOnAuto, start, stop]

section Auto
variable {w : Waiting} {s : State} (auto : s.meter.resolved = .auto) (group : hasActivation s = true)
include auto group

theorem actOnAuto_start (start : w.autoStart = true) (dark : s.mode = .dark) :
    actOnAuto w s = if startConditions s = true then startMeter .autoStart s else s := by
  simp [actOnAuto, auto, group, start, tryStart, dark]

theorem actOnAuto_stop (start : w.autoStart = false) (stop : w.autoStop = true) (mode : s.mode = .metering ∨ s.mode = .hold) :
    actOnAuto w s = shutdown .autoStop s := by
  obtain m | m := mode <;> simp [actOnAuto, auto, group, start, stop, m]

end Auto

theorem hasActivation_of_plan {s : State} {p : List Byte} (plan : s.plans.plan = some p) (group : planActivationGroup p = true) :
    hasActivation s = true := by simp [hasActivation, plan, group]

/-- An automatic start that the close decided, from DARK (R93, R94). -/
theorem placed_start {w : Waiting} {p : List Byte} {s : State} (auto : s.meter.resolved = .auto) (plan : s.plans.plan = some p)
    (group : planActivationGroup p = true) (start : w.autoStart = true) (dark : s.mode = .dark) :
    let starts := s.locked = true ∧ (∃ k, s.plans.active = some k ∧ (s.slot k).status = .valid) ∧
      ∃ i, planEnables p i = true ∧ (s.lane i).state ≠ .faulted
    let t := judgeWish (actOnAuto w s)
    (starts → t.mode = .startup ∧ t.meter.phase = .rest ∧ t.meter.seqTimer = planStartupGreen p * 100 ∧ t.meter.beacon = true ∧
        t.events = (s.post .modeChange 0 (1 * 256 + 2)).events) ∧
      (¬ starts → t = s) := by
  have active := hasActivation_of_plan plan group
  have conditions := startConditions_iff s
  simp only [working_iff plan] at conditions
  dsimp only
  rw [actOnAuto_start auto active start dark]
  refine ⟨fun starts => ?_, fun fails => ?_⟩
  · have wish : wanted (startMeter .autoStart s) = .neither := by
      rw [wanted_congr (s := s) (by rw [startMeter_meter]) (by simp), wanted_auto auto active]
    rw [if_pos (conditions.mpr starts), judgeWish_neither wish]
    refine ⟨?_, ?_, ?_, ?_, (posted_startMeter .autoStart s).1⟩
    · rw [State.mode, startMeter_meter]
    · rw [startMeter_meter]
    · rw [startMeter_meter]
      simp [planSeconds, plan]
    · rw [startMeter_meter]
  · rw [if_neg fun h => fails (conditions.mp h), judgeWish_neither (wanted_auto auto active)]

/-- An automatic stop that the close decided, from METERING or HOLD (R93, R97). -/
theorem placed_stop {w : Waiting} {p : List Byte} {s : State} (auto : s.meter.resolved = .auto) (plan : s.plans.plan = some p)
    (group : planActivationGroup p = true) (start : w.autoStart = false) (stop : w.autoStop = true)
    (mode : s.mode = .metering ∨ s.mode = .hold) :
    let t := judgeWish (actOnAuto w s)
    t.mode = .shutdown ∧ t.meter.beacon = false ∧ t.meter.hold = none ∧ t.rate.inForce = none ∧ t.sched.ring = [] ∧
      t.events = (s.post .modeChange 0 (4 * 256 + 4)).events := by
  have active := hasActivation_of_plan plan group
  have kept := keepsWish_shutdown .autoStop s
  have wish : wanted (shutdown .autoStop s) = .neither := by
    rw [wanted_congr (s := s) kept.resolved (by simp), wanted_auto auto active]
  obtain ⟨tmode, beacon, hold, -⟩ := shutdown_meter .autoStop s
  obtain ⟨rate, ring, -⟩ := shutdown_rate .autoStop s
  dsimp only
  rw [actOnAuto_stop auto active start stop mode, judgeWish_neither wish]
  exact ⟨tmode, beacon, hold, by rw [rate], ring, (posted_shutdown .autoStop s).1⟩

/-- Settles O48: the placing first, then what the close decided. -/
theorem recordPlacedAppendsToBothQueues : Obligations.RecordPlacedAppendsToBothQueues := by
  unfold Obligations.RecordPlacedAppendsToBothQueues
  refine ⟨fun s => ⟨fun w waits _ => ?_, fun none => ?_⟩, fun w p s waits auto plan group => ⟨fun start dark => ?_,
    fun start stop mode => ?_⟩⟩
  · have run := exec_recordPlaced waits
    have counter : (judgeWish (actOnAuto w (placeRecord w.record s))).counter = { s.counter with waiting := none } := by simp [placeRecord]
    have records : (judgeWish (actOnAuto w (placeRecord w.record s))).records = (placeRecord w.record s).records := by simp
    have blocks : (judgeWish (actOnAuto w (placeRecord w.record s))).plans = s.plans ∧
        (judgeWish (actOnAuto w (placeRecord w.record s))).limits = s.limits ∧
        (judgeWish (actOnAuto w (placeRecord w.record s))).inputs = s.inputs := by simp
    have still : w.autoStart = false → w.autoStop = false → wanted s = .neither →
        judgeWish (actOnAuto w (placeRecord w.record s)) = placeRecord w.record s := fun start stop wish => by
      rw [actOnAuto_undecided start stop, judgeWish_neither ((wanted_congr (by simp) (by simp)).trans wish)]
    generalize judgeWish (actOnAuto w (placeRecord w.record s)) = t at *
    refine ⟨_, run, counter, fun l => ?_, fun start stop wish => ?_, blocks.1, blocks.2.1, blocks.2.2⟩
    · rw [show t.judgeLines.records = t.records from rfl, records, placeRecord_records]
      exact enqueueRecord_cases w.record
    · rw [still start stop wish]
      exact ⟨rfl, rfl, rfl, rfl, rfl⟩
  · rw [exec_event (c := .recordPlaced) rfl]
    have still : eventEffect .recordPlaced s = s := by simp [eventEffect, placeWaiting, none]
    rw [still]
  · obtain ⟨starts, fails⟩ := placed_start (w := w) (s := placeRecord w.record s) auto plan group start dark
    have run := exec_recordPlaced waits
    generalize judgeWish (actOnAuto w (placeRecord w.record s)) = t at *
    refine ⟨_, run, starts, fun out => ?_⟩
    rw [fails out]
    exact ⟨rfl, rfl, rfl, rfl⟩
  · have stops := placed_stop (w := w) (s := placeRecord w.record s) auto plan group start stop mode
    have run := exec_recordPlaced waits
    generalize judgeWish (actOnAuto w (placeRecord w.record s)) = t at *
    exact ⟨_, run, stops⟩

end Sys2Proof.Placing
end

section
/-! Faults and conditioned edges: what they make of the input, of the other inputs and of the demand of the lanes. -/

namespace Sys2Proof.Edges
open Sys2Proof.Machine Sys2Proof.Steps Sys2Proof.Transitions Sys2Proof.LaneLaws Sys2Proof.Inputs Sys2Proof.Releases Sys2Proof.PlanChanges
open Sys2Proof.Postings Sys2Proof.Cycle

/-! ### Demand and substitution -/

theorem demandInput_spec {s : State} {i : Fin 3} {d : Fin 16} (h : demandInput s i = some d) :
    (s.input d).entry.role = .demand ∧ (s.input d).entry.lane = some i := by
  have is := List.find?_some h
  simpa [Input.isDemandOf] using is

theorem substitutionInForce_of_demand {s : State} {i : Fin 3} {d : Fin 16} (h : demandInput s i = some d) :
    substitutionInForce s i = (s.input d).substitutes := by simp [substitutionInForce, h]

theorem hasDemand_of_demand {s : State} {i : Fin 3} {d : Fin 16} (h : demandInput s i = some d) :
    hasDemand s i = ((s.input d).cond || substitutionInForce s i) := by
  rw [substitutionInForce_of_demand h]
  simp [hasDemand, h]

theorem substitutes_iff (x : Input) : x.substitutes = true ↔ x.entry.faultMode ≠ .ignore ∧
    (x.faultOff = true ∨ x.faultStuck = true ∨ x.faultChatter = true ∧ x.entry.faultMode = .exclude) := by
  cases mode : x.entry.faultMode <;> simp [Input.substitutes, mode, or_assoc]

/-! ### What a fault leaves of an input -/

/-- What faults leave of an input: its signal, its counts and its entry. -/
def KeepsSignal (x y : Input) : Prop := y.cond = x.cond ∧ y.raw = x.raw ∧ y.filter = x.filter ∧ y.stuck = x.stuck ∧
  y.volume = x.volume ∧ y.chatter = x.chatter ∧ y.entry = x.entry ∧ y.onTime = x.onTime

theorem KeepsSignal.refl (x : Input) : KeepsSignal x x := ⟨rfl, rfl, rfl, rfl, rfl, rfl, rfl, rfl⟩

theorem KeepsSignal.trans {x y z : Input} (h : KeepsSignal x y) (g : KeepsSignal y z) : KeepsSignal x z := by
  obtain ⟨h1, h2, h3, h4, h5, h6, h7, h8⟩ := h
  obtain ⟨g1, g2, g3, g4, g5, g6, g7, g8⟩ := g
  exact ⟨g1.trans h1, g2.trans h2, g3.trans h3, g4.trans h4, g5.trans h5, g6.trans h6, g7.trans h7, g8.trans h8⟩

/-- An input with a fault raised. -/
def raisedFault (k : FaultKind) (x : Input) : Input := ({ x.setFault k true with seen := true }).alignRun

theorem keepsSignal_raisedFault (k : FaultKind) (x : Input) : KeepsSignal x (raisedFault k x) := by
  cases k <;> exact ⟨rfl, rfl, rfl, rfl, rfl, rfl, rfl, rfl⟩

theorem keepsSignal_endedFault (k : FaultKind) (x : Input) : KeepsSignal x (endedFault k x) := by
  unfold endedFault
  split
  · cases k <;> exact ⟨rfl, rfl, rfl, rfl, rfl, rfl, rfl, rfl⟩
  · exact .refl x

theorem counts_of_role {x : Input} (role : x.entry.role ≠ .spillback) : x.counts = false := by simp [Input.counts, role]

/-- An input that is no SPILLBACK input has no run after its run has been brought into line. -/
theorem alignRun_none {x : Input} (role : x.entry.role ≠ .spillback) : x.alignRun.run = none := by
  simp [Input.alignRun, counts_of_role role]

/-! ### A fault raised -/

theorem faultRaised_input (d : Fin 16) (k : FaultKind) (s : State) (e : Fin 16) :
    (faultRaised d k s).input e = if e = d then raisedFault k (s.input d) else s.input e := by
  have inputs : (faultRaised d k s).inputs = (s.setInput d (raisedFault k (s.input d))).inputs := by simp [faultRaised, raisedFault]
  rw [State.input, inputs, ← State.input, input_setInput]

theorem raiseFault_input (d : Fin 16) (k : FaultKind) (s : State) (e : Fin 16) :
    (raiseFault d k s).input e = if e = d then raisedFault k (s.input d) else s.input e := by
  rw [raiseFault_eq]
  split
  · rw [State.input, (judgeSpillOff_frame true (faultRaised d k s)).1, ← State.input, faultRaised_input]
  · exact faultRaised_input d k s e

theorem raiseFault_same {d : Fin 16} {k : FaultKind} {s : State}
    (same : (s.input d).counts = false ∨ (raisedFault k (s.input d)).counts = true) : raiseFault d k s = faultRaised d k s := by
  rw [raiseFault_eq, faultRaised_input, if_pos rfl, if_neg]
  obtain h | h := same <;> simp [h]

theorem posted_faultRaised (d : Fin 16) (k : FaultKind) (s : State) :
    Posted [(.detFault, d.val + 1, k.code * 256 + (s.input d).entry.faultMode.code)] s (faultRaised d k s) :=
  ((posted_post (s.setInput d (raisedFault k (s.input d))) _ _ _).before (s := s) (by simp) (by simp)).after
    (by simp only [faultRaised, markSubstitutions_frame]; rfl) (by simp [faultRaised])

theorem faultRaised_frame (d : Fin 16) (k : FaultKind) (s : State) : (faultRaised d k s).sched = s.sched ∧
    (faultRaised d k s).meter = s.meter ∧ (faultRaised d k s).rate = s.rate ∧ (faultRaised d k s).drives = s.drives ∧
    (faultRaised d k s).plans = s.plans := by simp [faultRaised]

theorem markSubstituted_dfeLane (i j : Fin 3) (s : State) : (markSubstituted i s).dfeLane j =
    if j = i ∧ substitutionInForce s i = true then { s.dfeLane j with substituted := true } else s.dfeLane j := by
  unfold markSubstituted
  by_cases on : substitutionInForce s i = true
  · rw [if_pos on]
    by_cases here : j = i <;> simp [here, on]
  · rw [if_neg on, if_neg fun h => on h.2]

/-- The mark of a lane is set where its substitution is in force, and stays otherwise (R19). -/
theorem markSubstitutions_dfeLane (s : State) (i : Fin 3) : (markSubstitutions s).dfeLane i =
    if substitutionInForce s i = true then { s.dfeLane i with substituted := true } else s.dfeLane i := by
  have step : ∀ j (v : State), v.inputs = s.inputs → (markSubstituted j v).dfeLane i =
      if i = j ∧ substitutionInForce s j = true then { v.dfeLane i with substituted := true } else v.dfeLane i := fun j v same => by
    rw [markSubstituted_dfeLane, substitutionInForce_congr same]
  show (markSubstituted 2 (markSubstituted 1 (markSubstituted 0 s))).dfeLane i = _
  rw [step 2 _ (by simp), step 1 _ (by simp), step 0 s rfl]
  clear step
  obtain rfl | rfl | rfl : i = 0 ∨ i = 1 ∨ i = 2 := by revert i; decide
  all_goals simp

theorem faultRaised_dfeLane (d : Fin 16) (k : FaultKind) (s : State) (i : Fin 3) : (faultRaised d k s).dfeLane i =
    if substitutionInForce (faultRaised d k s) i = true then { s.dfeLane i with substituted := true } else s.dfeLane i := by
  have inputs : (faultRaised d k s).inputs = ((s.setInput d ({ (s.input d).setFault k true with seen := true }).alignRun).post .detFault
      (d.val + 1) (twoBytes k.code (s.input d).entry.faultMode.code)).inputs := by simp [faultRaised]
  rw [substitutionInForce_congr inputs]
  exact markSubstitutions_dfeLane _ i

theorem raiseFault_dfeLane (d : Fin 16) (k : FaultKind) (s : State) (i : Fin 3) : (raiseFault d k s).dfeLane i =
    if substitutionInForce (raiseFault d k s) i = true then { s.dfeLane i with substituted := true } else s.dfeLane i := by
  rw [raiseFault_eq]
  split
  · have frame := judgeSpillOff_frame true (faultRaised d k s)
    rw [substitutionInForce_congr frame.1, State.dfeLane, frame.2.1, ← State.dfeLane, faultRaised_dfeLane]
  · exact faultRaised_dfeLane d k s i

/-! ### The falling edge -/

theorem fallingEdge_input (d : Fin 16) (s : State) (e : Fin 16) :
    (fallingEdge d s).input e = if e = d then endedFault .stuck (s.input d).fall.restartRun else s.input e := by
  have ended := endFault_onInput .stuck 1 (s.setInput d (s.input d).fall.restartRun) d e
  dsimp only at ended
  rw [fallingEdge, ended, input_setInput, if_pos rfl, input_setInput]
  split <;> rfl

theorem posted_fallingEdge (d : Fin 16) (s : State) :
    Posted (if (s.input d).faultStuck then [(.detRecovered, d.val + 1, 1 * 256 + 1)] else []) s (fallingEdge d s) := by
  have posted := posted_endFault d .stuck 1 (s.setInput d (s.input d).fall.restartRun)
  rw [input_setInput, if_pos rfl] at posted
  exact posted.before (by simp) (by simp)

/-! ### The rising edge, stage by stage -/

/-- Whether a rising edge takes the chatter count of an input past its limit (R11). -/
def chatterPasses (x : Input) : Bool := x.detectsChatter && !x.faultChatter && x.chatter == x.entry.chatterLimit

theorem demandShown_input (x : Input) (d : Fin 16) (s : State) (e : Fin 16) : (demandShown x d s).input e =
    if e = d ∧ (x.servesAs .demand).isSome = true then endedFault .failedOff (s.input d) else s.input e := by
  unfold demandShown
  cases serves : x.servesAs .demand with
  | none => simp
  | some i =>
    have ended := endFault_onInput .failedOff 1 (s.setDfeLane i { s.dfeLane i with failedOff := 0 }) d e
    dsimp only at ended ⊢
    have inputs : ∀ f, (s.setDfeLane i { s.dfeLane i with failedOff := 0 }).input f = s.input f := fun f => by simp [State.input]
    rw [ended, inputs, inputs]
    simp

theorem posted_demandShown (x : Input) (d : Fin 16) (s : State) :
    Posted (if (x.servesAs .demand).isSome && (s.input d).faultOff then [(.detRecovered, d.val + 1, 3 * 256 + 1)] else []) s
      (demandShown x d s) := by
  unfold demandShown
  cases serves : x.servesAs .demand with
  | none => exact .quiet rfl rfl
  | some i =>
    have inputs : ∀ f, (s.setDfeLane i { s.dfeLane i with failedOff := 0 }).input f = s.input f := fun f => by simp [State.input]
    have posted := posted_endFault d .failedOff 1 (s.setDfeLane i { s.dfeLane i with failedOff := 0 })
    rw [inputs] at posted
    exact posted.before (by simp) (by simp)

theorem demandShown_frame (x : Input) (d : Fin 16) (s : State) : (demandShown x d s).sched = s.sched ∧
    (demandShown x d s).meter = s.meter ∧ (demandShown x d s).plans = s.plans ∧ (demandShown x d s).rate = s.rate ∧
    (demandShown x d s).drives = s.drives := by
  unfold demandShown
  cases x.servesAs .demand <;> simp

theorem demandShown_dfeLane (x : Input) (d : Fin 16) (s : State) (i : Fin 3) : (demandShown x d s).dfeLane i =
    if x.servesAs .demand = some i then { s.dfeLane i with failedOff := 0 } else s.dfeLane i := by
  unfold demandShown
  cases serves : x.servesAs .demand with
  | none => simp
  | some j =>
    have same : ∀ u : State, (endFault d .failedOff 1 u).dfeLane i = u.dfeLane i := fun u => by
      rw [State.dfeLane, (endFault_frame d .failedOff 1 u).1]
      rfl
    dsimp only
    rw [same, dfeLane_setDfeLane]
    by_cases here : j = i
    · subst here
      simp
    · simp [here, Ne.symm here]

theorem chatterJudged_of_passes {x : Input} {d : Fin 16} {s : State} (passes : chatterPasses x = true) :
    chatterJudged x d s = raiseFault d .chatter s := if_pos passes

theorem chatterJudged_of_not {x : Input} {d : Fin 16} {s : State} (not : chatterPasses x = false) : chatterJudged x d s = s :=
  if_neg (by rw [show (x.detectsChatter && !x.faultChatter && x.chatter == x.entry.chatterLimit) = chatterPasses x from rfl, not]; decide)

theorem passageTaken_none {x : Input} {s : State} (none : x.servesAs .passage = none) : passageTaken x s = s := by
  simp [passageTaken, none]

theorem passageTaken_some {x : Input} {s : State} {i : Fin 3} (some : x.servesAs .passage = some i) : passageTaken x s = passage i s := by
  simp [passageTaken, some]

theorem servesAs_eq_some {x : Input} {r : Role} {i : Fin 3} : x.servesAs r = some i ↔ x.entry.role = r ∧ x.entry.lane = some i := by
  unfold Input.servesAs
  split <;> simp [*]

theorem servesAs_none {x : Input} {r : Role} (other : x.entry.role ≠ r) : x.servesAs r = none := if_neg other

end Sys2Proof.Edges
end

section
/-! Passages and rising edges, and the detectors under their filters (O49). -/

namespace Sys2Proof.Rising
open Sys2Proof.Machine Sys2Proof.Steps Sys2Proof.Transitions Sys2Proof.LaneLaws Sys2Proof.Inputs Sys2Proof.Releases Sys2Proof.PlanChanges
open Sys2Proof.Postings Sys2Proof.Cycle Sys2Proof.Edges Sys2Proof.Bounds

/-! ### Passages -/

theorem passage_uncounted {i : Fin 3} {s : State} (h : classify (s.lane i) = .uncounted) : passage i s = s := by simp [passage, h]

theorem passage_counted {i : Fin 3} {s : State} (h : classify (s.lane i) ≠ .uncounted) :
    passage i s = passageNotice i (s.setLane i ((s.lane i).pass (classify (s.lane i)))) := by
  unfold passage
  cases c : classify (s.lane i)
  case uncounted => exact absurd c h
  all_goals rfl

theorem passageNotice_none {i : Fin 3} {s : State} (none : demandInput s i = none) : passageNotice i s = s := by simp [passageNotice, none]

section Notice
variable {i : Fin 3} {d : Fin 16} {s : State} (demand : demandInput s i = some d)
include demand

theorem passageNotice_on (on : (s.input d).cond = true) : passageNotice i s = s := by simp [passageNotice, demand, on]

theorem passageNotice_counts (off : (s.input d).cond = false)
    (short : (s.dfeLane i).failedOff ≠ 2 ∨ (s.input d).detects = false ∨ (s.input d).faultOff = true) :
    passageNotice i s = s.setDfeLane i { s.dfeLane i with failedOff := min ((s.dfeLane i).failedOff + 1) 3 } := by
  have not : ¬((s.dfeLane i).failedOff = 2 ∧ (s.input d).detects = true ∧ (s.input d).faultOff = false) := by
    rintro ⟨two, detects, free⟩
    simp [two, detects, free] at short
  unfold passageNotice
  simp only [demand, off, if_neg not]
  rfl

theorem passageNotice_raises (off : (s.input d).cond = false) (two : (s.dfeLane i).failedOff = 2)
    (detects : (s.input d).detects = true) (free : (s.input d).faultOff = false) :
    passageNotice i s = faultRaised d .failedOff (s.setDfeLane i { s.dfeLane i with failedOff := 3 }) := by
  have input : (s.setDfeLane i { s.dfeLane i with failedOff := 3 }).input d = s.input d := by simp [State.input]
  have role : ((s.setDfeLane i { s.dfeLane i with failedOff := 3 }).input d).entry.role ≠ .spillback := by
    rw [input, (demandInput_spec demand).1]
    decide
  rw [← raiseFault_same (.inl (counts_of_role role))]
  unfold passageNotice
  simp only [demand, off]
  rw [if_neg (by decide), if_pos ⟨two, detects, free⟩, two]
  rfl

end Notice

/-- A passage changes at most its lane's DEMAND input, by a failed-off fault. -/
theorem passageNotice_input (i : Fin 3) (s : State) (e : Fin 16) : (passageNotice i s).input e = s.input e ∨
    demandInput s i = some e ∧ (passageNotice i s).input e = raisedFault .failedOff (s.input e) := by
  cases demand : demandInput s i with
  | none => exact .inl (by rw [passageNotice_none demand])
  | some d =>
    cases on : (s.input d).cond with
    | true => exact .inl (by rw [passageNotice_on demand on])
    | false =>
      by_cases raises : (s.dfeLane i).failedOff = 2 ∧ (s.input d).detects = true ∧ (s.input d).faultOff = false
      · obtain ⟨two, detects, free⟩ := raises
        have inputs : ∀ f, (s.setDfeLane i { s.dfeLane i with failedOff := 3 }).input f = s.input f := fun f => by simp [State.input]
        rw [passageNotice_raises demand on two detects free, faultRaised_input, inputs, inputs]
        by_cases here : e = d
        · subst here
          exact .inr ⟨rfl, if_pos rfl⟩
        · exact .inl (if_neg here)
      · have short : (s.dfeLane i).failedOff ≠ 2 ∨ (s.input d).detects = false ∨ (s.input d).faultOff = true := by
          by_contra h
          push Not at h
          exact raises ⟨h.1, by simpa using h.2.1, by simpa using h.2.2⟩
        refine .inl ?_
        rw [passageNotice_counts demand on short]
        simp [State.input]

theorem passage_input (i : Fin 3) (s : State) (e : Fin 16) : (passage i s).input e = s.input e ∨
    demandInput s i = some e ∧ (passage i s).input e = raisedFault .failedOff (s.input e) := by
  by_cases c : classify (s.lane i) = .uncounted
  · exact .inl (by rw [passage_uncounted c])
  · rw [passage_counted c]
    exact passageNotice_input i (s.setLane i ((s.lane i).pass (classify (s.lane i)))) e

/-! ### The rising edge -/

/-- An input after its rising edge. -/
def risenInput (x : Input) : Input :=
  let shown := if (x.servesAs .demand).isSome then endedFault .failedOff x.rise.restartRun else x.rise.restartRun
  if chatterPasses x then raisedFault .chatter shown else shown

/-- The state of a rising edge before its passage. -/
def judgedEdge (d : Fin 16) (s : State) : State :=
  chatterJudged (s.input d) d (demandShown (s.input d) d (s.setInput d (s.input d).rise.restartRun))

theorem risingEdge_judged (d : Fin 16) (s : State) : risingEdge d s = takePending (passageTaken (s.input d) (judgedEdge d s)) := by
  rw [risingEdge_eq]
  rfl

theorem judgedEdge_input (d : Fin 16) (s : State) (e : Fin 16) :
    (judgedEdge d s).input e = if e = d then risenInput (s.input d) else s.input e := by
  have shown : ∀ f, (demandShown (s.input d) d (s.setInput d (s.input d).rise.restartRun)).input f =
      if f = d then (if ((s.input d).servesAs .demand).isSome then endedFault .failedOff (s.input d).rise.restartRun
        else (s.input d).rise.restartRun) else s.input f := fun f => by
    rw [demandShown_input, input_setInput, input_setInput, if_pos rfl]
    by_cases here : f = d <;> cases ((s.input d).servesAs .demand).isSome <;> simp [here]
  unfold judgedEdge risenInput
  cases passes : chatterPasses (s.input d)
  · rw [chatterJudged_of_not passes, shown]
    rfl
  · rw [chatterJudged_of_passes passes, raiseFault_input, shown, shown, if_pos rfl]
    by_cases here : e = d <;> simp [here]

theorem passageTaken_input (x : Input) (s : State) (e : Fin 16) : (passageTaken x s).input e = s.input e ∨
    x.entry.role = .passage ∧ (s.input e).entry.role = .demand ∧ (passageTaken x s).input e = raisedFault .failedOff (s.input e) := by
  cases serves : x.servesAs .passage with
  | none => exact .inl (by rw [passageTaken_none serves])
  | some i =>
    rw [passageTaken_some serves]
    obtain same | ⟨demand, raised⟩ := passage_input i s e
    · exact .inl same
    · exact .inr ⟨(servesAs_eq_some.mp serves).1, (demandInput_spec demand).1, raised⟩

theorem takePending_input (s : State) (e : Fin 16) : (takePending s).input e = s.input e := by
  rw [State.input, (takePending_frame s).1]
  rfl

theorem keepsSignal_risenInput (x : Input) : KeepsSignal x.rise (risenInput x) := by
  have first : KeepsSignal x.rise x.rise.restartRun := ⟨rfl, rfl, rfl, rfl, rfl, rfl, rfl, rfl⟩
  unfold risenInput
  dsimp only
  split <;> split
  · exact (first.trans (keepsSignal_endedFault _ _)).trans (keepsSignal_raisedFault _ _)
  · exact first.trans (keepsSignal_raisedFault _ _)
  · exact first.trans (keepsSignal_endedFault _ _)
  · exact first

theorem risingEdge_self (d : Fin 16) (s : State) : (risingEdge d s).input d = risenInput (s.input d) := by
  have here : (judgedEdge d s).input d = risenInput (s.input d) := by rw [judgedEdge_input, if_pos rfl]
  rw [risingEdge_judged, takePending_input]
  obtain same | ⟨passage, demand, -⟩ := passageTaken_input (s.input d) (judgedEdge d s) d
  · exact same.trans here
  · obtain ⟨-, -, -, -, -, -, entry, -⟩ := keepsSignal_risenInput (s.input d)
    rw [here, entry] at demand
    rw [show (s.input d).rise.entry = (s.input d).entry from rfl, passage] at demand
    cases demand

theorem risingEdge_other {d e : Fin 16} (s : State) (other : e ≠ d) : (risingEdge d s).input e = s.input e ∨
    (s.input d).entry.role = .passage ∧ (s.input e).entry.role = .demand ∧
      (risingEdge d s).input e = raisedFault .failedOff (s.input e) := by
  have there : (judgedEdge d s).input e = s.input e := by rw [judgedEdge_input, if_neg other]
  rw [risingEdge_judged, takePending_input]
  have taken := passageTaken_input (s.input d) (judgedEdge d s) e
  rwa [there] at taken

/-- What an edge leaves at the other inputs (R5, R13). -/
theorem edge_other {d e : Fin 16} (level : Bool) (s : State) (other : e ≠ d) : KeepsSignal (s.input e) ((edge d level s).input e) ∧
    (RunsCount s → ((edge d level s).input e).run = (s.input e).run) := by
  unfold edge
  cases level
  · rw [if_neg (by decide), fallingEdge_input, if_neg other]
    exact ⟨.refl _, fun _ => rfl⟩
  · rw [if_pos rfl]
    obtain same | ⟨-, demand, raised⟩ := risingEdge_other s other
    · rw [same]
      exact ⟨.refl _, fun _ => rfl⟩
    · rw [raised]
      refine ⟨keepsSignal_raisedFault _ _, fun runs => ?_⟩
      have role : (s.input e).entry.role ≠ .spillback := by rw [demand]; decide
      have none : (s.input e).run = none := by
        have agrees := runs e
        rw [counts_of_role role] at agrees
        simpa using agrees
      rw [none]
      exact alignRun_none (x := { (s.input e).setFault .failedOff true with seen := true }) role

theorem fall_signal (x : Input) : KeepsSignal x.fall (endedFault .stuck x.fall.restartRun) :=
  KeepsSignal.trans ⟨rfl, rfl, rfl, rfl, rfl, rfl, rfl, rfl⟩ (keepsSignal_endedFault _ _)

/-- What an edge makes of its own input (R5, R6, R9, R30). -/
theorem edge_self (d : Fin 16) (level : Bool) (s : State) :
    KeepsSignal (if level then (s.input d).rise else (s.input d).fall) ((edge d level s).input d) := by
  unfold edge
  cases level
  · rw [if_neg (by decide), if_neg (by decide), fallingEdge_input, if_pos rfl]
    exact fall_signal _
  · rw [if_pos rfl, if_pos rfl, risingEdge_self]
    exact keepsSignal_risenInput _

end Sys2Proof.Rising
end

section
/-! The detectors under their filters (O49). -/

namespace Sys2Proof.Filters
open Sys2Proof.Machine Sys2Proof.Steps Sys2Proof.Transitions Sys2Proof.LaneLaws Sys2Proof.Inputs Sys2Proof.Releases Sys2Proof.PlanChanges
open Sys2Proof.Postings Sys2Proof.Cycle Sys2Proof.Edges Sys2Proof.Rising

/-! ### Raw changes and filter timers -/

theorem setInput_setInput (s : State) (d : Fin 16) (x y : Input) : (s.setInput d x).setInput d y = s.setInput d y := by
  unfold State.setInput
  simp

section RawChange
variable {d : Fin 16} {level : Bool} {s : State} (changed : (s.input d).raw ≠ level)
include changed

theorem rawChange_returns (same : level = (s.input d).cond) :
    rawChange d level s = s.setInput d { s.input d with raw := level, filter := none } := by
  unfold rawChange
  dsimp only
  rw [if_neg changed, if_pos same]

theorem rawChange_filtered (new : level ≠ (s.input d).cond) (time : (s.input d).entry.filterTime level ≠ 0) :
    rawChange d level s = s.setInput d { s.input d with raw := level, filter := some ((s.input d).entry.filterTime level) } := by
  unfold rawChange
  dsimp only
  rw [if_neg changed, if_neg new, if_neg time, setInput_setInput]

theorem rawChange_edge (new : level ≠ (s.input d).cond) (time : (s.input d).entry.filterTime level = 0) :
    rawChange d level s = edge d level (s.setInput d { s.input d with raw := level, filter := none }) := by
  unfold rawChange
  dsimp only
  rw [if_neg changed, if_neg new, if_pos time]

end RawChange

theorem exec_rawChange (d : Fin 16) (level : Bool) (s : State) :
    exec (.detectorRawChange d level) s = .next (rawChange d level s).judgeLines := exec_event (c := .detectorRawChange d level) rfl s

theorem exec_filterExpiry (d : Fin 16) (s : State) :
    exec (.filterTimerExpiry d) s = .next (if (s.input d).filter = some 0 then edge d (s.input d).raw s else s).judgeLines :=
  exec_event (c := .filterTimerExpiry d) rfl s

/-! ### The faults of an input at its edge -/

theorem chatterPasses_iff (x : Input) : chatterPasses x = true ↔ x.faultChatter = false ∧ x.entry.role ≠ .unused ∧
    x.entry.faultMode ≠ .ignore ∧ x.entry.chatterLimit ≠ 0 ∧ x.chatter = x.entry.chatterLimit := by
  simp only [chatterPasses, Input.detectsChatter, Input.detects, Bool.and_eq_true, Bool.not_eq_true', beq_eq_false_iff_ne, beq_iff_eq]
  tauto

theorem risenInput_faults (x : Input) : (risenInput x).faultChatter = (x.faultChatter || chatterPasses x) ∧
    (risenInput x).faultStuck = x.faultStuck ∧
    (risenInput x).faultOff = (x.faultOff && !(x.servesAs .demand).isSome) ∧ (chatterPasses x = true → (risenInput x).seen = true) := by
  unfold risenInput endedFault
  cases chatterPasses x <;> cases (x.servesAs .demand).isSome <;> cases off : x.faultOff <;>
    simp [Input.rise, Input.restartRun, Input.hasFault, Input.setFault, Input.alignRun, raisedFault, off]

theorem fallenInput_chatter (x : Input) : (endedFault .stuck x.fall.restartRun).faultChatter = x.faultChatter := by
  unfold endedFault
  split <;> rfl

/-! ### The events of an edge -/

theorem posted_judgedEdge {d : Fin 16} {s : State} (role : (s.input d).entry.role ≠ .spillback) :
    Posted ((if ((s.input d).servesAs .demand).isSome && (s.input d).faultOff then [(.detRecovered, d.val + 1, 3 * 256 + 1)] else []) ++
      if chatterPasses (s.input d) then [(.detFault, d.val + 1, 2 * 256 + (s.input d).entry.faultMode.code)] else []) s
      (judgedEdge d s) := by
  have shown := posted_demandShown (s.input d) d (s.setInput d (s.input d).rise.restartRun)
  rw [input_setInput, if_pos rfl] at shown
  have first := shown.before (s := s) (by simp) (by simp)
  refine first.trans ?_
  have entry : ((demandShown (s.input d) d (s.setInput d (s.input d).rise.restartRun)).input d).entry = (s.input d).entry := by
    rw [demandShown_input, input_setInput, if_pos rfl]
    split
    · obtain ⟨-, -, -, -, -, -, entry, -⟩ := keepsSignal_endedFault .failedOff (s.input d).rise.restartRun
      exact entry
    · rfl
  unfold judgedEdge
  cases passes : chatterPasses (s.input d)
  · rw [chatterJudged_of_not passes]
    exact .quiet rfl rfl
  · rw [chatterJudged_of_passes passes, raiseFault_same (.inl (counts_of_role (by rw [entry]; exact role)))]
    have posted := posted_faultRaised d .chatter (demandShown (s.input d) d (s.setInput d (s.input d).rise.restartRun))
    rw [entry] at posted
    exact posted

theorem risingEdge_events {d : Fin 16} {s : State} (passage : (s.input d).entry.role ≠ .passage) :
    (risingEdge d s).events = (judgedEdge d s).events ∧ (risingEdge d s).dfeLanes = (judgedEdge d s).dfeLanes := by
  rw [risingEdge_judged, passageTaken_none (servesAs_none passage)]
  exact ⟨by simp, by simp⟩

/-! ### The demand that an edge brings about -/

theorem demandInput_edge (d : Fin 16) (level : Bool) (s : State) (i : Fin 3) : demandInput (edge d level s) i = demandInput s i := by
  refine demandInput_congr (fun e => ?_) i
  by_cases here : e = d
  · subst here
    obtain ⟨-, -, -, -, -, -, entry, -⟩ := edge_self e level s
    rw [entry]
    cases level <;> rfl
  · obtain ⟨-, -, -, -, -, -, entry, -⟩ := (edge_other level s here).1
    exact entry

/-- A chatter fault on a lane's DEMAND input: demand with the input on, and under EXCLUDE the substitution with its mark. -/
theorem chatter_demand {d : Fin 16} {i : Fin 3} {s : State} (demand : demandInput s i = some d) (passes : chatterPasses (s.input d) = true)
    (free : (s.input d).faultStuck = false) (shown : (s.input d).faultOff = false) :
    hasDemand (edge d true s) i = true ∧
      substitutionInForce (edge d true s) i = decide ((s.input d).entry.faultMode = .exclude) ∧
      ((edge d true s).dfeLane i).substituted = (decide ((s.input d).entry.faultMode = .exclude) || (s.dfeLane i).substituted) := by
  obtain ⟨role, lane⟩ := demandInput_spec demand
  have there : demandInput (edge d true s) i = some d := (demandInput_edge d true s i).trans demand
  have input : (edge d true s).input d = risenInput (s.input d) := risingEdge_self d s
  obtain ⟨cond, -, -, -, -, -, entry, -⟩ := keepsSignal_risenInput (s.input d)
  obtain ⟨chatter, stuck, off, -⟩ := risenInput_faults (s.input d)
  obtain ⟨-, -, live, -⟩ := (chatterPasses_iff _).mp passes
  have on : (risenInput (s.input d)).cond = true := cond
  have force : substitutionInForce (edge d true s) i = decide ((s.input d).entry.faultMode = .exclude) := by
    rw [substitutionInForce_of_demand there, input, Bool.eq_iff_iff, substitutes_iff, chatter, stuck, off, passes, free, shown, entry]
    have mode : (s.input d).rise.entry = (s.input d).entry := rfl
    rw [mode]
    simp [live]
  refine ⟨by rw [hasDemand_of_demand there, input, on]; rfl, force, ?_⟩
  obtain ⟨-, lanes⟩ := risingEdge_events (d := d) (s := s) (by rw [role]; decide)
  have mark : ((edge d true s).dfeLane i) = (judgedEdge d s).dfeLane i := by
    show (risingEdge d s).dfeLane i = _
    rw [State.dfeLane, lanes]
    rfl
  have same : substitutionInForce (judgedEdge d s) i = substitutionInForce (edge d true s) i := by
    have entries : ∀ e, ((judgedEdge d s).input e).entry = (s.input e).entry := fun e => by
      rw [judgedEdge_input]
      split
      · next here => rw [entry, here]; rfl
      · rfl
    rw [substitutionInForce_of_demand there, substitutionInForce_of_demand ((demandInput_congr entries i).trans demand), input,
      judgedEdge_input, if_pos rfl]
  rw [mark, ← force, ← same]
  unfold judgedEdge
  rw [chatterJudged_of_passes passes, raiseFault_dfeLane]
  generalize substitutionInForce (raiseFault d .chatter _) i = b
  have before : ((demandShown (s.input d) d (s.setInput d (s.input d).rise.restartRun)).dfeLane i).substituted = (s.dfeLane i).substituted := by
    rw [demandShown_dfeLane, if_pos (servesAs_eq_some.mpr ⟨role, lane⟩)]
    simp [State.dfeLane]
  cases b
  · exact before
  · rfl

/-! ### The obligation -/

theorem restartRun_idle {x : Input} (counts : x.counts = false) : x.restartRun = { x with run := none } := by
  rw [Input.restartRun, counts]
  rfl

theorem rise_unused {x : Input} (role : x.entry.role ≠ .spillback) : x.rise.restartRun = { x with
    cond := true, filter := none, stuck := 0, volume := min (x.volume + 1) 65535, chatter := min (x.chatter + 1) 256, run := none } := by
  have counts : x.rise.counts = false := counts_of_role (x := x.rise) role
  rw [restartRun_idle counts]
  rfl

/-- An edge of an input of role UNUSED outside METERING is the signal alone. -/
theorem edge_unused {d : Fin 16} {s : State} (role : (s.input d).entry.role = .unused) (mode : s.mode ≠ .metering)
    (free : (s.input d).faultStuck = false) :
    edge d true s = s.setInput d { s.input d with
        cond := true, filter := none, stuck := 0, volume := min ((s.input d).volume + 1) 65535,
        chatter := min ((s.input d).chatter + 1) 256, run := none } ∧
      edge d false s = s.setInput d { s.input d with cond := false, filter := none, stuck := 0, run := none } := by
  constructor
  · show risingEdge d s = _
    have serves : ∀ r, r ≠ .unused → (s.input d).servesAs r = none := fun r other => servesAs_none (by rw [role]; exact other.symm)
    have passes : chatterPasses (s.input d) = false := by simp [chatterPasses, Input.detectsChatter, Input.detects, role]
    have judged : judgedEdge d s = s.setInput d (s.input d).rise.restartRun := by
      rw [judgedEdge, chatterJudged_of_not passes, demandShown, serves .demand (by decide)]
    rw [risingEdge_judged, passageTaken_none (serves .passage (by decide)), judged, takePending_of_mode (by simpa [State.mode] using mode),
      rise_unused (by rw [role]; decide)]
  · show fallingEdge d s = _
    have entry : (s.input d).fall.entry.role ≠ .spillback := by
      rw [show (s.input d).fall.entry = (s.input d).entry from rfl, role]
      decide
    have none : ((s.setInput d (s.input d).fall.restartRun).input d).hasFault .stuck = false := by
      rw [input_setInput, if_pos rfl]
      exact free
    rw [fallingEdge, endFault, if_neg (by rw [none]; decide)]
    rw [restartRun_idle (counts_of_role entry)]
    rfl

/-- Settles O49: the filter, the edge of an input of any role, and the chatter fault. -/
theorem detectorsFollowTheirFilters : Obligations.DetectorsFollowTheirFilters := by
  unfold Obligations.DetectorsFollowTheirFilters
  intro d level s
  have self := edge_self d level s
  refine ⟨fun same => ?_, fun changed same => ?_, fun changed new time => ?_, fun changed new time => ?_, fun out => ?_, fun runs => ?_,
    ?_, edge_unused, ?_⟩
  · rw [exec_rawChange, rawChange, if_pos same]
  · rw [exec_rawChange, rawChange_returns changed same]
  · rw [exec_rawChange, rawChange_filtered changed new time]
  · rw [exec_rawChange, rawChange_edge changed new time]
  · rw [exec_filterExpiry, if_pos out]
  · rw [exec_filterExpiry, if_neg runs]
  · obtain ⟨counter, records, -, plans, limits, -⟩ := edge_frame d level s
    obtain ⟨cond, raw, filter, stuck, volume, chatter, entry, onTime⟩ := self
    refine ⟨?_, ?_, ?_, ?_, ?_, ?_, ?_, ?_, fun e other => ?_, counter, records, plans, limits⟩
    · rw [cond]; cases level <;> rfl
    · rw [filter]; cases level <;> rfl
    · rw [stuck]; cases level <;> rfl
    · rw [volume]; cases level <;> rfl
    · rw [chatter]; cases level <;> rfl
    · rw [raw]; cases level <;> rfl
    · rw [entry]; cases level <;> rfl
    · rw [onTime]; cases level <;> rfl
    · obtain ⟨⟨cond, raw, filter, stuck, volume, chatter, entry, onTime⟩, run⟩ := edge_other level s other
      exact ⟨cond, raw, filter, stuck, volume, chatter, entry, onTime, run⟩
  · obtain ⟨chatter, -, -, seen⟩ := risenInput_faults (s.input d)
    have input : (edge d true s).input d = risenInput (s.input d) := risingEdge_self d s
    dsimp only
    rw [input]
    refine ⟨?_, ?_, fun free past => ⟨seen ((chatterPasses_iff _).mpr ⟨free, past⟩), fun passage spillback shown => ?_⟩,
      fun i demand free past stuck off => ?_⟩
    · rw [chatter, Bool.or_eq_true, chatterPasses_iff]
      cases (s.input d).faultChatter <;> simp
    · show ((fallingEdge d s).input d).faultChatter = _
      rw [fallingEdge_input, if_pos rfl, fallenInput_chatter]
    · have posted := (posted_judgedEdge spillback).1
      rw [shown, Bool.and_false, (chatterPasses_iff _).mpr ⟨free, past⟩] at posted
      exact (risingEdge_events passage).1.trans posted
    · obtain ⟨on, force, mark⟩ := chatter_demand demand ((chatterPasses_iff _).mpr ⟨free, past⟩) stuck off
      refine ⟨on, fun exclude => ?_, fun warn => ?_⟩
      · rw [force, mark, exclude]
        exact ⟨rfl, rfl⟩
      · rw [force, mark, warn]
        exact ⟨rfl, rfl⟩

end Sys2Proof.Filters
end

section
/-! Passages: their classes, their counts and the failed-off loop (O50). -/

namespace Sys2Proof.Passages
open Sys2Proof.Machine Sys2Proof.Steps Sys2Proof.Transitions Sys2Proof.LaneLaws Sys2Proof.Inputs Sys2Proof.Releases Sys2Proof.PlanChanges
open Sys2Proof.Postings Sys2Proof.Cycle Sys2Proof.Edges Sys2Proof.Rising Sys2Proof.Filters Sys2Proof.ModeSteps

/-! ### The class of a passage -/

theorem classify_table (x : Lane) (counted : Bool) (left : Nat) :
    let opened := if counted then PassageClass.extra else PassageClass.release
    ((x.state = .green ∨ x.state = .amber) → x.window = .opened counted → classify x = opened) ∧
    ((x.state = .red ∨ x.state = .ready) → x.window = .inGrace counted left → classify x = opened) ∧
    ((x.state = .red ∨ x.state = .ready) → x.window = .closed → x.sinceRest = none → classify x = .violation) ∧
    ((x.state = .red ∨ x.state = .ready) → x.window = .closed → x.sinceRest ≠ none → classify x = .uncounted) ∧
    (x.state = .amber → x.window = .closed → classify x = .uncounted) ∧
    ((x.state = .restGreen ∨ x.state = .off ∨ x.state = .faulted) → x.window = .closed → classify x = .uncounted) := by
  refine ⟨fun lit window => ?_, fun red window => ?_, fun red window rest => ?_, fun red window rest => ?_, fun amber window => ?_,
    fun idle window => ?_⟩
  · obtain state | state := lit <;> simp only [classify, state, window, windowClass]
  · obtain state | state := red <;> simp only [classify, state, window, windowClass]
  · obtain state | state := red <;> simp [classify, state, window, rest]
  · obtain state | state := red <;> simp [classify, state, window, Option.isSome_iff_ne_none.mpr rest]
  · simp [classify, amber, window]
  · obtain state | state | state := idle <;> simp [classify, state, window]

/-! ### What a passage leaves -/

theorem keepsReleases_of_sched {s t : State} (same : t.sched = s.sched) : KeepsReleases s t := by
  unfold KeepsReleases
  rw [same]
  exact ⟨rfl, rfl, rfl, rfl⟩

theorem passageNotice_releases (i : Fin 3) (s : State) : KeepsReleases s (passageNotice i s) ∧ (passageNotice i s).mode = s.mode := by
  refine ⟨?_, by simp [State.mode]⟩
  cases demand : demandInput s i with
  | none => rw [passageNotice_none demand]; exact .refl s
  | some d =>
    cases on : (s.input d).cond with
    | true => rw [passageNotice_on demand on]; exact .refl s
    | false =>
      by_cases raises : (s.dfeLane i).failedOff = 2 ∧ (s.input d).detects = true ∧ (s.input d).faultOff = false
      · obtain ⟨two, detects, free⟩ := raises
        rw [passageNotice_raises demand on two detects free]
        exact keepsReleases_of_sched (faultRaised_frame d .failedOff _).1
      · have short : (s.dfeLane i).failedOff ≠ 2 ∨ (s.input d).detects = false ∨ (s.input d).faultOff = true := by
          by_contra h
          push Not at h
          exact raises ⟨h.1, by simpa using h.2.1, by simpa using h.2.2⟩
        rw [passageNotice_counts demand on short]
        exact keepsReleases_of_sched rfl

theorem passage_releases (i : Fin 3) (s : State) : KeepsReleases s (passage i s) ∧ (passage i s).mode = s.mode := by
  by_cases c : classify (s.lane i) = .uncounted
  · rw [passage_uncounted c]
    exact ⟨.refl s, rfl⟩
  · rw [passage_counted c]
    exact passageNotice_releases i (s.setLane i ((s.lane i).pass (classify (s.lane i))))

/-- No pending release is taken where none is pending, or outside METERING. -/
theorem takePending_passage {i : Fin 3} {s : State} (none : s.mode ≠ .metering ∨ s.sched.releasePending = false) :
    takePending (passage i s) = passage i s := by
  obtain ⟨⟨-, -, pending, -⟩, mode⟩ := passage_releases i s
  obtain out | clear := none
  · exact takePending_of_mode (by rw [mode]; exact out)
  · exact takePending_of_clear (by rw [pending]; exact clear)

/-- The notice that brings the failed-off count to 3 raises the fault, and with it the lane's demand (R14). -/
theorem passageNotice_raised {i : Fin 3} {d : Fin 16} {s : State} (demand : demandInput s i = some d) (off : (s.input d).cond = false)
    (two : (s.dfeLane i).failedOff = 2) (detects : (s.input d).detects = true) (free : (s.input d).faultOff = false) :
    ((passageNotice i s).input d).faultOff = true ∧ ((passageNotice i s).input d).seen = true ∧
      ((passageNotice i s).dfeLane i).failedOff = 3 ∧ substitutionInForce (passageNotice i s) i = true ∧
      ((passageNotice i s).dfeLane i).substituted = true ∧ hasDemand (passageNotice i s) i = true ∧
      (passageNotice i s).events = (s.post .detFault (d.val + 1) (3 * 256 + (s.input d).entry.faultMode.code)).events := by
  have inputs : ∀ f, (s.setDfeLane i { s.dfeLane i with failedOff := 3 }).input f = s.input f := fun f => by simp [State.input]
  have input : ∀ e, (passageNotice i s).input e = if e = d then raisedFault .failedOff (s.input d) else s.input e := fun e => by
    rw [passageNotice_raises demand off two detects free, faultRaised_input, inputs, inputs]
  have entry : ∀ e, ((passageNotice i s).input e).entry = (s.input e).entry := fun e => by
    rw [input]
    split
    · next here => rw [here]; rfl
    · rfl
  have there : demandInput (passageNotice i s) i = some d := (demandInput_congr entry i).trans demand
  have live : (s.input d).entry.faultMode ≠ .ignore := by
    simp only [Input.detects, Bool.and_eq_true, Bool.not_eq_true', beq_eq_false_iff_ne] at detects
    exact detects.2
  have raised : (passageNotice i s).input d = raisedFault .failedOff (s.input d) := by rw [input, if_pos rfl]
  have force : substitutionInForce (passageNotice i s) i = true := by
    rw [substitutionInForce_of_demand there, substitutes_iff, entry]
    exact ⟨live, .inl (by rw [raised]; rfl)⟩
  have lane : (passageNotice i s).dfeLane i = { s.dfeLane i with failedOff := 3, substituted := true } := by
    have on := force
    rw [passageNotice_raises demand off two detects free] at on ⊢
    rw [faultRaised_dfeLane, if_pos on]
    simp
  refine ⟨by rw [raised]; rfl, by rw [raised]; rfl, by rw [lane], force, by rw [lane], ?_, ?_⟩
  · rw [hasDemand_of_demand there, force, Bool.or_true]
  · have posted := posted_faultRaised d .failedOff (s.setDfeLane i { s.dfeLane i with failedOff := 3 })
    rw [inputs] at posted
    rw [passageNotice_raises demand off two detects free]
    exact (posted.before (s := s) (by simp) (by simp)).1

/-! ### A passage by its edge -/

/-- Whether an edge raises no chatter fault. -/
def Quiet (x : Input) : Prop := x.entry.faultMode = .ignore ∨ x.entry.chatterLimit = 0 ∨ x.faultChatter = true ∨ x.chatter ≠ x.entry.chatterLimit

theorem chatterPasses_quiet {x : Input} (quiet : Quiet x) : chatterPasses x = false := by
  rw [← Bool.not_eq_true, chatterPasses_iff]
  rintro ⟨free, -, live, limit, at_limit⟩
  obtain h | h | h | h := quiet
  · exact live h
  · exact limit h
  · rw [free] at h
    cases h
  · exact h at_limit

/-- A rising edge of a PASSAGE input that raises no chatter fault is the input risen and its passage. -/
theorem risingEdge_passage {d : Fin 16} {i : Fin 3} {s : State} (role : (s.input d).entry.role = .passage)
    (lane : (s.input d).entry.lane = some i) (quiet : Quiet (s.input d)) :
    risingEdge d s = takePending (passage i (s.setInput d { s.input d with
      raw := (s.input d).raw, cond := true, filter := none, stuck := 0, volume := min ((s.input d).volume + 1) 65535,
      chatter := min ((s.input d).chatter + 1) 256, run := none })) := by
  have judged : judgedEdge d s = s.setInput d (s.input d).rise.restartRun := by
    rw [judgedEdge, chatterJudged_of_not (chatterPasses_quiet quiet), demandShown, servesAs_none (by rw [role]; decide)]
  rw [risingEdge_judged, passageTaken_some (servesAs_eq_some.mpr ⟨role, lane⟩), judged, rise_unused (by rw [role]; decide)]

/-- A rising edge of a DEMAND input that raises no chatter fault ends a failed-off fault and its count. -/
theorem risingEdge_demand {d : Fin 16} {i : Fin 3} {s : State} (role : (s.input d).entry.role = .demand)
    (lane : (s.input d).entry.lane = some i) (quiet : Quiet (s.input d)) :
    ((risingEdge d s).dfeLane i).failedOff = 0 ∧ ((risingEdge d s).input d).faultOff = false ∧
      ((risingEdge d s).input d).cond = true ∧ (risingEdge d s).events =
        if (s.input d).faultOff then (s.post .detRecovered (d.val + 1) (3 * 256 + 1)).events else s.events := by
  have serves := servesAs_eq_some.mpr ⟨role, lane⟩
  obtain ⟨-, -, off, -⟩ := risenInput_faults (s.input d)
  obtain ⟨cond, -⟩ := keepsSignal_risenInput (s.input d)
  obtain ⟨events, lanes⟩ := risingEdge_events (d := d) (s := s) (by rw [role]; decide)
  have posted := (posted_judgedEdge (d := d) (s := s) (by rw [role]; decide)).1
  have judged : (judgedEdge d s).dfeLane i = { s.dfeLane i with failedOff := 0 } := by
    rw [judgedEdge, chatterJudged_of_not (chatterPasses_quiet quiet), demandShown_dfeLane, if_pos serves]
    simp [State.dfeLane]
  rw [serves, chatterPasses_quiet quiet] at posted
  rw [risingEdge_self, State.dfeLane, lanes, ← State.dfeLane, judged, off, serves]
  refine ⟨rfl, by simp, cond, events.trans (posted.trans ?_)⟩
  cases (s.input d).faultOff <;> rfl

/-- Settles O50: the classes, the notice of a passage, and the edges of PASSAGE and DEMAND inputs. -/
theorem passagesAreClassedAndCounted : Obligations.PassagesAreClassedAndCounted := by
  unfold Obligations.PassagesAreClassedAndCounted
  refine ⟨classify_table, fun i s => ⟨passage_uncounted, fun counted none => ?_, fun d counted demand on => ?_,
    fun d counted demand off short => ?_, fun d counted demand off two detects free => ?_, ⟨rfl, rfl, rfl⟩⟩, fun d i s =>
    ⟨fun role lane quiet clear => ⟨fun raw cond filter => ?_, fun raw out => ?_⟩, fun role lane quiet raw cond filter => ?_⟩⟩
  · rw [passage_counted counted]
    exact passageNotice_none none
  · rw [passage_counted counted]
    exact passageNotice_on (s := s.setLane i ((s.lane i).pass (classify (s.lane i)))) demand on
  · rw [passage_counted counted]
    exact passageNotice_counts (s := s.setLane i ((s.lane i).pass (classify (s.lane i)))) demand off short
  · rw [passage_counted counted]
    exact passageNotice_raised (s := s.setLane i ((s.lane i).pass (classify (s.lane i)))) demand off two detects free
  · have edge_ := rawChange_edge (d := d) (level := true) (s := s) (by rw [raw]; decide) (by rw [cond]; decide) filter
    have here : (s.setInput d { s.input d with raw := true, filter := none }).input d = { s.input d with raw := true, filter := none } := by
      rw [input_setInput, if_pos rfl]
    rw [exec_rawChange, edge_]
    have risen := risingEdge_passage (d := d) (i := i) (s := s.setInput d { s.input d with raw := true, filter := none })
      (by rw [here]; exact role) (by rw [here]; exact lane) (by rw [here]; exact quiet)
    rw [here, setInput_setInput, takePending_passage (by simpa [State.mode] using clear)] at risen
    exact congrArg (fun t => Host.Outcome.next (State.judgeLines t)) risen
  · rw [exec_filterExpiry, if_pos out, raw]
    have risen := risingEdge_passage role lane quiet
    rw [takePending_passage (by simpa [State.mode] using clear), raw] at risen
    exact congrArg (fun t => Host.Outcome.next (State.judgeLines t)) risen
  · have edge_ := rawChange_edge (d := d) (level := true) (s := s) (by rw [raw]; decide) (by rw [cond]; decide) filter
    have here : (s.setInput d { s.input d with raw := true, filter := none }).input d = { s.input d with raw := true, filter := none } := by
      rw [input_setInput, if_pos rfl]
    have run := exec_rawChange d true s
    rw [edge_] at run
    have risen := risingEdge_demand (d := d) (i := i) (s := s.setInput d { s.input d with raw := true, filter := none })
      (by rw [here]; exact role) (by rw [here]; exact lane) (by rw [here]; exact quiet)
    rw [here] at risen
    exact ⟨_, run, risen⟩

end Sys2Proof.Passages
end

section
/-! Stuck-on faults, what they exclude, and the demand they put in force (O51). -/

namespace Sys2Proof.StuckFaults
open Sys2Proof.Machine Sys2Proof.Steps Sys2Proof.Transitions Sys2Proof.LaneLaws Sys2Proof.Inputs Sys2Proof.Releases Sys2Proof.PlanChanges
open Sys2Proof.Postings Sys2Proof.Cycle Sys2Proof.Edges Sys2Proof.Rising Sys2Proof.Filters Sys2Proof.LockLimits

theorem stuckDue_iff (x : Input) : stuckDue x = true ↔ x.entry.role ≠ .unused ∧ x.entry.faultMode ≠ .ignore ∧ x.entry.stuckTime ≠ 0 ∧
    x.cond = true ∧ x.faultStuck = false ∧ x.entry.stuckTime * 100 ≤ x.stuck := by
  simp only [stuckDue, Input.detectsStuck, Input.detects, Bool.and_eq_true, Bool.not_eq_true', beq_eq_false_iff_ne, decide_eq_true_eq]
  tauto

theorem exec_stuck (d : Fin 16) (s : State) : exec (.stuckTimerExpiry d) s =
    .next (if stuckDue (s.input d) then takePending (raiseFault d .stuck s) else s).judgeLines := exec_event (c := .stuckTimerExpiry d) rfl s

theorem exec_stuck_due {d : Fin 16} {s : State} (due : stuckDue (s.input d) = true) :
    exec (.stuckTimerExpiry d) s = .next (takePending (raiseFault d .stuck s)).judgeLines := by rw [exec_stuck, if_pos due]

theorem raised_input (d : Fin 16) (k : FaultKind) (s : State) (e : Fin 16) :
    (takePending (raiseFault d k s)).input e = if e = d then raisedFault k (s.input d) else s.input e := by
  rw [takePending_input, raiseFault_input]

theorem demandInput_raised (d : Fin 16) (k : FaultKind) (s : State) (i : Fin 3) :
    demandInput (takePending (raiseFault d k s)) i = demandInput s i := by
  refine demandInput_congr (fun e => ?_) i
  rw [raised_input]
  split
  · next here =>
    obtain ⟨-, -, -, -, -, -, entry, -⟩ := keepsSignal_raisedFault k (s.input d)
    rw [entry, here]
  · rfl

/-! ### Exclusion and spill -/

theorem raisedFault_counts {k : FaultKind} {x : Input} (mode : x.entry.faultMode = .exclude) : (raisedFault k x).counts = false := by
  cases k <;> simp [raisedFault, Input.counts, Input.excluded, Input.alignRun, Input.setFault, Input.anyFault, mode]

theorem raisedFault_run {k : FaultKind} {x : Input} (mode : x.entry.faultMode = .exclude) : (raisedFault k x).run = none := by
  have counts : ({ x.setFault k true with seen := true } : Input).counts = false := raisedFault_counts (k := k) mode
  unfold raisedFault Input.alignRun
  rw [counts]
  rfl

/-- A fault that excludes a counting input has spill judged (R16, R51). -/
theorem raiseFault_excludes {d : Fin 16} {k : FaultKind} {s : State} (counts : (s.input d).counts = true)
    (mode : (s.input d).entry.faultMode = .exclude) : raiseFault d k s = judgeSpillOff true (faultRaised d k s) := by
  rw [raiseFault_eq, faultRaised_input, if_pos rfl, counts, raisedFault_counts mode]
  rfl

theorem recombine_spill (s : State) : (recombine s).rate.spillActive = s.rate.spillActive := by
  unfold recombine
  split
  · exact (keepsFloor_runCombine false s).2
  · rfl

theorem countingRuns_none {s : State} (none : ∀ e, (s.input e).run = none) : countingRuns s = [] := by
  simp [countingRuns, none]

/-- An active spill that no input counts for any more ends with detail 3. -/
theorem judgeSpillOff_uncounted {s : State} {p : List Byte} (plan : s.plans.plan = some p) (group : planSpillGroup p = true)
    (active : s.rate.spillActive = true) (none : ∀ e, (s.input e).run = none) : judgeSpillOff true s = spillFalls true 3 s := by
  simp [judgeSpillOff, active, spillOffCase, plan, group, countingRuns_none none]

theorem spillFalls_inactive (detail : Nat) (s : State) : (spillFalls true detail s).rate.spillActive = false := by
  show (recombine ((s.putSpill false).post .spillOff 0 detail)).rate.spillActive = false
  rw [recombine_spill]
  rfl

section Excluded
variable {d : Fin 16} {s : State} {p : List Byte} (due : stuckDue (s.input d) = true) (role : (s.input d).entry.role = .spillback)
  (mode : (s.input d).entry.faultMode = .exclude) (free : (s.input d).anyFault = false) (plan : s.plans.plan = some p)
  (group : planSpillGroup p = true)
include due role mode free plan group

theorem stuck_excludes : ∃ t, exec (.stuckTimerExpiry d) s = .next t ∧ (t.input d).run = none ∧
    (if s.rate.spillActive = true ∧ ∀ e, e ≠ d → (s.input e).run = none then
      t.rate.spillActive = false ∧ t.events = ((s.post .detFault (d.val + 1) (1 * 256 + 2)).post .spillOff 0 3).events
    else EventsContinue (s.post .detFault (d.val + 1) (1 * 256 + 2)) t) := by
  have run := exec_stuck_due due
  have here : (takePending (raiseFault d .stuck s)).input d = raisedFault .stuck (s.input d) := by rw [raised_input, if_pos rfl]
  have counts : (s.input d).counts = true := by simp [Input.counts, Input.excluded, role, free]
  have raised := posted_faultRaised d .stuck s
  rw [mode] at raised
  refine ⟨_, run, ?_, ?_⟩
  · rw [show (takePending (raiseFault d .stuck s)).judgeLines.input d = (takePending (raiseFault d .stuck s)).input d from rfl, here]
    exact raisedFault_run mode
  · split
    · next spill =>
      obtain ⟨active, others⟩ := spill
      obtain ⟨-, -, rate, -, plans⟩ := faultRaised_frame d .stuck s
      have none : ∀ e, ((faultRaised d .stuck s).input e).run = none := fun e => by
        rw [faultRaised_input]
        split
        · exact raisedFault_run mode
        · next other => exact others e other
      have falls : raiseFault d .stuck s = spillFalls true 3 (faultRaised d .stuck s) := by
        rw [raiseFault_excludes counts mode, judgeSpillOff_uncounted (by rw [plans]; exact plan) group (by rw [rate]; exact active) none]
      rw [falls]
      have posted := raised.trans (posted_spillFalls true 3 (faultRaised d .stuck s))
      generalize hfallen : spillFalls true 3 (faultRaised d .stuck s) = u at *
      refine ⟨?_, ?_⟩
      · show (takePending u).rate.spillActive = false
        rw [(takePending_frame u).2.2.2.2.1, ← hfallen, spillFalls_inactive]
      · show (takePending u).events = _
        have events : (takePending u).events = u.events := by simp
        exact events.trans posted.1
    · have posts : Posts (faultRaised d .stuck s) (takePending (raiseFault d .stuck s)) := by
        rw [raiseFault_excludes counts mode]
        exact (posts_judgeSpillOff true _).trans (.of_events (by simp))
      exact fun l => by
        have := posts.continue l
        rwa [raised.1] at this

end Excluded

/-! ### Demand -/

theorem stuck_demand {d : Fin 16} {i : Fin 3} {s : State} (demand : demandInput s i = some d) (due : stuckDue (s.input d) = true) :
    substitutionInForce (takePending (raiseFault d .stuck s)) i = true ∧
      ((takePending (raiseFault d .stuck s)).dfeLane i).substituted = true ∧
      hasDemand (takePending (raiseFault d .stuck s)) i = true := by
  obtain ⟨-, live, -⟩ := (stuckDue_iff _).mp due
  have there := (demandInput_raised d .stuck s i).trans demand
  have raised : (takePending (raiseFault d .stuck s)).input d = raisedFault .stuck (s.input d) := by rw [raised_input, if_pos rfl]
  have force : substitutionInForce (takePending (raiseFault d .stuck s)) i = true := by
    rw [substitutionInForce_of_demand there, raised, substitutes_iff]
    exact ⟨live, .inr (.inl rfl)⟩
  have frame := takePending_frame (raiseFault d .stuck s)
  have before : substitutionInForce (raiseFault d .stuck s) i = true := by rw [← substitutionInForce_congr frame.1]; exact force
  refine ⟨force, ?_, by rw [hasDemand_of_demand there, force, Bool.or_true]⟩
  rw [State.dfeLane, frame.2.1, ← State.dfeLane, raiseFault_dfeLane, if_pos before]

theorem demandInput_falling (d : Fin 16) (s : State) (i : Fin 3) : demandInput (fallingEdge d s) i = demandInput s i :=
  demandInput_edge d false s i

theorem fallen_stuck {x : Input} (stuck : x.faultStuck = true) : (endedFault .stuck x.fall.restartRun).faultStuck = false ∧
    (endedFault .stuck x.fall.restartRun).cond = false ∧ (endedFault .stuck x.fall.restartRun).faultOff = x.faultOff ∧
    (endedFault .stuck x.fall.restartRun).faultChatter = x.faultChatter ∧ (endedFault .stuck x.fall.restartRun).entry = x.entry := by
  simp [endedFault, Input.hasFault, Input.restartRun, Input.fall, Input.setFault, Input.alignRun, stuck]

theorem falling_demand {d : Fin 16} {i : Fin 3} {s : State} (demand : demandInput s i = some d) (stuck : (s.input d).faultStuck = true) :
    ((fallingEdge d s).dfeLane i).substituted = (s.dfeLane i).substituted ∧
      hasDemand (fallingEdge d s) i = substitutionInForce (fallingEdge d s) i ∧
      (substitutionInForce (fallingEdge d s) i = true ↔ (s.input d).entry.faultMode ≠ .ignore ∧
        ((s.input d).faultOff = true ∨ (s.input d).faultChatter = true ∧ (s.input d).entry.faultMode = .exclude)) := by
  have there := (demandInput_falling d s i).trans demand
  obtain ⟨free, cond, off, chatter, entry⟩ := fallen_stuck stuck
  have fallen : (fallingEdge d s).input d = endedFault .stuck (s.input d).fall.restartRun := by rw [fallingEdge_input, if_pos rfl]
  refine ⟨by rw [State.dfeLane, (fallingEdge_frame d s).1, ← State.dfeLane], ?_, ?_⟩
  · rw [hasDemand_of_demand there, fallen, cond, Bool.false_or]
  · rw [substitutionInForce_of_demand there, fallen, substitutes_iff, off, chatter, free, entry]
    simp

/-- Settles O51: the fault and its end, the exclusion under spill, and the lanes' demand. -/
theorem stuckFaultsAreRaisedAndEndAtTheFallingEdge : Obligations.StuckFaultsAreRaisedAndEndAtTheFallingEdge := by
  unfold Obligations.StuckFaultsAreRaisedAndEndAtTheFallingEdge
  intro d s
  refine ⟨stuckDue_iff _, fun idle => ?_, fun due => ?_, fun due role mode => ?_, fun p due role mode free plan group =>
    stuck_excludes due role mode free plan group, fun stuck => ?_, fun i demand => ?_, fun i none => ⟨?_, ?_⟩⟩
  · rw [exec_stuck, if_neg (by rw [idle]; decide)]
  · have run := exec_stuck_due due
    have input := raised_input d .stuck s
    have frame : (takePending (raiseFault d .stuck s)).plans = s.plans ∧ (takePending (raiseFault d .stuck s)).limits = s.limits ∧
        (takePending (raiseFault d .stuck s)).counter = s.counter ∧ (takePending (raiseFault d .stuck s)).records = s.records := by simp
    generalize takePending (raiseFault d .stuck s) = t at *
    have here : t.judgeLines.input d = raisedFault .stuck (s.input d) := (input d).trans (if_pos rfl)
    obtain ⟨-, -, -, on, -⟩ := (stuckDue_iff _).mp due
    refine ⟨_, run, by rw [here]; rfl, by rw [here]; rfl, by rw [here]; rfl, by rw [here]; rfl, by rw [here]; exact on,
      fun e other => (input e).trans (if_neg other), frame⟩
  · have run := exec_stuck_due due
    rw [raiseFault_same (.inl (counts_of_role role)), takePending_of_mode (by simpa [faultRaised, State.mode] using mode)] at run
    obtain ⟨sched, meter, rate, drives, plans⟩ := faultRaised_frame d .stuck s
    have posted := (posted_faultRaised d .stuck s)
    obtain ⟨events, counter⟩ := posted
    generalize faultRaised d .stuck s = u at *
    exact ⟨_, run, events, sched, meter, rate, counter, plans, drives⟩
  · obtain ⟨free, cond, -⟩ := fallen_stuck stuck
    have posted := (posted_fallingEdge d s).1
    rw [stuck] at posted
    rw [fallingEdge_input, if_pos rfl]
    exact ⟨free, cond, posted⟩
  · obtain ⟨role, lane⟩ := demandInput_spec demand
    refine ⟨role, lane, ?_, ?_, fun due => ?_, fun stuck => falling_demand demand stuck⟩
    · rw [substitutionInForce_of_demand demand, substitutes_iff]
    · rw [hasDemand_of_demand demand, Bool.or_eq_true]
    · have run := exec_stuck_due due
      have shown := stuck_demand demand due
      generalize takePending (raiseFault d .stuck s) = t at *
      exact ⟨_, run, shown⟩
  · simp [substitutionInForce, none]
  · simp [hasDemand, none]

end Sys2Proof.StuckFaults
end

section
/-! Spill: its timers, its end with its inputs or its plan, and the hold it ends (O53). -/

namespace Sys2Proof.Spill
open Sys2Proof.Machine Sys2Proof.Steps Sys2Proof.Transitions Sys2Proof.LaneLaws Sys2Proof.Holders Sys2Proof.Inputs Sys2Proof.Releases
open Sys2Proof.PlanChanges Sys2Proof.Edges Sys2Proof.Rising Sys2Proof.StuckFaults Sys2Proof.Filters

/-! ### The first input that meets a test -/

theorem allInputs_split (d : Fin 16) : ∃ before after, allInputs = before ++ d :: after ∧ ∀ e ∈ before, e < d := by
  have split : ∀ d : Fin 16, allInputs = allInputs.take d.val ++ d :: allInputs.drop (d.val + 1) ∧ ∀ e ∈ allInputs.take d.val, e < d := by
    decide
  exact ⟨_, _, split d⟩

theorem find_lowest {q : Fin 16 → Bool} {d : Fin 16} (here : q d = true) (lowest : ∀ e, e < d → q e = false) :
    allInputs.find? q = some d := by
  obtain ⟨before, after, split, below⟩ := allInputs_split d
  rw [List.find?_eq_some_iff_append]
  exact ⟨here, before, after, split, fun e mem => by simp [lowest e (below e mem)]⟩

/-- Whether the run of an input meets spill_time (R50). -/
def meets (time : Nat) (x : Input) : Bool :=
  match x.run with
  | some r => r.on && decide (time ≤ r.time)
  | none => false

theorem spillInput_of_plan {s : State} {p : List Byte} (plan : s.plans.plan = some p) (group : planSpillGroup p = true) :
    spillInput s = allInputs.find? fun d => meets (planSpillTime p * 100) (s.input d) := by
  unfold spillInput meets
  rw [plan]
  exact if_pos group

theorem meets_iff {n : Nat} {x : Input} : meets n x = true ↔ ∃ r, x.run = some r ∧ r.on = true ∧ n ≤ r.time := by
  unfold meets
  cases x.run <;> simp

theorem meets_false {n : Nat} {x : Input} (short : ∀ r, x.run = some r → r.on = false ∨ r.time < n) : meets n x = false := by
  rw [← Bool.not_eq_true, meets_iff]
  rintro ⟨r, run, on, long⟩
  obtain off | less := short r run
  · rw [on] at off
    cases off
  · omega

theorem spillInput_groupless {s : State} (groupless : ∀ p, s.plans.plan = some p → planSpillGroup p = false) : spillInput s = none := by
  unfold spillInput
  cases plan : s.plans.plan with
  | none => rfl
  | some p => simp [groupless p plan]

/-! ### The commands -/

theorem exec_spillOn (s : State) : exec .spillOn s = .next (judgeSpillOn true s).judgeLines := exec_event (c := .spillOn) rfl s

theorem exec_spillOff (s : State) : exec .spillOff s = .next (judgeSpillOff true s).judgeLines := exec_event (c := .spillOff) rfl s

theorem judgeSpillOn_active {s : State} (active : s.rate.spillActive = true) : judgeSpillOn true s = s := by simp [judgeSpillOn, active]

theorem judgeSpillOn_none {s : State} (none : spillInput s = none) : judgeSpillOn true s = s := by
  unfold judgeSpillOn
  rw [none]
  exact ite_self s

theorem judgeSpillOn_some {s : State} {d : Fin 16} (idle : s.rate.spillActive = false) (input : spillInput s = some d) :
    judgeSpillOn true s = spillRises true d s := by simp [judgeSpillOn, idle, input]

theorem judgeSpillOff_idle {s : State} (idle : s.rate.spillActive = false) : judgeSpillOff true s = s := by simp [judgeSpillOff, idle]

theorem judgeSpillOff_case {s : State} {n : Nat} (active : s.rate.spillActive = true) (ends : spillOffCase s = some n) :
    judgeSpillOff true s = spillFalls true n s := by simp [judgeSpillOff, active, ends]

theorem judgeSpillOff_none {s : State} (none : spillOffCase s = none) : judgeSpillOff true s = s := by
  unfold judgeSpillOff
  rw [none]
  exact ite_self s

/-- The state as spill becomes active, before the recombination. -/
def risen (d : Fin 16) (s : State) : State := ({ s with rate := { s.rate with spillActive := true } }).post .spillOn (d.val + 1) 0

theorem spillRises_eq (d : Fin 16) (s : State) : spillRises true d s = endHold .holdEndedSpill (d.val + 1) (recombine (risen d s)) := rfl

theorem recombine_meter (s : State) : (recombine s).meter = s.meter := by simp

theorem spillRises_free {d : Fin 16} {s : State} (free : s.mode ≠ .hold) : spillRises true d s = recombine (risen d s) := by
  have mode : (recombine (risen d s)).mode ≠ .hold := by
    rw [State.mode, recombine_meter]
    exact free
  rw [spillRises_eq]
  unfold endHold
  cases (recombine (risen d s)).meter.hold with
  | none => rfl
  | some h => exact if_neg mode

/-- A hold in force ends as spill becomes active (R52, R101). -/
theorem spillRises_held {d : Fin 16} {s : State} {h : HoldRecord} (mode : s.mode = .hold) (held : s.meter.hold = some h) :
    spillRises true d s = leaveHold .holdEnded ((recombine (risen d s)).post .holdEndedSpill (linkNumber h.owner) (d.val + 1)) := by
  have meter : (recombine (risen d s)).meter = s.meter := recombine_meter (risen d s)
  rw [spillRises_eq]
  unfold endHold
  rw [meter, held]
  exact if_pos (by rw [State.mode, meter]; exact mode)

theorem spillRises_held_facts {d : Fin 16} {s : State} {h : HoldRecord} (mode : s.mode = .hold) (held : s.meter.hold = some h) :
    (spillRises true d s).mode = .metering ∧ (spillRises true d s).meter.hold = none ∧ (spillRises true d s).rate.spillActive = true ∧
      (spillRises true d s).rate = (recombine (risen d s)).rate ∧
      (spillRises true d s).events = (((risen d s).post .holdEndedSpill (linkNumber h.owner) (d.val + 1)).post
        .modeChange 0 (2 * 256 + 8)).events := by
  have spill : (recombine (risen d s)).rate.spillActive = true := recombine_spill (risen d s)
  have posted : Posted [] (risen d s) (recombine (risen d s)) := .quiet (by simp) (by simp)
  rw [spillRises_held mode held]
  generalize recombine (risen d s) = u at *
  have rate : (leaveHold .holdEnded (u.post .holdEndedSpill (linkNumber h.owner) (d.val + 1))).rate = u.rate := by simp
  have all := (posted.trans (posted_post u .holdEndedSpill (linkNumber h.owner) (d.val + 1))).trans (posted_leaveHold .holdEnded _)
  refine ⟨by rw [State.mode, leaveHold_meter], by rw [leaveHold_meter], by rw [rate, spill], rate, all.1⟩

/-! ### The cases that end an active spill -/

theorem mem_countingRuns {s : State} {r : SpillRun} : r ∈ countingRuns s ↔ ∃ d, (s.input d).run = some r := by
  simp [countingRuns, mem_allInputs]

section Cases
variable {s : State} {p : List Byte} (plan : s.plans.plan = some p) (group : planSpillGroup p = true)
include plan group

theorem spillOffCase_eq_ite : spillOffCase s = if (countingRuns s).isEmpty then some 3
    else if (countingRuns s).all fun r => !r.on && decide (planSpillClear p * 100 ≤ r.time) then some 1 else none := by
  simp [spillOffCase, plan, group]

theorem spillOffCase_cleared (some_ : ∃ d, (s.input d).run ≠ none)
    (clear : ∀ d x, (s.input d).run = some x → x.on = false ∧ planSpillClear p * 100 ≤ x.time) : spillOffCase s = some 1 := by
  obtain ⟨d, runs⟩ := some_
  obtain ⟨r, run⟩ := Option.ne_none_iff_exists'.mp runs
  have mem : r ∈ countingRuns s := mem_countingRuns.mpr ⟨d, run⟩
  rw [spillOffCase_eq_ite plan group, if_neg (by simpa using List.ne_nil_of_mem mem), if_pos]
  rw [List.all_eq_true]
  intro x inRuns
  obtain ⟨e, run⟩ := mem_countingRuns.mp inRuns
  simpa using clear e x run

theorem spillOffCase_counting {d : Fin 16} {x : SpillRun} (run : (s.input d).run = some x)
    (short : x.on = true ∨ x.time < planSpillClear p * 100) : spillOffCase s = none := by
  have mem : x ∈ countingRuns s := mem_countingRuns.mpr ⟨d, run⟩
  rw [spillOffCase_eq_ite plan group, if_neg (by simpa using List.ne_nil_of_mem mem), if_neg]
  rw [List.all_eq_true]
  intro all
  have here := all x mem
  simp only [Bool.and_eq_true, Bool.not_eq_true', decide_eq_true_eq] at here
  obtain ⟨off, long⟩ := here
  obtain on | less := short
  · rw [on] at off
    cases off
  · omega

theorem spillOffCase_uncounted (none : ∀ d, (s.input d).run = none) : spillOffCase s = some 3 := by
  rw [spillOffCase_eq_ite plan group, countingRuns_none none]
  rfl

end Cases

theorem spillOffCase_groupless {s : State} (groupless : ∀ p, s.plans.plan = some p → planSpillGroup p = false) : spillOffCase s = some 2 := by
  unfold spillOffCase
  cases plan : s.plans.plan with
  | none => rfl
  | some p => simp [groupless p plan]

/-! ### The run of an input at its edge -/

/-- An input whose faults do not exclude it counts for spill while its role is SPILLBACK (R16, R49). -/
theorem counts_of_free {x : Input} (role : x.entry.role = .spillback) (free : x.entry.faultMode ≠ .exclude ∨ x.anyFault = false) :
    x.counts = true := by
  obtain h | h := free <;> simp [Input.counts, Input.excluded, role, h]

theorem restartRun_counting {x : Input} (counts : x.counts = true) : x.restartRun.run = some ⟨x.cond, 0⟩ := by
  simp [Input.restartRun, counts]

theorem alignRun_counting {x : Input} {r : SpillRun} (counts : x.counts = true) (run : x.run = some r) : x.alignRun.run = some r := by
  simp [Input.alignRun, counts, run]

theorem edge_run {d : Fin 16} {s : State} (level : Bool) (role : (s.input d).entry.role = .spillback)
    (free : (s.input d).entry.faultMode ≠ .exclude ∨ (s.input d).anyFault = false ∧ (s.input d).entry.chatterLimit = 0) :
    ((edge d level s).input d).run = some ⟨level, 0⟩ := by
  cases level
  · have run : (s.input d).fall.restartRun.run = some ⟨false, 0⟩ := restartRun_counting (x := (s.input d).fall)
      (counts_of_free (x := (s.input d).fall) role (free.imp id And.left))
    show ((fallingEdge d s).input d).run = _
    rw [fallingEdge_input, if_pos rfl]
    unfold endedFault
    split
    · next stuck =>
      have warn : (s.input d).entry.faultMode ≠ .exclude := free.elim id fun h => by
        have fault : (s.input d).faultStuck = true := stuck
        simp [Input.anyFault, fault] at h
      exact alignRun_counting (x := (s.input d).fall.restartRun.setFault .stuck false)
        (counts_of_free (x := (s.input d).fall.restartRun.setFault .stuck false) role (.inl warn)) run
    · exact run
  · have run : (s.input d).rise.restartRun.run = some ⟨true, 0⟩ := restartRun_counting (x := (s.input d).rise)
      (counts_of_free (x := (s.input d).rise) role (free.imp id And.left))
    show ((risingEdge d s).input d).run = _
    rw [risingEdge_self]
    have shown : risenInput (s.input d) = if chatterPasses (s.input d) then raisedFault .chatter (s.input d).rise.restartRun
        else (s.input d).rise.restartRun := by
      unfold risenInput
      rw [servesAs_none (by rw [role]; decide)]
      rfl
    rw [shown]
    split
    · next passes =>
      have warn : (s.input d).entry.faultMode ≠ .exclude := free.elim id fun h => by
        obtain ⟨-, -, -, limit, -⟩ := (chatterPasses_iff _).mp passes
        exact absurd h.2 limit
      exact alignRun_counting (x := { (s.input d).rise.restartRun.setFault .chatter true with seen := true })
        (counts_of_free (x := { (s.input d).rise.restartRun.setFault .chatter true with seen := true }) role (.inl warn)) run
    · exact run

/-- Settles O53: the two judgements of spill, the hold that it ends, and the runs at an edge. -/
theorem spillIsTimedOnAndOff : Obligations.SpillIsTimedOnAndOff := by
  unfold Obligations.SpillIsTimedOnAndOff
  refine ⟨fun s p plan group => ⟨fun d idle here lowest => ?_, fun short => ?_, fun active some_ clear => ?_, fun d x run short => ?_,
    fun active none => ?_⟩, fun s groupless => ⟨?_, fun active => ?_⟩, fun s => ⟨fun active => ?_, fun idle => ?_⟩,
    fun d level s role free => edge_run level role free⟩
  · have input : spillInput s = some d := by
      rw [spillInput_of_plan plan group]
      exact find_lowest (meets_iff.mpr here) fun e below => meets_false fun x run => lowest e x below run
    have run := exec_spillOn s
    rw [judgeSpillOn_some idle input] at run
    refine ⟨fun free => ?_, fun h mode held => ?_⟩
    · rw [run, spillRises_free free]
      rfl
    · have facts := spillRises_held_facts (d := d) mode held
      generalize spillRises true d s = t at *
      exact ⟨_, run, facts⟩
  · have none : spillInput s = none := by
      rw [spillInput_of_plan plan group, List.find?_eq_none]
      intro d _
      rw [meets_false (short d)]
      decide
    rw [exec_spillOn, judgeSpillOn_none none]
  · rw [exec_spillOff, judgeSpillOff_case active (spillOffCase_cleared plan group some_ clear)]
    rfl
  · rw [exec_spillOff, judgeSpillOff_none (spillOffCase_counting plan group run short)]
  · rw [exec_spillOff, judgeSpillOff_case active (spillOffCase_uncounted plan group none)]
    rfl
  · rw [exec_spillOn, judgeSpillOn_none (spillInput_groupless groupless)]
  · rw [exec_spillOff, judgeSpillOff_case active (spillOffCase_groupless groupless)]
    rfl
  · rw [exec_spillOn, judgeSpillOn_active active]
  · rw [exec_spillOff, judgeSpillOff_idle idle]

end Sys2Proof.Spill
end

section
/-! Releases: the lane a release goes to, and each occasion on which one is granted (O56). -/

namespace Sys2Proof.Grants
open Sys2Proof.Machine Sys2Proof.Steps Sys2Proof.Transitions Sys2Proof.LaneLaws Sys2Proof.Holders Sys2Proof.Inputs Sys2Proof.Releases
open Sys2Proof.PlanChanges Sys2Proof.Edges Sys2Proof.Rising Sys2Proof.Passages Sys2Proof.Filters Sys2Proof.Cycle Sys2Proof.ModeSteps

/-! ### The lane a release goes to -/

/-- A lane that can take a release: READY with demand (R76). -/
def Can (s : State) (j : Fin 3) : Prop := (s.lane j).state = .ready ∧ hasDemand s j = true

theorem eligible_iff (s : State) (j : Fin 3) : eligible s j = true ↔ Can s j := by simp [eligible, Can]

theorem nextLane_first {s : State} {front back : List (Fin 3)} {i : Fin 3} (ring : s.sched.ring = front ++ i :: back)
    (before : ∀ j ∈ front, ¬ Can s j) (can : Can s i) : nextLane s = some i := by
  unfold nextLane
  rw [List.find?_eq_some_iff_append]
  refine ⟨(eligible_iff s i).mpr can, front, back, ring, fun j mem => ?_⟩
  have not := before j mem
  rw [← eligible_iff] at not
  simpa using not

theorem nextLane_none {s : State} (nobody : ∀ j ∈ s.sched.ring, ¬ Can s j) : nextLane s = none := by
  unfold nextLane
  rw [List.find?_eq_none]
  exact fun j mem => by rw [eligible_iff]; exact nobody j mem

/-- The state in which a lane has taken a release: GREEN for g_rel, the ring as given, and the headway timer from 0. -/
def taken (p : List Byte) (s : State) (i : Fin 3) (ring : List (Fin 3)) : State :=
  { enterLane i ((s.lane i).toGreen (some (planGRel p * 10))) s with
    sched := { (s.setLane i ((s.lane i).toGreen (some (planGRel p * 10)))).sched with ring := ring, elapsed := 0, releasePending := false } }

theorem enterLane_sched (i : Fin 3) (x : Lane) (s : State) : (enterLane i x s).sched = (s.setLane i x).sched := by simp [enterLane]

theorem grant_taken {s : State} {p : List Byte} {front back : List (Fin 3)} {i : Fin 3} (plan : s.plans.plan = some p)
    (ring : s.sched.ring = front ++ i :: back) (fresh : i ∉ front) : grant i s = taken p s i (front ++ back ++ [i]) := by
  have time : greenTime s = planGRel p * 10 := by simp [greenTime, planTime, plan]
  have rest : (enterLane i ((s.lane i).toGreen (some (planGRel p * 10))) s).sched.ring.erase i ++ [i] = front ++ back ++ [i] := by
    rw [(keepsReleases_enterLane i _ s).1, ring, List.erase_append_right _ fresh, List.erase_cons_head]
  rw [grant, time]
  rw [rest, State.setRelease, enterLane_sched]
  rfl

section Due
variable {s : State} {p : List Byte} {front back : List (Fin 3)} {i : Fin 3} (plan : s.plans.plan = some p)
  (ring : s.sched.ring = front ++ i :: back) (before : ∀ j ∈ front, ¬ Can s j) (can : Can s i)
include plan ring before can

theorem releaseDue_taken : releaseDue s = taken p s i (front ++ back ++ [i]) := by
  rw [releaseDue_of_some (nextLane_first ring before can), grant_taken plan ring fun mem => before i mem can]

theorem takePending_taken (mode : s.mode = .metering) (pending : s.sched.releasePending = true) :
    takePending s = taken p s i (front ++ back ++ [i]) := by
  rw [takePending_of_some mode pending (nextLane_first ring before can), grant_taken plan ring fun mem => before i mem can]

end Due

/-- What a lane that takes a pending release shows, and what the others and the blocks keep. -/
theorem taken_facts (p : List Byte) (s : State) (i : Fin 3) (ring : List (Fin 3)) :
    (taken p s i ring).lane i = (s.lane i).toGreen (some (planGRel p * 10)) ∧ (∀ j, j ≠ i → (taken p s i ring).lane j = s.lane j) ∧
      (taken p s i ring).sched.ring = ring ∧ (taken p s i ring).sched.elapsed = 0 ∧ (taken p s i ring).sched.releasePending = false ∧
      (taken p s i ring).sched.headway = s.sched.headway ∧ (taken p s i ring).meter = s.meter ∧ (taken p s i ring).rate = s.rate ∧
      (taken p s i ring).inputs = s.inputs := by
  have lane : ∀ j, (taken p s i ring).lane j = (s.setLane i ((s.lane i).toGreen (some (planGRel p * 10)))).lane j := fun j => rfl
  refine ⟨?_, fun j other => ?_, rfl, rfl, rfl, rfl, ?_, ?_, ?_⟩
  · simp [lane]
  · simp [lane, other]
  all_goals simp [taken]

/-! ### Demand elsewhere -/

theorem hasDemand_other {s t : State} {j : Fin 3} (entries : ∀ d, (t.input d).entry = (s.input d).entry)
    (same : ∀ d, demandInput s j = some d → t.input d = s.input d) : hasDemand t j = hasDemand s j := by
  have there := demandInput_congr (s := s) (t := t) entries j
  cases demand : demandInput s j with
  | none => simp [hasDemand, there, demand]
  | some d => simp [hasDemand, there, demand, same d demand]

theorem judgedEdge_entry (d : Fin 16) (s : State) (e : Fin 16) : ((judgedEdge d s).input e).entry = (s.input e).entry := by
  rw [judgedEdge_input]
  split
  · next here =>
    obtain ⟨-, -, -, -, -, -, entry, -⟩ := keepsSignal_risenInput (s.input d)
    rw [entry, here]
    rfl
  · rfl

theorem judgedEdge_frame {d : Fin 16} {s : State} (role : (s.input d).entry.role ≠ .spillback) : (judgedEdge d s).sched = s.sched ∧
    (judgedEdge d s).meter = s.meter ∧ (judgedEdge d s).rate = s.rate ∧ (judgedEdge d s).plans = s.plans := by
  obtain ⟨sched, meter, plans, rate, -⟩ := demandShown_frame (s.input d) d (s.setInput d (s.input d).rise.restartRun)
  have entry : ((demandShown (s.input d) d (s.setInput d (s.input d).rise.restartRun)).input d).entry = (s.input d).entry := by
    rw [demandShown_input, input_setInput, if_pos rfl]
    split
    · obtain ⟨-, -, -, -, -, -, entry, -⟩ := keepsSignal_endedFault .failedOff (s.input d).rise.restartRun
      exact entry
    · rfl
  unfold judgedEdge
  cases passes : chatterPasses (s.input d)
  · rw [chatterJudged_of_not passes]
    exact ⟨sched, meter, rate, plans⟩
  · rw [chatterJudged_of_passes passes, raiseFault_same (.inl (counts_of_role (by rw [entry]; exact role)))]
    obtain ⟨sched', meter', rate', -, plans'⟩ := faultRaised_frame d .chatter (demandShown (s.input d) d (s.setInput d (s.input d).rise.restartRun))
    exact ⟨sched'.trans sched, meter'.trans meter, rate'.trans rate, plans'.trans plans⟩

theorem judgedEdge_failedOff {d : Fin 16} {s : State} {i : Fin 3} (role : (s.input d).entry.role ≠ .demand) :
    ((judgedEdge d s).dfeLane i).failedOff = (s.dfeLane i).failedOff := by
  have shown : demandShown (s.input d) d (s.setInput d (s.input d).rise.restartRun) = s.setInput d (s.input d).rise.restartRun := by
    rw [demandShown, servesAs_none role]
  unfold judgedEdge
  rw [shown]
  cases passes : chatterPasses (s.input d)
  · rw [chatterJudged_of_not passes]
    rfl
  · rw [chatterJudged_of_passes passes, raiseFault_dfeLane]
    split <;> rfl

/-! ### A recombination -/

/-- The state with a combine run's results in force and its H handed over. -/
def combined (o : RateOut) (s : State) : State :=
  { s with rate := { s.rate with inForce := some o, rPrev := o.rate }, sched := { s.sched with headway := o.headway } }

theorem recombine_changes {s : State} {p : List Byte} (mode : s.mode = .metering) (plan : s.plans.plan = some p)
    (new : s.rate.inForce.map RateOut.headway ≠ some (combineOut s.rate s.limits p (workingLanes s).length).headway) :
    recombine s = handHeadway (combineOut s.rate s.limits p (workingLanes s).length).headway
      (s.putRate (combineOut s.rate s.limits p (workingLanes s).length)) := by
  rw [recombine_of_engaged (.inl mode), runCombine_of_plan false plan]
  exact if_pos (by simpa using new)

theorem recombine_releases {s : State} {p : List Byte} (mode : s.mode = .metering) (plan : s.plans.plan = some p) :
    let o := combineOut s.rate s.limits p (workingLanes s).length
    s.rate.inForce.map RateOut.headway ≠ some o.headway →
      (s.sched.releasePending = true ∨ s.sched.elapsed < o.headway → recombine s = combined o s) ∧
      (s.sched.releasePending = false → o.headway ≤ s.sched.elapsed →
        (∀ (front back : List (Fin 3)) (i : Fin 3), s.sched.ring = front ++ i :: back → (∀ j ∈ front, ¬ Can s j) → Can s i →
          recombine s = taken p (combined o s) i (front ++ back ++ [i])) ∧
        ((∀ j ∈ s.sched.ring, ¬ Can s j) →
          recombine s = { combined o s with sched := { (combined o s).sched with releasePending := true } })) := by
  intro o new
  have changes := recombine_changes mode plan new
  obtain ⟨idle, e⟩ | ⟨-, clear, reached, e⟩ := handHeadway_cases o.headway (s.putRate o)
  · have idle' : s.sched.releasePending = true ∨ s.sched.elapsed < o.headway := idle.resolve_left fun out => out mode
    refine ⟨fun _ => changes.trans e, fun clear reached => ?_⟩
    obtain pending | early := idle'
    · rw [clear] at pending
      cases pending
    · exact absurd reached (Nat.not_le.mpr early)
  · refine ⟨fun idle => ?_, fun _ _ => ⟨fun front back i ring before can => ?_, fun nobody => ?_⟩⟩
    · obtain pending | early := idle
      · rw [show s.sched.releasePending = false from clear] at pending
        cases pending
      · exact absurd reached (Nat.not_le.mpr early)
    · rw [changes, e]
      exact releaseDue_taken (s := combined o s) plan ring before can
    · rw [changes, e]
      exact releaseDue_of_none (s := combined o s) (nextLane_none (s := combined o s) nobody)

/-! ### A release that a detector brings about -/

/-- A lane whose DEMAND input comes on takes the pending release (R7, R77). -/
theorem risingEdge_taken {d : Fin 16} {i : Fin 3} {s : State} {p : List Byte} {front back : List (Fin 3)} (mode : s.mode = .metering)
    (plan : s.plans.plan = some p) (pending : s.sched.releasePending = true) (demand : demandInput s i = some d)
    (ring : s.sched.ring = front ++ i :: back) (before : ∀ j ∈ front, j ≠ i ∧ ¬ Can s j) (ready : (s.lane i).state = .ready) :
    risingEdge d s = taken p (judgedEdge d s) i (front ++ back ++ [i]) := by
  obtain ⟨role, lane⟩ := demandInput_spec demand
  obtain ⟨sched, meter, -, plans⟩ := judgedEdge_frame (d := d) (s := s) (by rw [role]; decide)
  have lanes : ∀ j, (judgedEdge d s).lane j = s.lane j := fun j => by rw [State.lane, sched]; rfl
  have there := (demandInput_congr (judgedEdge_entry d s) i).trans demand
  have on : hasDemand (judgedEdge d s) i = true := by
    obtain ⟨cond, -⟩ := keepsSignal_risenInput (s.input d)
    rw [hasDemand_of_demand there, judgedEdge_input, if_pos rfl, cond]
    rfl
  rw [risingEdge_judged, passageTaken_none (servesAs_none (by rw [role]; decide))]
  refine takePending_taken (by rw [plans]; exact plan) (by rw [sched]; exact ring) (fun j mem => ?_) ⟨by rw [lanes]; exact ready, on⟩
    (by rw [State.mode, meter]; exact mode) (by rw [sched]; exact pending)
  obtain ⟨other, cannot⟩ := before j mem
  have same : hasDemand (judgedEdge d s) j = hasDemand s j := hasDemand_other (judgedEdge_entry d s) fun e demanded => by
    rw [judgedEdge_input, if_neg]
    rintro rfl
    exact other (Option.some.inj ((demandInput_spec demanded).2.symm.trans lane))
  rw [Can, lanes, same]
  exact cannot

/-- A lane that a failed-off fault gives demand takes the pending release (R14, R77). -/
theorem passage_taken {e d : Fin 16} {i : Fin 3} {s : State} {p : List Byte} {front back : List (Fin 3)} (mode : s.mode = .metering)
    (plan : s.plans.plan = some p) (pending : s.sched.releasePending = true) (demand : demandInput s i = some d)
    (off : (s.input d).cond = false) (two : (s.dfeLane i).failedOff = 2) (detects : (s.input d).detects = true)
    (free : (s.input d).faultOff = false) (role : (s.input e).entry.role = .passage) (lane : (s.input e).entry.lane = some i)
    (ring : s.sched.ring = front ++ i :: back) (before : ∀ j ∈ front, j ≠ i ∧ ¬ Can s j) (ready : (s.lane i).state = .ready)
    (counted : classify (s.lane i) ≠ .uncounted) :
    risingEdge e s = taken p (passage i (judgedEdge e s)) i (front ++ back ++ [i]) ∧
      ((passage i (judgedEdge e s)).input d).faultOff = true ∧
      (∀ j, (passage i (judgedEdge e s)).lane j = if j = i then (s.lane i).pass (classify (s.lane i)) else s.lane j) ∧
      (passage i (judgedEdge e s)).sched.headway = s.sched.headway := by
  have other : d ≠ e := by
    rintro rfl
    rw [(demandInput_spec demand).1] at role
    cases role
  obtain ⟨sched, meter, -, plans⟩ := judgedEdge_frame (d := e) (s := s) (by rw [role]; decide)
  have lanes : ∀ j, (judgedEdge e s).lane j = s.lane j := fun j => by rw [State.lane, sched]; rfl
  have input : (judgedEdge e s).input d = s.input d := by rw [judgedEdge_input, if_neg other]
  have there := (demandInput_congr (judgedEdge_entry e s) i).trans demand
  have failed := judgedEdge_failedOff (d := e) (s := s) (i := i) (by rw [role]; decide)
  have entries := judgedEdge_entry e s
  have inputs := judgedEdge_input e s
  have serves := passageTaken_some (s := judgedEdge e s) (servesAs_eq_some.mpr ⟨role, lane⟩)
  rw [risingEdge_judged, serves]
  generalize judgedEdge e s = v at *
  have counts : classify (v.lane i) ≠ .uncounted := by rw [lanes]; exact counted
  have notice := passage_counted counts
  have raises := passageNotice_raises (s := v.setLane i ((v.lane i).pass (classify (v.lane i)))) there (by rw [← input] at off; exact off)
    (failed.trans two) (by rw [← input] at detects; exact detects) (by rw [← input] at free; exact free)
  obtain ⟨fault, -, -, -, -, on, -⟩ := passageNotice_raised (s := v.setLane i ((v.lane i).pass (classify (v.lane i)))) there
    (by rw [← input] at off; exact off) (failed.trans two) (by rw [← input] at detects; exact detects) (by rw [← input] at free; exact free)
  rw [← notice] at raises fault on
  have psched : (passage i v).sched = (v.setLane i ((v.lane i).pass (classify (v.lane i)))).sched := by
    rw [raises]
    exact (faultRaised_frame d .failedOff _).1
  have plane : ∀ j, (passage i v).lane j = if j = i then (s.lane i).pass (classify (s.lane i)) else s.lane j := fun j => by
    rw [State.lane, psched, ← State.lane, lane_setLane, lanes, lanes]
  obtain ⟨⟨pring, -, ppending, pheadway⟩, pmode⟩ := passage_releases i v
  have pplans : (passage i v).plans = v.plans := by simp
  have pinput := passage_input i v
  have pentry : ∀ f, ((passage i v).input f).entry = (s.input f).entry := fun f => by
    rw [← entries f]
    obtain same | ⟨-, raised⟩ := pinput f
    · rw [same]
    · rw [raised]
      rfl
  have pready : ((passage i v).lane i).state = .ready := by
    rw [plane, if_pos rfl, ← ready]
    cases classify (s.lane i) <;> rfl
  refine ⟨takePending_taken (by rw [pplans, plans]; exact plan) (by rw [pring, sched]; exact ring) (fun j mem => ?_) ⟨pready, on⟩
    (by rw [pmode, State.mode, meter]; exact mode) (by rw [ppending, sched]; exact pending), fault, plane, by rw [pheadway, sched]⟩
  obtain ⟨apart, cannot⟩ := before j mem
  have same : hasDemand (passage i v) j = hasDemand s j := hasDemand_other pentry fun f demanded => by
    obtain ⟨frole, flane⟩ := demandInput_spec demanded
    have fe : f ≠ e := by
      rintro rfl
      rw [frole] at role
      cases role
    have fv : v.input f = s.input f := by rw [inputs, if_neg fe]
    obtain same | ⟨asked, -⟩ := pinput f
    · rw [same, fv]
    · have flane' : (v.input f).entry.lane = some i := (demandInput_spec asked).2
      rw [entries] at flane'
      exact absurd (Option.some.inj (flane.symm.trans flane')) apart
  rw [Can, plane, if_neg apart, same]
  exact cannot

/-- The raw level and the filter of an input give no lane demand and take none. -/
theorem can_setRaw {d : Fin 16} {s : State} (j : Fin 3) (spared : ∀ e, demandInput s j = some e → e ≠ d) :
    Can (s.setInput d { s.input d with raw := true, filter := none }) j ↔ Can s j := by
  have same : hasDemand (s.setInput d { s.input d with raw := true, filter := none }) j = hasDemand s j := by
    refine hasDemand_other (fun e => ?_) fun e demanded => ?_
    · rw [input_setInput]
      split
      · next here => rw [here]
      · rfl
    · rw [input_setInput, if_neg (spared e demanded)]
  rw [Can, same]
  rfl

theorem demandInput_setRaw (d : Fin 16) (s : State) (i : Fin 3) :
    demandInput (s.setInput d { s.input d with raw := true, filter := none }) i = demandInput s i := by
  refine demandInput_congr (fun e => ?_) i
  rw [input_setInput]
  split
  · next here => rw [here]
  · rfl

theorem exec_headway (s : State) : exec .headwayExpiry s = .next (if headwayDue s then releaseDue s else s).judgeLines :=
  exec_event (c := .headwayExpiry) rfl s

/-- A red that ends in METERING, where no stop stands. -/
theorem exec_red_metering {s : State} {i : Fin 3} {p : List Byte} (mode : s.mode = .metering) (plan : s.plans.plan = some p)
    (wish : wanted s ≠ .stop) (red : (s.lane i).state = .red) (out : (s.lane i).timer = some 0) :
    exec (.redTimerExpiry i) s = .next (takePending (enterLane i (s.lane i).toReady s)).judgeLines :=
  (exec_cycle plan ⟨.inl ⟨.inl mode, wish⟩, .inl mode⟩).2.2 red out

/-! ### The obligation -/

/-- Settles O56: every occasion on which a release is granted goes by the first lane of the ring that can take it. -/
theorem aReleaseGoesToTheFirstReadyLaneWithDemand : Obligations.AReleaseGoesToTheFirstReadyLaneWithDemand := by
  unfold Obligations.AReleaseGoesToTheFirstReadyLaneWithDemand
  intro s p mode plan
  refine ⟨fun clear reached => ⟨fun front back i ring before can => ?_, fun nobody => ?_⟩, fun idle => ?_,
    fun pending i red out wish => ⟨fun front back j ring before can => ?_, fun nobody => ?_⟩, ?_, ?_, recombine_releases mode plan⟩
  · have due : headwayDue s = true := by simp [headwayDue, mode, clear, reached]
    rw [exec_headway, if_pos due, releaseDue_taken plan ring before can]
    rfl
  · have due : headwayDue s = true := by simp [headwayDue, mode, clear, reached]
    rw [exec_headway, if_pos due, releaseDue_of_none (nextLane_none nobody)]
    rfl
  · have idle' : headwayDue s = false := by
      obtain pending | early := idle
      · simp [headwayDue, pending]
      · simp [headwayDue, Nat.not_le.mpr early]
    rw [exec_headway, idle']
    rfl
  · rw [exec_red_metering mode plan wish red out, takePending_taken (s := enterLane i (s.lane i).toReady s) (by simpa using plan)
      ((keepsReleases_enterLane i _ s).1.trans ring) before can ((enterLane_mode s i _).trans mode)
      ((keepsReleases_enterLane i _ s).2.2.1.trans pending)]
    rfl
  · have nobody' : ∀ j ∈ (enterLane i (s.lane i).toReady s).sched.ring, ¬ Can (enterLane i (s.lane i).toReady s) j := by
      rw [(keepsReleases_enterLane i _ s).1]
      exact nobody
    rw [exec_red_metering mode plan wish red out, takePending_of_none (nextLane_none nobody')]
  · intro e d i front back pending demand off two detects free role lane raw cond filter ring before ready counted
    have other : d ≠ e := by
      rintro rfl
      rw [(demandInput_spec demand).1] at role
      cases role
    have run := exec_rawChange e true s
    rw [rawChange_edge (d := e) (level := true) (by rw [raw]; decide) (by rw [cond]; decide) filter] at run
    have here : (s.setInput e { s.input e with raw := true, filter := none }).input d = s.input d := by rw [input_setInput, if_neg other]
    have mine : (s.setInput e { s.input e with raw := true, filter := none }).input e = { s.input e with raw := true, filter := none } := by
      rw [input_setInput, if_pos rfl]
    obtain ⟨is, fault, lanes, headway⟩ := passage_taken (e := e) (d := d) (s := s.setInput e { s.input e with raw := true, filter := none })
      mode plan pending ((demandInput_setRaw e s i).trans demand) (by rw [here]; exact off) two (by rw [here]; exact detects)
      (by rw [here]; exact free) (by rw [mine]; exact role) (by rw [mine]; exact lane) ring
      (fun j mem => ⟨(before j mem).1, fun can => (before j mem).2 ((can_setRaw j fun f demanded => by
        rintro rfl
        rw [(demandInput_spec demanded).1] at role
        cases role).mp can)⟩) ready counted
    have meter : (passage i (judgedEdge e (s.setInput e { s.input e with raw := true, filter := none }))).meter = s.meter := by
      have edge_ := judgedEdge_frame (d := e) (s := s.setInput e { s.input e with raw := true, filter := none }) (by rw [mine, role]; decide)
      have passed : ∀ u : State, (passage i u).meter = u.meter := fun u => by simp
      exact (passed _).trans edge_.2.1
    rw [show edge e true (s.setInput e { s.input e with raw := true, filter := none }) = _ from is] at run
    generalize passage i (judgedEdge e (s.setInput e { s.input e with raw := true, filter := none })) = v at *
    obtain ⟨tlane, others, tring, elapsed, tpending, theadway, tmeter, -, inputs⟩ := taken_facts p v i (front ++ back ++ [i])
    have vlane : v.lane i = (s.lane i).pass (classify (s.lane i)) := by rw [lanes, if_pos rfl]; rfl
    generalize taken p v i (front ++ back ++ [i]) = t at *
    refine ⟨_, run, ?_, by rw [lane_judgeLines, tlane, vlane], fun j ne => ?_, tring, elapsed, tpending, theadway.trans headway,
      tmeter.trans meter⟩
    · show (t.input d).faultOff = true
      rw [State.input, inputs]
      exact fault
    · rw [lane_judgeLines, others j ne, lanes, if_neg ne]
      rfl
  · intro c d i front back pending comes demand off ring before ready
    have spared : ∀ j ∈ front, ∀ e, demandInput s j = some e → e ≠ d := by
      rintro j mem e demanded rfl
      exact (before j mem).1 (Option.some.inj ((demandInput_spec demanded).2.symm.trans (demandInput_spec demand).2))
    have risen : ∃ u : State, exec c s = .next (risingEdge d u).judgeLines ∧ demandInput u i = some d ∧ u.sched = s.sched ∧
        u.meter = s.meter ∧ u.plans = s.plans ∧ u.rate = s.rate ∧ ∀ j ∈ front, j ≠ i ∧ ¬ Can u j := by
      obtain ⟨rfl, raw, filter⟩ | ⟨rfl, raw, out⟩ := comes
      · have run := exec_rawChange d true s
        rw [rawChange_edge (d := d) (level := true) (by rw [raw]; decide) (by rw [off]; decide) filter] at run
        exact ⟨_, run, (demandInput_setRaw d s i).trans demand, rfl, rfl, rfl, rfl,
          fun j mem => ⟨(before j mem).1, fun can => (before j mem).2 ((can_setRaw j (spared j mem)).mp can)⟩⟩
      · have run := exec_filterExpiry d s
        rw [if_pos out, raw] at run
        exact ⟨s, run, demand, rfl, rfl, rfl, rfl, before⟩
    obtain ⟨u, run, udemand, usched, umeter, uplans, urate, ubefore⟩ := risen
    have ulane : ∀ j, u.lane j = s.lane j := fun j => by rw [State.lane, usched]; rfl
    rw [risingEdge_taken (by rw [State.mode, umeter]; exact mode) (by rw [uplans]; exact plan) (by rw [usched]; exact pending) udemand
      (by rw [usched]; exact ring) ubefore (by rw [ulane]; exact ready)] at run
    obtain ⟨vsched, vmeter, vrate, -⟩ := judgedEdge_frame (d := d) (s := u) (by rw [(demandInput_spec udemand).1]; decide)
    generalize judgedEdge d u = v at *
    have vlane : ∀ j, v.lane j = s.lane j := fun j => by rw [← ulane, State.lane, vsched]; rfl
    obtain ⟨tlane, others, tring, elapsed, tpending, theadway, tmeter, trate, -⟩ := taken_facts p v i (front ++ back ++ [i])
    generalize taken p v i (front ++ back ++ [i]) = t at *
    refine ⟨_, run, by rw [lane_judgeLines, tlane, vlane], fun j ne => by rw [lane_judgeLines, others j ne, vlane], tring, elapsed, tpending,
      theadway.trans (by rw [vsched, usched]), tmeter.trans (vmeter.trans umeter), trate.trans (vrate.trans urate)⟩

end Sys2Proof.Grants
end

section
/-! The checks of a detector map: each field in its range, then the tally of each role (O52). -/

namespace Sys2Proof.MapChecks
open Sys2Proof.Machine Sys2Proof.Steps Sys2Proof.Payloads Sys2Proof.Inputs

/-! ### The first failure among checks in the order of their offsets -/

/-- Checks whose offsets ascend. -/
def Ascending (cs : List FieldCheck) : Prop := cs.Pairwise fun a b => a.2 < b.2

theorem firstFailure_lowest {cs : List FieldCheck} {c : FieldCheck} (order : Ascending cs) (mem : c ∈ cs) (fails : c.1 = false)
    (lowest : ∀ x ∈ cs, x.2 < c.2 → x.1 = true) : firstFailure cs = some c.2 := by
  obtain ⟨before, after, split⟩ := List.append_of_mem mem
  subst split
  obtain ⟨-, -, below⟩ := List.pairwise_append.mp order
  have pass : firstFailure before = none :=
    firstFailure_eq_none.mpr fun x inBefore => lowest x (by simp [inBefore]) (below x inBefore c (List.mem_cons_self ..))
  rw [firstFailure_append, pass, Option.none_or]
  simp [firstFailure, fails]

/-! ### Fields -/

/-- The test of the field at a place of an input's entry. -/
def fieldTest (p : List Byte) (d : Fin 16) (j : Nat) : Bool :=
  let b := fun n => byteAt p (d.val * 8 + n)
  match j with
  | 0 => inRange 0 6 (b 0)
  | 1 => if roleHasLane (b 0) then inRange 1 3 (b 1) else b 1 == 0
  | 2 => inRange 0 10 (b 2)
  | 3 => inRange 0 10 (b 3)
  | 4 => inRange 0 3600 (word16At p (d.val * 8 + 4))
  | 6 => inRange 0 255 (b 6)
  | 7 => inRange 0 2 (b 7)
  | _ => true

/-- The places of an entry at which a field begins. -/
def fieldPlaces : List Nat := [0, 1, 2, 3, 4, 6, 7]

theorem entryChecks_eq (p : List Byte) (d : Fin 16) :
    entryChecks p d = fieldPlaces.map fun j => (fieldTest p d j, d.val * 8 + j) := rfl

theorem roleHasLane_iff {n : Nat} : roleHasLane n = true ↔ n = 3 ∨ n = 4 := by simp [roleHasLane]

theorem byteAt_le (p : List Byte) (k : Nat) : byteAt p k ≤ 255 := by
  have := (p.getD k 0).isLt
  unfold byteAt
  omega

theorem fieldTest_iff (p : List Byte) (d : Fin 16) {j : Nat} (place : j < 8) : fieldTest p d j = true ↔ MapFieldOk p d j := by
  have offset : d.val * 8 = 8 * d.val := Nat.mul_comm ..
  have top : byteAt p (8 * d.val + 6) ≤ 255 := byteAt_le ..
  unfold fieldTest MapFieldOk
  rw [offset]
  interval_cases j
  · simp [inRange]
  · simp only [Nat.add_zero, ← roleHasLane_iff]
    cases roleHasLane (byteAt p (8 * d.val)) <;> simp [inRange]
  all_goals simp [inRange, top]

/-- The checks of the fields pass exactly if every field is in its range. -/
theorem fieldChecks_pass (p : List Byte) :
    (∀ c ∈ (allInputs.map (entryChecks p)).flatten, c.1 = true) ↔ ∀ d, ∀ j < 8, MapFieldOk p d j := by
  constructor
  · intro pass d j place
    by_cases begins : j ∈ fieldPlaces
    · rw [← fieldTest_iff p d place]
      refine pass (fieldTest p d j, d.val * 8 + j) ?_
      rw [← List.flatMap_def, List.mem_flatMap]
      exact ⟨d, mem_allInputs d, by rw [entryChecks_eq]; exact List.mem_map_of_mem begins⟩
    · have five : j = 5 := by
        simp only [fieldPlaces, List.mem_cons, List.not_mem_nil] at begins
        omega
      subst five
      trivial
  · intro ok c mem
    rw [← List.flatMap_def, List.mem_flatMap] at mem
    obtain ⟨d, -, mem⟩ := mem
    rw [entryChecks_eq, List.mem_map] at mem
    obtain ⟨j, begins, rfl⟩ := mem
    have place : j < 8 := by revert j; decide
    exact (fieldTest_iff p d place).mpr (ok d j place)

theorem fieldChecks_ascending (p : List Byte) : Ascending (allInputs.map (entryChecks p)).flatten := by
  have offsets : ((allInputs.map (entryChecks p)).flatten.map (·.2)).Pairwise (· < ·) := by
    show ((allInputs.map fun d => fieldPlaces.map fun j => d.val * 8 + j).flatten).Pairwise (· < ·)
    decide +kernel
  exact List.pairwise_map.mp offsets

theorem firstFailure_field {p : List Byte} {d : Fin 16} {j : Nat} (place : j < 8) (fails : ¬ MapFieldOk p d j)
    (lowest : ∀ (e : Fin 16) (n : Nat), n < 8 → 8 * e.val + n < 8 * d.val + j → MapFieldOk p e n) :
    firstFailure (mapChecks p) = some (8 * d.val + j) := by
  have begins : j ∈ fieldPlaces := by
    have other : j ≠ 5 := by
      rintro rfl
      exact fails trivial
    simp only [fieldPlaces, List.mem_cons, List.not_mem_nil, or_false]
    omega
  have first : firstFailure (allInputs.map (entryChecks p)).flatten = some (d.val * 8 + j) := by
    refine firstFailure_lowest (c := (fieldTest p d j, d.val * 8 + j)) (fieldChecks_ascending p) ?_ ?_ fun x mem below => ?_
    · rw [← List.flatMap_def, List.mem_flatMap]
      exact ⟨d, mem_allInputs d, by rw [entryChecks_eq]; exact List.mem_map_of_mem begins⟩
    · rwa [← Bool.not_eq_true, fieldTest_iff p d place]
    · rw [← List.flatMap_def, List.mem_flatMap] at mem
      obtain ⟨e, -, mem⟩ := mem
      rw [entryChecks_eq, List.mem_map] at mem
      obtain ⟨n, begins, rfl⟩ := mem
      have inside : n < 8 := by clear below; revert n; decide
      refine (fieldTest_iff p e inside).mpr (lowest e n inside ?_)
      dsimp only at below
      omega
  rw [mapChecks, firstFailure_append, first, Option.some_or, Nat.mul_comm]

/-! ### The entry that a payload in range holds -/

/-- The number of a lane in a map entry, 0 for no lane. -/
def laneByte (l : Option (Fin 3)) : Nat := (l.map fun i => i.val + 1).getD 0

theorem roleOf_code {n : Nat} (range : n ≤ 6) : (roleOf n).code = n := by interval_cases n <;> rfl

theorem faultModeOf_code {n : Nat} (range : n ≤ 2) : (faultModeOf n).code = n := by interval_cases n <;> rfl

theorem role_code_injective : Function.Injective Role.code :=
  Function.LeftInverse.injective (g := roleOf) fun a => by cases a <;> rfl

theorem laneByte_injective : Function.Injective laneByte := by
  intro a b same
  revert a b
  decide

section Entry
variable {p : List Byte} {d : Fin 16} (ok : ∀ j < 8, MapFieldOk p d j)
include ok

theorem entryOf_role : (entryOf p d).role.code = byteAt p (8 * d.val) := by
  have range : byteAt p (8 * d.val) ≤ 6 := ok 0 (by omega)
  rw [Nat.mul_comm] at range ⊢
  exact roleOf_code range

theorem entryOf_lane : laneByte (entryOf p d).lane = byteAt p (8 * d.val + 1) := by
  have range : if byteAt p (8 * d.val) = 3 ∨ byteAt p (8 * d.val) = 4 then 1 ≤ byteAt p (8 * d.val + 1) ∧ byteAt p (8 * d.val + 1) ≤ 3
      else byteAt p (8 * d.val + 1) = 0 := ok 1 (by omega)
  rw [Nat.mul_comm] at range ⊢
  unfold entryOf
  simp only [← roleHasLane_iff] at range ⊢
  generalize byteAt p (d.val * 8 + 1) = n at *
  split at range
  · next has =>
    obtain ⟨low, high⟩ := range
    rw [if_pos has]
    interval_cases n <;> rfl
  · next hasNot =>
    rw [if_neg hasNot, range]
    rfl

theorem entryOf_faultMode : (entryOf p d).faultMode.code = byteAt p (8 * d.val + 7) := by
  have range : byteAt p (8 * d.val + 7) ≤ 2 := ok 7 (by omega)
  rw [Nat.mul_comm] at range ⊢
  exact faultModeOf_code range

end Entry

/-! ### Tallies -/

section Tally
variable {p : List Byte} (ok : ∀ d, ∀ j < 8, MapFieldOk p d j)
include ok

theorem tallyAt_eq (d : Fin 16) : tallyAt p d = (allInputs.filter fun e => decide (e ≤ d) && byteAt p (8 * e.val) == byteAt p (8 * d.val) &&
    byteAt p (8 * e.val + 1) == byteAt p (8 * d.val + 1)).length := by
  have role : ∀ e, ((entryOf p e).role == (entryOf p d).role) = (byteAt p (8 * e.val) == byteAt p (8 * d.val)) := fun e => by
    rw [Bool.eq_iff_iff, beq_iff_eq, beq_iff_eq, ← entryOf_role (ok e), ← entryOf_role (ok d), role_code_injective.eq_iff]
  have lane : ∀ e, ((entryOf p e).lane == (entryOf p d).lane) = (byteAt p (8 * e.val + 1) == byteAt p (8 * d.val + 1)) := fun e => by
    rw [Bool.eq_iff_iff, beq_iff_eq, beq_iff_eq, ← entryOf_lane (ok e), ← entryOf_lane (ok d), laneByte_injective.eq_iff]
  simp only [tallyAt, role, lane, Fin.le_def]

theorem structureCheck_iff (d : Fin 16) : (structureCheck p d).1 = true ↔ MapTallyOk p d := by
  have most : tallyAt p d ≤ 16 := List.length_filter_le ..
  unfold structureCheck MapTallyOk
  rw [← tallyAt_eq ok, ← entryOf_role (ok d)]
  cases (entryOf p d).role <;> simp [Role.code, most]

end Tally

theorem structureChecks_ascending (p : List Byte) : Ascending (allInputs.map (structureCheck p)) := by
  have offsets : ((allInputs.map (structureCheck p)).map (·.2)).Pairwise (· < ·) := by
    show (allInputs.map fun d => d.val * 8).Pairwise (· < ·)
    decide
  exact List.pairwise_map.mp offsets

theorem mapChecks_pass (p : List Byte) :
    firstFailure (mapChecks p) = none ↔ (∀ d, ∀ j < 8, MapFieldOk p d j) ∧ ∀ d, MapTallyOk p d := by
  rw [firstFailure_eq_none, mapChecks, List.forall_mem_append, fieldChecks_pass, List.forall_mem_map]
  refine and_congr_right fun ok => ?_
  simp [structureCheck_iff ok, mem_allInputs]

theorem firstFailure_tally {p : List Byte} {d : Fin 16} (ok : ∀ e, ∀ j < 8, MapFieldOk p e j) (fails : ¬ MapTallyOk p d)
    (lowest : ∀ e, e < d → MapTallyOk p e) : firstFailure (mapChecks p) = some (8 * d.val) := by
  have pass : firstFailure (allInputs.map (entryChecks p)).flatten = none := firstFailure_eq_none.mpr ((fieldChecks_pass p).mpr ok)
  have first : firstFailure (allInputs.map (structureCheck p)) = some (d.val * 8) := by
    refine firstFailure_lowest (c := structureCheck p d) (structureChecks_ascending p) (List.mem_map_of_mem (mem_allInputs d)) ?_
      fun x mem below => ?_
    · rwa [← Bool.not_eq_true, structureCheck_iff ok]
    · obtain ⟨e, -, rfl⟩ := List.mem_map.mp mem
      have less : e.val * 8 < d.val * 8 := below
      exact (structureCheck_iff ok e).mpr (lowest e (Fin.lt_def.mpr (by omega)))
  rw [mapChecks, firstFailure_append, pass, Option.none_or, first, Nat.mul_comm]

end Sys2Proof.MapChecks
end

section
/-! An accepted detector map, and the refusals of one (O52). -/

namespace Sys2Proof.MapWriting
open Sys2Proof.Machine Sys2Proof.Steps Sys2Proof.Steady Sys2Proof.Transitions Sys2Proof.LaneLaws Sys2Proof.Inputs Sys2Proof.PlanChanges
open Sys2Proof.Activations Sys2Proof.Manual Sys2Proof.Edges Sys2Proof.Spill Sys2Proof.MapChecks Sys2Proof.Cycle

/-! ### An input without its faults, under its new entry -/

/-- An input whose faults have all ended. -/
def freed (x : Input) : Input := endedFault .failedOff (endedFault .chatter (endedFault .stuck x))

theorem endedFault_idle {k : FaultKind} {x : Input} (idle : x.hasFault k = false) : endedFault k x = x := by simp [endedFault, idle]

theorem endedFault_hasFault (k j : FaultKind) (x : Input) :
    (endedFault k x).hasFault j = if j = k then false else x.hasFault j := by
  unfold endedFault
  split
  · cases k <;> cases j <;> rfl
  · next idle =>
    split
    · next same => rw [same, Bool.eq_false_of_not_eq_true idle]
    · rfl

theorem anyFault_eq (x : Input) : x.anyFault = (x.hasFault .stuck || x.hasFault .chatter || x.hasFault .failedOff) := rfl

theorem freed_anyFault (x : Input) : (freed x).anyFault = false := by
  simp [anyFault_eq, freed, endedFault_hasFault]

theorem freed_idle {x : Input} (idle : x.anyFault = false) : freed x = x := by
  simp only [anyFault_eq, Bool.or_eq_false_iff] at idle
  obtain ⟨⟨stuck, chatter⟩, off⟩ := idle
  rw [freed, endedFault_idle stuck, endedFault_idle chatter, endedFault_idle off]

theorem keepsSignal_freed (x : Input) : KeepsSignal x (freed x) :=
  ((keepsSignal_endedFault _ _).trans (keepsSignal_endedFault _ _)).trans (keepsSignal_endedFault _ _)

theorem endedFault_seen (k : FaultKind) (x : Input) : (endedFault k x).seen = x.seen := by
  unfold endedFault
  split
  · cases k <;> rfl
  · rfl

theorem freed_seen (x : Input) : (freed x).seen = x.seen := by simp only [freed, endedFault_seen]

section Remap
variable (e : MapEntry) (x : Input)

theorem remap_run (idle : x.anyFault = false) :
    (x.remap e).run = if e.role = .spillback then some (x.run.getD ⟨x.cond, 0⟩) else none := by
  have counts : ({ x with entry := e, stuck := 0, filter := x.filter.map fun _ => e.filterTime x.raw } : Input).counts =
      (e.role == .spillback) := by
    have none : ({ x with entry := e, stuck := 0, filter := x.filter.map fun _ => e.filterTime x.raw } : Input).anyFault = false := idle
    simp [Input.counts, Input.excluded, none]
  simp [Input.remap, Input.alignRun, counts]

end Remap

/-! ### The map written -/

theorem endFaultsByMap_onInput : OnInput (fun s d => endFaultsByMap d s) fun _ => freed := by
  intro s d e
  have ended : ∀ k (t : State), (endFault d k 2 t).input e = if e = d then endedFault k (t.input d) else t.input e :=
    fun k t => endFault_onInput k 2 t d e
  show (endFault d .failedOff 2 (endFault d .chatter 2 (endFault d .stuck 2 s))).input e = _
  by_cases here : e = d
  · subst here
    simp only [ended, if_pos]
    rfl
  · simp only [ended, if_neg here]

theorem remap_onInput (p : List Byte) :
    OnInput (fun s d => s.setInput d ((s.input d).remap (entryOf p d))) fun d x => x.remap (entryOf p d) :=
  fun s d e => input_setInput s d e _

theorem mapWritten_input (p : List Byte) (s : State) (d : Fin 16) :
    (mapWritten p s).input d = (freed (s.input d)).remap (entryOf p d) := by
  have inputs : (mapWritten p s).inputs = (allInputs.foldl (fun s d => s.setInput d ((s.input d).remap (entryOf p d)))
      (allInputs.foldl (fun s d => endFaultsByMap d s) s)).inputs := orderEach_inputs _ (by simp) _ _
  rw [State.input, inputs, ← State.input, input_all (remap_onInput p), input_all endFaultsByMap_onInput]

/-- The DET_RECOVERED of each fault that a map ends on an input. -/
def recoveries (d : Fin 16) (x : Input) : List (EventKind × Nat × Nat) :=
  (if x.faultStuck then [(.detRecovered, d.val + 1, 1 * 256 + 2)] else []) ++
    (if x.faultChatter then [(.detRecovered, d.val + 1, 2 * 256 + 2)] else []) ++
    (if x.faultOff then [(.detRecovered, d.val + 1, 3 * 256 + 2)] else [])

theorem posted_endFaultsByMap (s : State) (d : Fin 16) : Posted (recoveries d (s.input d)) s (endFaultsByMap d s) := by
  have input : ∀ k (t : State), (endFault d k 2 t).input d = endedFault k (t.input d) := fun k t =>
    (endFault_onInput k 2 t d d).trans (if_pos rfl)
  have all := ((posted_endFault d .stuck 2 s).trans (posted_endFault d .chatter 2 _)).trans (posted_endFault d .failedOff 2 _)
  simp only [input, endedFault_hasFault] at all
  exact all

theorem posted_mapWritten (p : List Byte) (s : State) :
    Posted (allInputs.flatMap fun d => recoveries d (s.input d)) s (mapWritten p s) := by
  have ended := posted_foldl endFaultsByMap_onInput posted_endFaultsByMap allInputs_nodup s
  exact ended.after (by simp [mapWritten]) (by simp [mapWritten])

theorem mapWritten_frame (p : List Byte) (s : State) : (mapWritten p s).records = s.records ∧ (mapWritten p s).rate = s.rate ∧
    (mapWritten p s).sched = s.sched ∧ (mapWritten p s).meter = s.meter ∧ (mapWritten p s).drives = s.drives ∧
    (mapWritten p s).plans = s.plans ∧ (mapWritten p s).limits = s.limits := by
  simp [mapWritten]

theorem mapWritten_failedOff (p : List Byte) (s : State) (i : Fin 3) : ((mapWritten p s).dfeLane i).failedOff = 0 := by
  unfold mapWritten
  generalize allInputs.foldl _ _ = t
  show ((orderEach _ [0, 1, 2] t).dfeLane i).failedOff = 0
  obtain rfl | rfl | rfl : i = 0 ∨ i = 1 ∨ i = 2 := by revert i; decide
  all_goals simp [orderEach]

/-! ### Spill judged under the new map -/

theorem judgeSpillOff_disengaged {s : State} (off : Disengaged s) :
    judgeSpillOff true s = s ∨ ∃ n, judgeSpillOff true s = (s.putSpill false).post .spillOff 0 n := by
  cases active : s.rate.spillActive with
  | false => exact .inl (judgeSpillOff_idle active)
  | true =>
    cases ends : spillOffCase s with
    | none => exact .inl (judgeSpillOff_none ends)
    | some n => exact .inr ⟨n, (judgeSpillOff_case active ends).trans (recombine_disengaged (s := (s.putSpill false).post .spillOff 0 n) off)⟩

theorem judgeSpillOff_frame_disengaged {s t : State} (off : Disengaged s) (judged : judgeSpillOff true s = t) :
    t.inputs = s.inputs ∧ t.dfeLanes = s.dfeLanes ∧ t.meter = s.meter ∧ t.counter = s.counter ∧ t.records = s.records ∧
      t.limits = s.limits ∧ t.plans = s.plans ∧ t.sched = s.sched ∧ t.drives = s.drives ∧ EventsContinue s t ∧
      (s.rate.spillActive = false → t.events = s.events) := by
  obtain same | ⟨n, falls⟩ := judgeSpillOff_disengaged off
  · rw [← judged, same]
    exact ⟨rfl, rfl, rfl, rfl, rfl, rfl, rfl, rfl, rfl, .refl s, fun _ => rfl⟩
  · refine ⟨?_, ?_, ?_, ?_, ?_, ?_, ?_, ?_, ?_, ?_, fun idle => by rw [← judged, judgeSpillOff_idle idle]⟩
    case refine_10 =>
      rw [← judged, falls]
      exact eventsContinue_post (s.putSpill false) .spillOff 0 n
    all_goals
      rw [← judged, falls]
      simp [State.putSpill]

/-! ### The command -/

/-- What an accepted map leaves of the state `s` in `t`, the reply apart. -/
structure MapAccepted (p : List Byte) (s t : State) : Prop where
  input : ∀ d, t.input d = (freed (s.input d)).remap (entryOf p d)
  events : EventsContinue (s.postEach (allInputs.flatMap fun d => recoveries d (s.input d))) t
  quiet : s.rate.spillActive = false → t.events = (s.postEach (allInputs.flatMap fun d => recoveries d (s.input d))).events
  failedOff : ∀ i, (t.dfeLane i).failedOff = 0
  meter : t.meter = s.meter
  counter : t.counter = s.counter
  records : t.records = s.records
  limits : t.limits = s.limits
  plans : t.plans = s.plans
  sched : t.sched = s.sched
  drives : t.drives = s.drives

theorem writeMap_accepted {s : State} (p : List Byte) (mode : s.mode = .dark ∨ s.mode = .faultDark) :
    MapAccepted p s (writeMap p s) := by
  obtain ⟨records, rate, sched, meter, drives, plans, limits⟩ := mapWritten_frame p s
  have input := mapWritten_input p s
  have failedOff := mapWritten_failedOff p s
  have posted := posted_mapWritten p s
  rw [writeMap_eq]
  generalize mapWritten p s = u at *
  have out : u.mode ≠ .metering ∧ u.mode ≠ .hold := by
    have same : u.mode = s.mode := congrArg (·.mode) meter
    rw [same]
    obtain dark | dark := mode <;> simp [dark]
  have frame := judgeSpillOff_frame_disengaged (s := u) out rfl
  generalize judgeSpillOff true u = t at *
  obtain ⟨inputs', dfe', meter', counter', records', limits', plans', sched', drives', continues, quiet⟩ := frame
  have still : takePending t = t := takePending_of_mode (by rw [State.mode, meter']; exact out.1)
  rw [still]
  exact {
    input := fun d => by rw [State.input, inputs', ← State.input, input]
    events := posted.continue.trans continues
    quiet := fun idle => (quiet (by rw [rate]; exact idle)).trans posted.1
    failedOff := fun i => by rw [State.dfeLane, dfe', ← State.dfeLane, failedOff]
    meter := meter'.trans meter
    counter := counter'.trans posted.2
    records := records'.trans records
    limits := limits'.trans limits
    plans := plans'.trans plans
    sched := sched'.trans sched
    drives := drives'.trans drives }

/-- The frame that carries a map and the reply to it change nothing that the map's outcome is about. -/
theorem MapAccepted.framed {p q : List Byte} {s t : State} (kind tag : Byte) (status : Status)
    (h : MapAccepted p (received .L false s) t) : MapAccepted p s (answered .L kind tag status q t) := by
  have same : ∀ d, (received .L false s).input d = s.input d := fun d => by simp [State.input]
  obtain ⟨input, events, quiet, failedOff, meter, counter, records, limits, plans, sched, drives⟩ := h
  have posted := postEach_events (s := s) (t := received .L false s) (by simp) (by simp)
    (allInputs.flatMap fun d => recoveries d (s.input d))
  simp only [same, received_frame] at input events quiet meter counter records limits plans sched drives
  constructor
  case events => exact fun l => by rw [answered_events, ← posted]; exact events l
  case quiet => exact fun idle => by rw [answered_events, ← posted]; exact quiet idle
  all_goals
    simp only [answered_input, answered_dfeLane, answered_frame]
    assumption

theorem requestAnswer_map (tag : Byte) (p : List Byte) (s : State) : requestAnswer (.writeDetectorMap .L tag p) s =
    if s.mode = .dark ∨ s.mode = .faultDark then
      withLength 128 p (withFields (mapChecks p) fun s => accept (writeMap p s) []) s
    else refuse s .wrongMode := rfl

section Command
variable {s : State} {p : List Byte} (tag : Byte) (steady : SteadyFrame .L false s)
include steady

theorem exec_map_wrongMode (dark : s.mode ≠ .dark) (faultDark : s.mode ≠ .faultDark) :
    exec (.writeDetectorMap .L tag p) s = .next (answered .L 0x42 tag .wrongMode [] (received .L false s)) := by
  refine exec_onL rfl (by simp) steady rfl (a := refuse (received .L false s) .wrongMode) ?_
  rw [requestAnswer_map, received_mode, if_neg (by simp [dark, faultDark])]

variable (mode : s.mode = .dark ∨ s.mode = .faultDark)
include mode

theorem exec_map_wrongLength (len : p.length ≠ 128) :
    exec (.writeDetectorMap .L tag p) s = .next (answered .L 0x42 tag .range [255] (received .L false s)) := by
  refine exec_onL rfl (by simp) steady rfl (a := refuseRange (received .L false s) 255) ?_
  rw [requestAnswer_map, received_mode, if_pos mode, withLength_of_ne len]

theorem exec_map_badField {k : Nat} (len : p.length = 128) (fail : firstFailure (mapChecks p) = some k) :
    exec (.writeDetectorMap .L tag p) s = .next (answered .L 0x42 tag .range [byte k] (received .L false s)) := by
  refine exec_onL rfl (by simp) steady rfl (a := refuseRange (received .L false s) k) ?_
  rw [requestAnswer_map, received_mode, if_pos mode, withLength_of_eq len, withFields_of_fail fail]

theorem exec_map_accepted (len : p.length = 128) (pass : firstFailure (mapChecks p) = none) :
    exec (.writeDetectorMap .L tag p) s = .next (answered .L 0x42 tag .accepted [] (writeMap p (received .L false s))) := by
  refine exec_acceptedL rfl (by simp) steady rfl ?_
  rw [requestAnswer_map, received_mode, if_pos mode, withLength_of_eq len, withFields_of_pass pass]

end Command

/-- The entry of an input under a map whose fields are in range. -/
theorem remap_entry {p : List Byte} {d : Fin 16} (ok : ∀ j < 8, MapFieldOk p d j) (x : Input) :
    let e := (x.remap (entryOf p d)).entry
    e.role.code = byteAt p (8 * d.val) ∧ laneByte e.lane = byteAt p (8 * d.val + 1) ∧ e.onFilter = byteAt p (8 * d.val + 2) ∧
      e.offFilter = byteAt p (8 * d.val + 3) ∧ e.stuckTime = word16At p (8 * d.val + 4) ∧
      e.chatterLimit = byteAt p (8 * d.val + 6) ∧ e.faultMode.code = byteAt p (8 * d.val + 7) := by
  have offset : d.val * 8 = 8 * d.val := Nat.mul_comm ..
  refine ⟨entryOf_role ok, entryOf_lane ok, ?_, ?_, ?_, ?_, entryOf_faultMode ok⟩
  all_goals
    rw [← offset]
    rfl

/-- What an input keeps, and what it begins anew, under a map written. -/
theorem remap_freed (e : MapEntry) (x : Input) :
    let y := (freed x).remap e
    y.cond = x.cond ∧ y.raw = x.raw ∧ y.volume = x.volume ∧ y.onTime = x.onTime ∧ y.chatter = x.chatter ∧ y.seen = x.seen ∧
      y.anyFault = false ∧ y.stuck = 0 ∧ y.filter = x.filter.map (fun _ => if x.raw then y.entry.onFilter else y.entry.offFilter) ∧
      (y.run.isSome = true ↔ y.entry.role = .spillback) ∧
      (x.anyFault = false → y.entry.role = .spillback → y.run = some (x.run.getD ⟨x.cond, 0⟩)) := by
  obtain ⟨cond, raw, filter, -, volume, chatter, -, onTime⟩ := keepsSignal_freed x
  refine ⟨cond, raw, volume, onTime, chatter, freed_seen x, freed_anyFault x, rfl, ?_, ?_, fun idle role => ?_⟩
  · show (freed x).filter.map (fun _ => e.filterTime (freed x).raw) = _
    rw [filter, raw]
    rfl
  · show _ ↔ e.role = .spillback
    rw [remap_run e (freed x) (freed_anyFault x)]
    split <;> simp [*]
  · rw [freed_idle idle, remap_run e x idle, if_pos]
    exact role

/-- Settles O52: the map written and its refusals, and when the checks pass. -/
theorem writeDetectorMapReplacesTheMap : Obligations.WriteDetectorMapReplacesTheMap := by
  unfold Obligations.WriteDetectorMapReplacesTheMap
  refine ⟨fun tag p s steady => ⟨fun mode len pass => ?_, exec_map_wrongMode tag steady, exec_map_wrongLength tag steady,
    fun k mode len fail => exec_map_badField tag steady mode len fail⟩,
    fun p => ⟨mapChecks_pass p, fun d j place => firstFailure_field place, fun d => firstFailure_tally⟩⟩
  obtain ⟨ok, -⟩ := (mapChecks_pass p).mp pass
  have run := exec_map_accepted tag steady mode len pass
  have accepted := (writeMap_accepted p (s := received .L false s) mode).framed (q := []) 0x42 tag .accepted
  have reply := Capabilities.answered_lastReply .L 0x42 tag .accepted [] (writeMap p (received .L false s))
  generalize answered .L 0x42 tag .accepted [] (writeMap p (received .L false s)) = t at *
  refine ⟨t, run, reply, fun d => ?_, fun d => ?_, ?_, accepted.failedOff, congrArg (·.mode) accepted.meter, accepted.counter,
    accepted.records, accepted.limits, accepted.plans, accepted.sched, accepted.drives⟩
  · rw [accepted.input d]
    exact remap_entry (ok d) _
  · rw [accepted.input d]
    exact remap_freed _ _
  · rw [← List.flatMap_def]
    exact ⟨accepted.events, accepted.quiet⟩

end Sys2Proof.MapWriting
end
